-- ==== Sys2Proof/Word.lean ====
section
/-! DEFINITION. The plain types of the model: bytes, station addresses, and the fixed figures of the manual. -/

namespace Sys2Proof

/-- One byte of a frame. -/
abbrev Byte := BitVec 8

/-- A 48-bit station address; its most significant byte is the first byte as sent (00, Terms). -/
abbrev Addr := BitVec 48

/-- The running time and the 32-bit figures of the messages are held modulo this (R2). -/
def wordModulus : Nat := 4294967296

/-- The largest item code (1.1). -/
def maxItemCode : Nat := 99999999999999

/-- The largest unit price, compare price and base price (00, Conventions). -/
def maxPrice : Nat := 9999999

/-- The largest extended price (00, Conventions). -/
def maxExtended : Nat := 99999999

/-- Seconds in a day (R2). -/
def daySeconds : Nat := 86400

/-- The largest store time: 65,535 days and 86,399 seconds (5.1). -/
def maxStoreTime : Nat := 5662310399

end Sys2Proof
end

