-- ==== Sys2Proof/Syntax.lean ====
section
/-! DEFINITION. The commands of the block: one constructor of `Instr` per row of spec/opcode_table.json, with its operands. -/

namespace Sys2Proof

/-- The five segments; the port of the same place is tied to each (00, Segments and ports). -/
inductive Seg where
  | uplink   -- P0
  | till     -- P1
  | label    -- P2
  | guest    -- P3
  | office   -- P4
deriving DecidableEq, Repr

/-- A port, named by the segment tied to it. -/
abbrev Port := Seg

/-- The speeds a link is established with (R138). -/
inductive Speed where
  | mbps1000
  | mbps100
deriving DecidableEq, Repr

/-- The levels of the strap pins at a latch (R194): strap n is bit n of `address`. -/
structure Straps where
  address : Byte
  trustUplink : Bool
deriving DecidableEq, Repr

/-- The six generators of branch messages (R161). -/
inductive Generator where
  | tillService
  | journalUpload
  | labelDispatcher
  | uplinkMonitor
  | exchangeUnit
  | managementUnit
deriving DecidableEq, Repr

/-- A frame: addresses, EtherType, and the bytes between the EtherType and the frame check sequence (13.1). -/
structure Frame where
  dst : Addr
  src : Addr
  etherType : BitVec 16
  payload : List Byte
deriving DecidableEq, Repr

/-- A frame received in full on a port with an agreeing frame check sequence. `beforeLoss` says that the reception ended
before the port's link was lost, the one way a frame reaches the classifier from a port whose link is down (R132, log 15). -/
structure FrameArrival where
  port : Port
  frame : Frame
  beforeLoss : Bool
deriving DecidableEq, Repr

/-- A branch message of version 1 addressed to the part, received in full: its source, its body length field, and the bytes
from the first of the body up to the frame check sequence, padding included (13.1). Its kind is the command's. -/
structure BranchArrival where
  port : Port
  src : Addr
  bodyLength : BitVec 16
  bytes : List Byte
  beforeLoss : Bool
deriving DecidableEq, Repr

/-- The commands of the block. -/
inductive Instr where
  | powerOn (straps : Straps)
  | resetPin (straps : Straps)
  | linkUp (port : Port) (speed : Speed)
  | linkDown (port : Port) (receiving : Bool)
  | damagedFrame (port : Port)
  | ordinaryFrame (arrival : FrameArrival)
  | priceAsk (message : BranchArrival)
  | saleRecord (message : BranchArrival)
  | takeIntakeEntry
  | itemReply (message : BranchArrival)
  | askTimeout (entry : Nat)
  | journalSend
  | pacingRefill
  | journalAck (message : BranchArrival)
  | ackTimeout
  | labelResult (message : BranchArrival)
  | pushTimeout (tag : Nat)
  | clockSecond
  | activation
  | exchOpen (message : BranchArrival)
  | priceChange (message : BranchArrival)
  | exchClose (message : BranchArrival)
  | quietTimeout
  | commitChange
  | probeTimer
  | linkEcho (message : BranchArrival)
  | ageingStep
  | guestSecondStep
  | bucketRefill
  | transmitEnd (port : Port)
  | heldMessageReoffer (order : List Generator)
  | occupancySample
  | mgmtReq (message : BranchArrival)
  | itemRead
  | itemWrite
  | itemDelete
  | labelRead
  | labelWrite
  | labelRepush
  | stationRead
  | stationWrite
  | stationDelete
  | pendingRead
  | pendingCancel
  | settingRead
  | settingWrite
  | clockSet
  | uplinkForce
  | counterProgram
  | counterSnapshot
  | counterRead
  | stateRead
  | noticeClear
  | resetFull
  | resetTraffic
  | unknownCommand
  | alertPulseEnd
  | portLampExpiry (port : Port)
deriving DecidableEq, Repr

end Sys2Proof
end

