-- ==== Sys2Proof/Config.lean ====
section
/-! DEFINITION. What the manual leaves open, as free values: constants without a body, of which nothing can be proved. -/

namespace Sys2Proof

/-- A field of an answer or notice whose codes 13.2 does not list (log 10). -/
inductive OpenField where
  | gaveUpReason        -- LABEL-GAVE-UP: RETRIES 0, REFUSED 1 (R81)
  | lastOutcome         -- LABEL-GAVE-UP: TIMEOUT 0 (R81); 13.2 lists RADIO-BUSY and NO-REPLY
  | activationReason    -- ACTIVATION-FAILED: BUCKET-FULL 0, BAD-FIELD 1, NO-ITEM 2, LABELS-FULL 3 (R93)
  | batchReason         -- BATCH-RESULT: LINK 7, RESET 8, which CLOSE-REPORT never carries (R108, R114)
  | displayState        -- LABEL-READ: NEVER-SHOWN 0, SHOWING 1, BLANK-SHOWN 2 (R82)
  | reach               -- LABEL-READ: UNREACHABLE 0, REACHABLE 1
  | entryState          -- LABEL-READ: no entry 0, WAITING 1, IN-FLIGHT 2
  | priority            -- LABEL-READ: NORMAL 0, HIGH 1
  | origin              -- STATION-READ: LEARNED 0, LOADED 1
  | linkState           -- STATE-READ FORWARDING: down 0, up 1
  | windowState         -- STATE-READ SCHEDULE: OUT 0, IN 1
  | egressClass         -- STATE-READ CELLS: URGENT 0, STORE 1, GUEST 2, no frame 3
  | counterMode         -- COUNTER-READ: mode of a counter that has none 0
deriving DecidableEq, Repr

/-- FREE VALUE (log 10): the code by which the part sends value `v` of a field whose codes the manual does not list. -/
opaque Config.openCode : OpenField → Nat → Byte

/-- FREE VALUE (log 11): how an adopt byte that is neither 0 (off) nor 1 (on) is judged: as off, as on, or (none) as a code
outside its list, which makes the reply a bad one (R202). -/
opaque Config.adoptReserved : Byte → Option Bool

/-- FREE VALUE (log 36): which of R59's sentences holds when clearing the head-office address brings FALLBACK: the last ones, by
which the SENT records stay SENT and the ack timer runs on to its expiry, or the first, by which the upload rewinds at once. -/
opaque Config.clearedKeepsSent : Bool

/-- FREE VALUE (log 36): which of R38's sentences holds when clearing the head-office address brings FALLBACK: the one by which the
live asks stand and end by reply or time-out, or the first, by which each is answered UNKNOWN with NO-LINK at once. -/
opaque Config.clearedKeepsAsks : Bool

/-- FREE VALUE (log 3): the choices of the order in which the part takes events that fall due together. -/
opaque Config.order : Nat → Nat

end Sys2Proof
end

