-- ==== Sys2Proof/Machine/State.lean ====
section
/-! DEFINITION. The state of the part as plain data, block by block, and the state right after reset (power-on, log 4). -/

namespace Sys2Proof.Machine

/-- Why the machine stops with a fault. The spec gives every command an effect in every state, so there is no fault: the
type has no constructor (INVENTORY, Faults). -/
inductive Fault
deriving DecidableEq, Repr

/-- Why a command has no meaning. -/
inductive Refusal where
  /-- Raised by an arm of `exec` whose command has no meaning yet. Safe: the machine stops. No arm raises it. -/
  | notModelled (mnemonic : String)
deriving DecidableEq, Repr

/-- A sparse table: records by key, keys strictly rising. -/
abbrev SMap (α : Type) := List (Nat × α)

/-- One value for each of the five segments, or ports. -/
structure PerSeg (α : Type) where
  uplink : α
  till : α
  label : α
  guest : α
  office : α
deriving DecidableEq, Repr

/-! ### Settings (12.2) -/

/-- Alert mode (R197). -/
inductive AlertMode where
  | level
  | pulse
deriving DecidableEq, Repr

/-- Sources of a lamp (R198). -/
inductive LampSource where
  | uplinkUp
  | fallback
  | windowIn
  | exchangeActive
  | labelBacklog
  | journalHigh
  | noticePending
  | port (p : Port)
deriving DecidableEq, Repr

/-- A cell of the segment policy matrix (R150). -/
inductive PolicyCell where
  | deny
  | permit
  | shaped
deriving DecidableEq, Repr

/-- The settings of R193. -/
structure Settings where
  stationAddr : Addr
  branchType : BitVec 16
  headOffice : Addr
  noticeAddr : Addr
  trustUplink : Bool
  alertMode : AlertMode
  pulseWidth : Nat
  lamp0 : LampSource
  lamp1 : LampSource
  lamp2 : LampSource
  lamp3 : LampSource
  askTimeout : Nat
  trickleRate : Nat
  windowRate : Nat
  ackTimeout : Nat
  highWater : Nat
  baseWindow : Nat
  pushTimeout : Nat
  retryLimit : Nat
  openSecond : Nat
  closeSecond : Nat
  anyTime : Bool
  probeInterval : Nat
  expectedRtt : Nat
  hysteresis : Nat
  ageLimit : Nat
  /-- The twenty cells, row by row as in R150, diagonal left out. -/
  policy : List PolicyCell
  lease : Nat
  coolOff : Nat
  clientRate : Nat
  clientDepth : Nat
  guestRate : Nat
  windowShare : Nat
  aggDepth : Nat
deriving DecidableEq, Repr

/-! ### Item table (1.1) -/

/-- Sale mode (1.1). -/
inductive SaleMode where
  | each
  | weighed
deriving DecidableEq, Repr

/-- Pack measure (1.1). -/
inductive Measure where
  | gram
  | millilitre
  | piece
deriving DecidableEq, Repr

/-- A promotion with exactly the parameters of its kind (1.1, R3). -/
inductive Promotion where
  | absent
  | percent (basisPoints : Nat)
  | fixed (price : Nat)
  | multibuy (count total : Nat)
deriving DecidableEq, Repr

/-- The writable fields of an item record (1.1). -/
structure ItemFields where
  mode : SaleMode
  base : Nat
  tax : Nat
  packQuantity : Nat
  measure : Measure
  refQuantity : Nat
  honour : Bool
  promo : Promotion
deriving DecidableEq, Repr

/-- An item record (1.1). -/
structure ItemRec where
  code : Nat
  fields : ItemFields
  version : Nat
  labels : List Nat
deriving DecidableEq, Repr

/-- The fields a partial write carries (R8); the promotion is carried whole or not at all. -/
structure PartialFields where
  mode : Option SaleMode
  base : Option Nat
  tax : Option Nat
  packQuantity : Option Nat
  measure : Option Measure
  refQuantity : Option Nat
  honour : Option Bool
  promo : Option Promotion
deriving DecidableEq, Repr

/-! ### Shelf labels (4.1, 4.3) -/

/-- A promotion as a label shows it: its kind, with N and T for MULTIBUY (R63). -/
inductive ShownPromo where
  | absent
  | percent
  | fixed
  | multibuy (count total : Nat)
deriving DecidableEq, Repr

/-- The content of a PRICE push, or what a label shows (R63, R75). -/
structure Content where
  unitPrice : Nat
  comparePrice : Nat
  mode : SaleMode
  promo : ShownPromo
  version : Nat
deriving DecidableEq, Repr

/-- Display state, with the displayed content in SHOWING alone (R63). -/
inductive Display where
  | neverShown
  | showing (content : Content)
  | blankShown
deriving DecidableEq, Repr

/-- A label record (R63). -/
structure LabelRec where
  radio : Nat
  base : Nat
  bound : Option Nat
  display : Display
  reachable : Bool
  overflow : Bool
deriving DecidableEq, Repr

/-- The content snapshot of a push (R75). -/
inductive Snapshot where
  | blank
  | price (content : Content)
deriving DecidableEq, Repr

/-- What an IN-FLIGHT entry also holds (R66). `serial` is the order of tag allocation (log 20). -/
structure Flight where
  tag : Nat
  base : Nat
  radio : Nat
  snapshot : Snapshot
  sent : Nat
  serial : Nat
  superseded : Bool
  rebound : Bool
deriving DecidableEq, Repr

/-- A label-queue entry (R66): `flight` is none in WAITING. -/
structure LabelEntry where
  label : Nat
  isPrice : Bool
  high : Bool
  attempts : Nat
  stamp : Nat
  flight : Option Flight
deriving DecidableEq, Repr

/-! ### Generated messages (13) -/

/-- The kinds of branch message (00, Branch message kinds). -/
inductive MsgKind where
  | priceAsk
  | priceAns
  | saleRecord
  | saleTaken
  | linkState
  | itemQuery
  | itemReply
  | labelPush
  | labelResult
  | exchOpen
  | exchAnswer
  | priceChange
  | exchClose
  | closeReport
  | journalSend
  | journalAck
  | linkProbe
  | linkEcho
  | mgmtReq
  | mgmtAns
  | notice
deriving DecidableEq, Repr

/-- A message the part has built (R203): the branch message type and its own address as they stood then. -/
structure Msg where
  port : Port
  dst : Addr
  src : Addr
  etherType : BitVec 16
  kind : MsgKind
  body : List Byte
deriving DecidableEq, Repr

/-- The label dispatcher's state beside the label table (4.3, 4.5). The queue is held in order of order stamp. `held` is the
push waiting for cells with its push tag. -/
structure Dispatcher where
  queue : List LabelEntry
  nextStamp : Nat
  nextTag : Nat
  nextSerial : Nat
  held : Option (Nat × Msg)
deriving DecidableEq, Repr

/-! ### Till service (2) -/

/-- Quantity kind (R16). -/
inductive QtyKind where
  | count
  | grams
deriving DecidableEq, Repr

/-- What a till's message asks for (R27). -/
inductive IntakeWork where
  | ask (tillNumber tag code : Nat) (kind : QtyKind) (quantity : Nat)
  | sale (tillNumber saleSeq : Nat) (body : List Byte)
deriving DecidableEq, Repr

/-- An intake queue entry (R27). -/
structure IntakeEntry where
  src : Addr
  work : IntakeWork
deriving DecidableEq, Repr

/-- A live ask-table entry (R32). -/
structure LiveAsk where
  src : Addr
  tag : Nat
  code : Nat
  kind : QtyKind
  quantity : Nat
  sent : Nat
deriving DecidableEq, Repr

/-- A till register row that is not empty (R39). -/
structure TillRow where
  saleSeq : Nat
  journalSeq : Nat
deriving DecidableEq, Repr

/-- The till service (2). `asks` holds the live entries by number, `generations` those that are not 0. -/
structure TillService where
  intake : List IntakeEntry
  asks : SMap LiveAsk
  generations : SMap Nat
  register : SMap TillRow
  backlog : List Msg
deriving DecidableEq, Repr

/-! ### Sale journal (3) -/

/-- A journal record (R49); its body length is the length of `body`. -/
structure SaleRec where
  seq : Nat
  till : Nat
  saleSeq : Nat
  time : Nat
  body : List Byte
deriving DecidableEq, Repr

/-- The sale journal and its upload (3). Records stand oldest first. `ackTimer` holds the running time it started at. -/
structure Journal where
  records : List SaleRec
  release : Nat
  next : Nat
  free : Nat
  fresh : Bool
  credit : Nat
  ackTimer : Option Nat
  held : Option Msg
  highArmed : Bool
  fullArmed : Bool
deriving DecidableEq, Repr

/-! ### Store clock, schedule and exchange (5, 6) -/

/-- The store clock (R85). -/
structure Clock where
  isSet : Bool
  day : Nat
  second : Nat
  phase : Nat
deriving DecidableEq, Repr

/-- The four change kinds (R89). -/
inductive ChangeKind where
  | set
  | delete
  | bind
  | unbind
deriving DecidableEq, Repr

/-- A change kind with its change fields (R89). -/
inductive ChangeAction where
  | set (fields : PartialFields)
  | delete
  | bind (label : Nat)
  | unbind (label : Nat)
deriving DecidableEq, Repr

/-- A staged change (R99). -/
structure Change where
  code : Nat
  time : Nat
  seq : Nat
  action : ChangeAction
deriving DecidableEq, Repr

/-- A pending-list entry (R89). -/
structure PendingEntry where
  change : Change
  batch : Nat
  stamp : Nat
deriving DecidableEq, Repr

/-- The pending list in its order, and the commit counter (R89). -/
structure Sched where
  entries : List PendingEntry
  commitCounter : Nat
deriving DecidableEq, Repr

/-- The batch context of STAGING (R99). `broken` holds the expected and the arrived sequence; `quiet` the running time at
which the quiet timer was last started. -/
structure StagingCtx where
  batch : Nat
  announced : Nat
  expected : Nat
  received : Nat
  sum : Nat
  broken : Option (Nat × Nat)
  refused : Nat
  refusedList : List Nat
  quiet : Nat
  staging : List Change
deriving DecidableEq, Repr

/-- What the exchange unit keeps while COMMITTING (R99, R110). -/
structure CommitCtx where
  batch : Nat
  received : Nat
  refused : Nat
  committed : Nat
  refusedList : List Nat
  queue : List Change
deriving DecidableEq, Repr

/-- The exchange state (R99), with the context that belongs to each. -/
inductive ExchState where
  | idle
  | staging (ctx : StagingCtx)
  | committing (ctx : CommitCtx)
deriving DecidableEq, Repr

/-- The exchange unit (6). -/
structure Exchange where
  state : ExchState
  lastBatch : Nat
  outbox : List Msg
deriving DecidableEq, Repr

/-- Reasons a batch is discarded for (R108), in the order of R108 and R182. -/
inductive DiscardReason where
  | broken
  | count
  | sum
  | noSpace
  | window
  | quiet
  | link
  | reset
deriving DecidableEq, Repr

/-! ### Uplink monitor (7) -/

/-- Uplink state (R123). -/
inductive UplinkState where
  | up
  | degraded
  | fallback
  | recovering
deriving DecidableEq, Repr

/-- Causes of an uplink change (R135). -/
inductive UplinkCause where
  | echoes
  | lost
  | answer
  | linkDown
  | address
  | force
  | reset
deriving DecidableEq, Repr

/-- The probe record (R123); its waiting flag is `Uplink.held`. -/
structure Probe where
  seq : Nat
  sent : Nat
  answered : Bool
deriving DecidableEq, Repr

/-- The uplink monitor (R123). `timer` holds the running time the probe timer runs from. -/
structure Uplink where
  state : UplinkState
  force : Bool
  seq : Nat
  probe : Option Probe
  held : Option Msg
  timer : Option Nat
  slowRun : Nat
  goodRun : Nat
  lostRun : Nat
  lastRtt : Option Nat
  history : List Nat
deriving DecidableEq, Repr

/-! ### Ports, cell pool and egress queues (8.1, 9) -/

/-- Egress class (R152). -/
inductive Cls where
  | urgent
  | store
  | guest
deriving DecidableEq, Repr

/-- Origin of a queued frame (R156). -/
inductive Origin where
  | forwarded
  | generated (g : Generator) (kind : MsgKind)
deriving DecidableEq, Repr

/-- A queued frame (R156); its length and cells follow from the frame. -/
structure QFrame where
  frame : Frame
  cls : Cls
  origin : Origin
  payment : Bool
deriving DecidableEq, Repr

/-- A port (R138, R156, R162): link with its speed, the three queues, the frame in transmission, and the running time of the
last frame, for the port lamps (R198). -/
structure PortUnit where
  link : Option Speed
  urgent : List QFrame
  store : List QFrame
  guest : List QFrame
  tx : Option QFrame
  activity : Option Nat
deriving DecidableEq, Repr

/-- The five ports and the cell pool (9). `reoffer` marks a return of cells after which the generators have not yet offered
again (R161, log 23). -/
structure Pool where
  ports : PerSeg PortUnit
  free : Nat
  reoffer : Bool
deriving DecidableEq, Repr

/-! ### Station table and guest unit (8.2, 10) -/

/-- Station class, with the base station number (R140). -/
inductive StationClass where
  | tillStation
  | baseStation (number : Nat)
  | guestClient
  | officeStation
  | other
deriving DecidableEq, Repr

/-- A station-table entry (R140). -/
structure Station where
  addr : Addr
  seg : Seg
  cls : StationClass
  loaded : Bool
  age : Nat
  misplaced : Bool
deriving DecidableEq, Repr

/-- The station table, keyed by address, and the milliseconds since its last ageing step (R144). -/
structure Stations where
  table : SMap Station
  sinceStep : Nat
deriving DecidableEq, Repr

/-- A guest record (R168). -/
structure GuestRec where
  addr : Addr
  lease : Nat
  level : Nat
  rem : Nat
  bytesUp : Nat
  bytesDown : Nat
  discarded : Nat
deriving DecidableEq, Repr

/-- The guest unit (10). The cool-off list stands oldest first. -/
structure Guest where
  table : SMap GuestRec
  coolOff : List (Addr × Nat)
  level : Nat
  rem : Nat
  rate : Nat
  sinceStep : Nat
deriving DecidableEq, Repr

/-! ### Monitor (11) -/

/-- The thirty count events of R182, in its order. -/
inductive CountEvent where
  | framesReceived
  | framesSent
  | framesDiscarded
  | framesFiltered
  | stationMoves
  | learningRefusals
  | foreignAsks
  | intakeOverflows
  | duplicateAsks
  | asksAnswered
  | queriesSent
  | askTimeouts
  | lateReplies
  | badReplies
  | journalRecords
  | staleAcks
  | badAcks
  | ackTimeouts
  | labelPushes
  | queueOverflows
  | labelOutcomes
  | oddResults
  | activations
  | strayMessages
  | ignoredRecords
  | breaks
  | refusedRecords
  | batchesEnded
  | probeOutcomes
  | oddEchoes
deriving DecidableEq, Repr

/-- The six occupancies of R184. -/
inductive Occupancy where
  | askTable
  | labelQueue
  | journal
  | pending
  | cells
  | guestCells
deriving DecidableEq, Repr

/-- Modes of an occupancy counter (R185). -/
inductive CounterMode where
  | plain
  | level (threshold : Nat) (invert : Bool)
  | edge (threshold : Nat) (invert : Bool)
deriving DecidableEq, Repr

/-- A counter's source with its filter or mode (R181). -/
inductive CounterSource where
  | none
  | event (e : CountEvent) (quals : BitVec 16) (ports : BitVec 8) (classes : BitVec 8)
  | occupancy (o : Occupancy) (mode : CounterMode)
deriving DecidableEq, Repr

/-- A counter (R181). -/
structure Counter where
  source : CounterSource
  value : Nat
  wrapped : Bool
  lastMet : Bool
deriving DecidableEq, Repr

/-- The hold set (R187). -/
structure HoldSet where
  values : List (Nat × Bool)
  occupancies : List Nat
  number : Nat
  time : Nat
deriving DecidableEq, Repr

/-- A management request (R190): its tag, command code and the bytes of its command fields. -/
structure Request where
  src : Addr
  port : Port
  tag : Nat
  code : Nat
  fields : List Byte
deriving DecidableEq, Repr

/-- The monitor (11). `waiting` are the COUNTER-SNAPSHOT requests to be answered at the copy (R187). -/
structure Monitor where
  counters : List Counter
  hold : HoldSet
  due : Bool
  waiting : List Request
deriving DecidableEq, Repr

/-! ### Management unit (12) -/

/-- The outcomes of a push that can end an update, but for REFUSED (R81). -/
inductive FailOutcome where
  | radioBusy
  | noReply
  | timeout
deriving DecidableEq, Repr

/-- Reasons of ACTIVATION-FAILED (R93). -/
inductive ActFailReason where
  | bucketFull
  | badField
  | noItem
  | labelsFull
deriving DecidableEq, Repr

/-- The eight kinds of notice with their fields (12.4). `labelGaveUp` carries the last outcome for RETRIES and none for
REFUSED; `batchResult` the discard reason, or none for COMMITTED. -/
inductive NoticeBody where
  | uplinkState (before after : UplinkState) (cause : UplinkCause) (lastRtt : Option Nat) (expected : Nat)
  | journalHigh (count : Nat)
  | journalFull (count : Nat)
  | labelGaveUp (label radio base : Nat) (bound : Option Nat) (last : Option FailOutcome)
  | activationFailed (code : Nat) (kind : ChangeKind) (time batch seq : Nat) (reason : ActFailReason) (label : Option Nat)
  | batchResult (batch : Nat) (discard : Option DiscardReason) (received committed refused lastBatch : Nat)
  | stationMisplaced (addr : Addr) (seg : Seg) (cls : StationClass) (arrivedOn : Seg)
  | tableFull (code : Nat)
deriving DecidableEq, Repr

/-- A notice in the notice queue (R195). -/
structure Notice where
  number : Nat
  body : NoticeBody
  storeTime : Nat
  runTime : Nat
  overflowed : Bool
  sent : Bool
deriving DecidableEq, Repr

/-- A message in the management outbox (R191); `notice` is the number of the notice a NOTICE carries. -/
structure OutItem where
  msg : Msg
  notice : Option Nat
deriving DecidableEq, Repr

/-- The alert line's pulse in PULSE mode (R197): idle, or a pulse or gap with its start and its width in ms. -/
inductive AlertPhase where
  | idle
  | pulsing (start width : Nat)
  | gap (start width : Nat)
deriving DecidableEq, Repr

/-- The management unit beside the settings and straps (12). -/
structure Mgmt where
  requests : List Request
  overflow : Nat
  outbox : List OutItem
  notices : List Notice
  nextNotice : Nat
  firstSender : Option (Addr × Port)
  owed : Nat
  alert : AlertPhase
deriving DecidableEq, Repr

/-! ### The machine -/

/-- The whole state. `pending` is the queue of waiting commands, first in first out; `choices` counts the free order choices
made (log 3). -/
structure State where
  pending : List Instr
  choices : Nat
  now : Nat
  straps : Straps
  settings : Settings
  items : SMap ItemRec
  labels : SMap LabelRec
  disp : Dispatcher
  till : TillService
  journal : Journal
  clock : Clock
  windowIn : Bool
  sched : Sched
  exch : Exchange
  uplink : Uplink
  pool : Pool
  stations : Stations
  guest : Guest
  mon : Monitor
  mgmt : Mgmt
deriving DecidableEq, Repr

/-- The reset matrix of R150, row by row, diagonal left out. -/
def resetPolicy : List PolicyCell :=
  [.permit, .deny, .permit, .permit,
   .permit, .deny, .deny, .permit,
   .deny, .deny, .deny, .permit,
   .shaped, .deny, .deny, .deny,
   .permit, .permit, .permit, .deny]

/-- The reset value of the station address: 02-00-00-00-00-xx (R194). -/
def strapAddress (straps : Straps) : Addr :=
  BitVec.ofNat 48 (0x020000000000 + straps.address.toNat)

/-- The reset values of the settings (R193, R194). -/
def resetSettings (straps : Straps) : Settings where
  stationAddr := strapAddress straps
  branchType := 0x88B6
  headOffice := 0
  noticeAddr := 0
  trustUplink := straps.trustUplink
  alertMode := .level
  pulseWidth := 1
  lamp0 := .uplinkUp
  lamp1 := .fallback
  lamp2 := .noticePending
  lamp3 := .labelBacklog
  askTimeout := 3
  trickleRate := 20
  windowRate := 400
  ackTimeout := 30
  highWater := 12288
  baseWindow := 4
  pushTimeout := 20
  retryLimit := 3
  openSecond := 3600
  closeSecond := 18000
  anyTime := false
  probeInterval := 1000
  expectedRtt := 40
  hysteresis := 3
  ageLimit := 300
  policy := resetPolicy
  lease := 3600
  coolOff := 600
  clientRate := 250000
  clientDepth := 65536
  guestRate := 2500000
  windowShare := 25
  aggDepth := 131072

/-- An empty, idle port with the link given. -/
def idlePort (link : Option Speed) : PortUnit := ⟨link, [], [], [], none, none⟩

/-- A counter that counts nothing (R189). -/
def idleCounter : Counter := ⟨.none, 0, false, false⟩

/-- Every block right after power-on with the straps latched as given: the reset rules R15, R48, R62, R83, R98, R122, R137,
R154, R166, R180, R189 and R200. The running time starts at 0 (log 5). -/
def powerOnState (straps : Straps) : State where
  pending := []
  choices := 0
  now := 0
  straps := straps
  settings := resetSettings straps
  items := []
  labels := []
  disp := ⟨[], 0, 0, 0, none⟩
  till := ⟨[], [], [], [], []⟩
  journal := ⟨[], 1, 1, 1, true, 0, none, none, true, true⟩
  clock := ⟨false, 0, 0, 0⟩
  windowIn := false
  sched := ⟨[], 1⟩
  exch := ⟨.idle, 0, []⟩
  uplink := ⟨.fallback, false, 1, none, none, none, 0, 0, 0, none, []⟩
  pool := ⟨⟨idlePort none, idlePort none, idlePort none, idlePort none, idlePort none⟩, 8192, false⟩
  stations := ⟨[], 0⟩
  guest := ⟨[], [], 131072, 0, 0, 0⟩
  mon := ⟨List.replicate 8 idleCounter, ⟨List.replicate 8 (0, false), List.replicate 6 0, 0, 0⟩, false, []⟩
  mgmt := ⟨[], 0, [], [], 1, none, 0, .idle⟩

/-- The machine right after reset: power-on with every strap low (log 4). -/
def State.reset : State := powerOnState ⟨0, false⟩

end Sys2Proof.Machine
end

