-- ==== Sys2Proof/Machine/Table.lean ====
section
/-! DEFINITION. Sparse tables with rising keys, one value per segment, and the small list operations the blocks share. -/

namespace Sys2Proof.Machine

/-- The record at key `k`. -/
def Tbl.get {α : Type} : SMap α → Nat → Option α
  | [], _ => none
  | (j, a) :: rest, k => if j = k then some a else Tbl.get rest k

/-- The table with record `a` at key `k`, keys kept rising. -/
def Tbl.put {α : Type} : SMap α → Nat → α → SMap α
  | [], k, a => [(k, a)]
  | (j, b) :: rest, k, a =>
    if k < j then (k, a) :: (j, b) :: rest
    else if j = k then (k, a) :: rest
    else (j, b) :: Tbl.put rest k a

/-- The table without key `k`. -/
def Tbl.del {α : Type} (m : SMap α) (k : Nat) : SMap α :=
  m.filter (fun p => !(p.1 == k))

/-- The canonical form of a table: keys strictly rising. -/
abbrev Tbl.wf {α : Type} (m : SMap α) : Prop :=
  m.Pairwise (fun p q => p.1 < q.1)

/-- The value of one segment. -/
def PerSeg.get {α : Type} (t : PerSeg α) : Seg → α
  | .uplink => t.uplink
  | .till => t.till
  | .label => t.label
  | .guest => t.guest
  | .office => t.office

/-- The five values with one replaced. -/
def PerSeg.set {α : Type} (t : PerSeg α) (p : Seg) (a : α) : PerSeg α :=
  match p with
  | .uplink => { t with uplink := a }
  | .till => { t with till := a }
  | .label => { t with label := a }
  | .guest => { t with guest := a }
  | .office => { t with office := a }

/-- The five segments in port order. -/
def allSegs : List Seg := [.uplink, .till, .label, .guest, .office]

/-- Port number, and the segment code of 13.6. -/
def segIndex : Seg → Nat
  | .uplink => 0
  | .till => 1
  | .label => 2
  | .guest => 3
  | .office => 4

/-- The segment with a code of 13.6. -/
def segOfCode : Nat → Option Seg
  | 0 => some .uplink
  | 1 => some .till
  | 2 => some .label
  | 3 => some .guest
  | 4 => some .office
  | _ => none

/-- The figure held within a range (R1, "clamped"). -/
def clampTo (lo hi v : Nat) : Nat := max lo (min v hi)

/-- Elapsed running time since `start`, modulo 4,294,967,296 (R2). -/
def elapsed (now start : Nat) : Nat :=
  if start ≤ now then now - start else wordModulus - (start - now)

/-- The successor of a figure that runs 1 .. `top` and wraps to 1 (R49, R123, R195). -/
def succFromOne (top n : Nat) : Nat :=
  if n = top then 1 else n + 1

/-- A list in an order chosen by `f`: each element is put in at the place `f` names. -/
def shuffle {α : Type} (f : Nat → Nat) : Nat → List α → List α
  | _, [] => []
  | _, [x] => [x]
  | n, x :: y :: xs =>
    let rest := shuffle f (n + 1) (y :: xs)
    rest.insertIdx (f n % (rest.length + 1)) x

end Sys2Proof.Machine
end

