-- ==== Sys2Proof/Machine/Flags.lean ====
section
/-! DEFINITION. Codes and flag sets of the messages: the tables of 13.2 and 13.6. -/

namespace Sys2Proof.Machine

/-- Kind codes (00, Branch message kinds). -/
def MsgKind.code : MsgKind → Nat
  | .priceAsk => 0x01
  | .priceAns => 0x02
  | .saleRecord => 0x03
  | .saleTaken => 0x04
  | .linkState => 0x05
  | .itemQuery => 0x10
  | .itemReply => 0x11
  | .labelPush => 0x20
  | .labelResult => 0x21
  | .exchOpen => 0x30
  | .exchAnswer => 0x31
  | .priceChange => 0x32
  | .exchClose => 0x33
  | .closeReport => 0x34
  | .journalSend => 0x35
  | .journalAck => 0x36
  | .linkProbe => 0x40
  | .linkEcho => 0x41
  | .mgmtReq => 0x50
  | .mgmtAns => 0x51
  | .notice => 0x52

/-- The kind with a code, if it is one of the overview's (R146, check 2). -/
def kindOfCode (c : Nat) : Option MsgKind :=
  [MsgKind.priceAsk, .priceAns, .saleRecord, .saleTaken, .linkState, .itemQuery, .itemReply, .labelPush, .labelResult,
    .exchOpen, .exchAnswer, .priceChange, .exchClose, .closeReport, .journalSend, .journalAck, .linkProbe, .linkEcho,
    .mgmtReq, .mgmtAns, .notice].find? (fun k => k.code == c)

/-- Minimum body of each kind the part accepts, and none for a kind it only sends (R146, R201). -/
def minBody : MsgKind → Option Nat
  | .priceAsk => some 14
  | .saleRecord => some 21
  | .itemReply => some 10
  | .labelResult => some 3
  | .exchOpen => some 12
  | .priceChange => some 19
  | .exchClose => some 10
  | .journalAck => some 4
  | .linkEcho => some 8
  | .mgmtReq => some 3
  | _ => none

def bit (b : Bool) : Nat := if b then 1 else 0

def SaleMode.code : SaleMode → Nat
  | .each => 1
  | .weighed => 2

def saleModeOf : Nat → Option SaleMode
  | 1 => some .each
  | 2 => some .weighed
  | _ => none

def Measure.code : Measure → Nat
  | .gram => 1
  | .millilitre => 2
  | .piece => 3

def measureOf : Nat → Option Measure
  | 1 => some .gram
  | 2 => some .millilitre
  | 3 => some .piece
  | _ => none

def onOffOf : Nat → Option Bool
  | 0 => some false
  | 1 => some true
  | _ => none

def qtyKindOf : Nat → Option QtyKind
  | 1 => some .count
  | 2 => some .grams
  | _ => none

def Promotion.code : Promotion → Nat
  | .absent => 0
  | .percent _ => 1
  | .fixed _ => 2
  | .multibuy _ _ => 3

/-- The promotion value of the SET layout (13.4). -/
def Promotion.value : Promotion → Nat
  | .absent => 0
  | .percent p => p
  | .fixed f => f
  | .multibuy _ t => t

/-- The multibuy N of the SET layout, 0 where the kind has none (13.4, R202). -/
def Promotion.count : Promotion → Nat
  | .multibuy n _ => n
  | _ => 0

/-- The multibuy T of a PRICE-ANS, 0 where the kind has none (13.3, R202). -/
def Promotion.total : Promotion → Nat
  | .multibuy _ t => t
  | _ => 0

/-- A promotion from its three fields; the value and N that its kind does not have are not read (R202, log 29). -/
def promotionOf (kind value count : Nat) : Option Promotion :=
  match kind with
  | 0 => some .absent
  | 1 => some (.percent value)
  | 2 => some (.fixed value)
  | 3 => some (.multibuy count value)
  | _ => none

def ShownPromo.code : ShownPromo → Nat
  | .absent => 0
  | .percent => 1
  | .fixed => 2
  | .multibuy _ _ => 3

def ShownPromo.count : ShownPromo → Nat
  | .multibuy n _ => n
  | _ => 0

def ShownPromo.total : ShownPromo → Nat
  | .multibuy _ t => t
  | _ => 0

/-- A promotion as label content shows it (R16, R75). -/
def Promotion.shown : Promotion → ShownPromo
  | .absent => .absent
  | .percent _ => .percent
  | .fixed _ => .fixed
  | .multibuy n t => .multibuy n t

def ChangeAction.kind : ChangeAction → ChangeKind
  | .set _ => .set
  | .delete => .delete
  | .bind _ => .bind
  | .unbind _ => .unbind

def ChangeKind.code : ChangeKind → Nat
  | .set => 1
  | .delete => 2
  | .bind => 3
  | .unbind => 4

def changeKindOf : Nat → Option ChangeKind
  | 1 => some .set
  | 2 => some .delete
  | 3 => some .bind
  | 4 => some .unbind
  | _ => none

/-- PRICE-ANS outcomes (R31). -/
inductive AnsOutcome where
  | found
  | referred
  | unknown
  | busy
  | modeMismatch
deriving DecidableEq, Repr

def AnsOutcome.code : AnsOutcome → Nat
  | .found => 1
  | .referred => 2
  | .unknown => 3
  | .busy => 4
  | .modeMismatch => 5

/-- The qualifier index of an outcome in R182's row "asks answered". -/
def AnsOutcome.index : AnsOutcome → Nat
  | .found => 0
  | .referred => 1
  | .modeMismatch => 2
  | .unknown => 3
  | .busy => 4

/-- PRICE-ANS flags (R31). -/
structure AnsFlags where
  honoured : Bool
  clamped : Bool
  noLink : Bool
  dealDiffers : Bool
deriving DecidableEq, Repr

/-- The flag byte of 13.2. -/
def AnsFlags.byte (f : AnsFlags) : Nat :=
  bit f.honoured + 2 * bit f.clamped + 4 * bit f.noLink + 8 * bit f.dealDiffers

/-- Results of a MGMT-ANS (R191). -/
inductive MgmtResult where
  | done
  | clamped
  | notFound
  | full
  | badField
  | busy
  | unknownCommand
deriving DecidableEq, Repr

def MgmtResult.code : MgmtResult → Nat
  | .done => 1
  | .clamped => 2
  | .notFound => 3
  | .full => 4
  | .badField => 5
  | .busy => 6
  | .unknownCommand => 7

def UplinkState.code : UplinkState → Nat
  | .up => 1
  | .degraded => 2
  | .fallback => 3
  | .recovering => 4

def UplinkCause.code : UplinkCause → Nat
  | .echoes => 1
  | .lost => 2
  | .answer => 3
  | .linkDown => 4
  | .address => 5
  | .force => 6
  | .reset => 7

def ExchState.code : ExchState → Nat
  | .idle => 1
  | .staging _ => 2
  | .committing _ => 3

/-- EXCH-ANSWER answers (R100). -/
inductive OpenAnswer where
  | ready
  | busy
  | noLink
  | oldBatch
  | noWindow
  | noSpace
deriving DecidableEq, Repr

def OpenAnswer.code : OpenAnswer → Nat
  | .ready => 1
  | .busy => 2
  | .noLink => 3
  | .oldBatch => 4
  | .noWindow => 5
  | .noSpace => 6

/-- The reason's place among the qualifier values of "batches ended", after COMMITTED (R182), which for the six reasons a
CLOSE-REPORT can carry is its code in 13.2. -/
def DiscardReason.index : DiscardReason → Nat
  | .broken => 1
  | .count => 2
  | .sum => 3
  | .noSpace => 4
  | .window => 5
  | .quiet => 6
  | .link => 7
  | .reset => 8

/-- The reason code of a BATCH-RESULT notice: 13.2's for the six it lists, a free code for LINK and RESET (log 10). -/
def discardCode (r : Option DiscardReason) : Nat :=
  match r with
  | none => 0
  | some .link => (Config.openCode .batchReason 7).toNat
  | some .reset => (Config.openCode .batchReason 8).toNat
  | some r => r.index

def AlertMode.code : AlertMode → Nat
  | .level => 1
  | .pulse => 2

def alertModeOf : Nat → Option AlertMode
  | 1 => some .level
  | 2 => some .pulse
  | _ => none

def LampSource.code : LampSource → Nat
  | .uplinkUp => 1
  | .fallback => 2
  | .windowIn => 3
  | .exchangeActive => 4
  | .labelBacklog => 5
  | .journalHigh => 6
  | .noticePending => 7
  | .port p => 8 + segIndex p

def lampSourceOf : Nat → Option LampSource
  | 1 => some .uplinkUp
  | 2 => some .fallback
  | 3 => some .windowIn
  | 4 => some .exchangeActive
  | 5 => some .labelBacklog
  | 6 => some .journalHigh
  | 7 => some .noticePending
  | 8 => some (.port .uplink)
  | 9 => some (.port .till)
  | 10 => some (.port .label)
  | 11 => some (.port .guest)
  | 12 => some (.port .office)
  | _ => none

def PolicyCell.code : PolicyCell → Nat
  | .deny => 0
  | .permit => 1
  | .shaped => 2

def policyCellOf : Nat → Option PolicyCell
  | 0 => some .deny
  | 1 => some .permit
  | 2 => some .shaped
  | _ => none

/-- Class codes of STATION-WRITE (13.6). -/
def StationClass.code : StationClass → Nat
  | .tillStation => 1
  | .baseStation _ => 2
  | .guestClient => 3
  | .officeStation => 4
  | .other => 5

/-- The base station number as sent: 0 with any class but BASE-STATION (13.6). -/
def StationClass.number : StationClass → Nat
  | .baseStation n => n
  | _ => 0

/-- Notice kind codes (13.2). -/
def NoticeBody.code : NoticeBody → Nat
  | .uplinkState .. => 1
  | .journalHigh _ => 2
  | .journalFull _ => 3
  | .labelGaveUp .. => 4
  | .activationFailed .. => 5
  | .batchResult .. => 6
  | .stationMisplaced .. => 7
  | .tableFull _ => 8

/-- The bit of a class in a class set, least significant first (13.6). -/
def Cls.index : Cls → Nat
  | .urgent => 0
  | .store => 1
  | .guest => 2

/-- The discard reasons of R182, in its order. -/
inductive Discard where
  | fcs
  | malformed
  | policy
  | heldBack
  | misplaced
  | admission
  | guestShaping
  | coolOff
  | linkDown
deriving DecidableEq, Repr

def Discard.index : Discard → Nat
  | .fcs => 0
  | .malformed => 1
  | .policy => 2
  | .heldBack => 3
  | .misplaced => 4
  | .admission => 5
  | .guestShaping => 6
  | .coolOff => 7
  | .linkDown => 8

/-- The count events in R182's order; an event's code is its place in this list, counted from 1 (13.6). -/
def countEvents : List CountEvent :=
  [.framesReceived, .framesSent, .framesDiscarded, .framesFiltered, .stationMoves, .learningRefusals, .foreignAsks,
    .intakeOverflows, .duplicateAsks, .asksAnswered, .queriesSent, .askTimeouts, .lateReplies, .badReplies,
    .journalRecords, .staleAcks, .badAcks, .ackTimeouts, .labelPushes, .queueOverflows, .labelOutcomes, .oddResults,
    .activations, .strayMessages, .ignoredRecords, .breaks, .refusedRecords, .batchesEnded, .probeOutcomes, .oddEchoes]

/-- The occupancies in R184's order; codes 0x41 to 0x46 (13.6). -/
def occupancies : List Occupancy := [.askTable, .labelQueue, .journal, .pending, .cells, .guestCells]

/-- How many qualifier values an event has (R182). -/
def CountEvent.quals : CountEvent → Nat
  | .framesDiscarded => 9
  | .asksAnswered => 5
  | .journalRecords => 3
  | .labelOutcomes => 5
  | .oddResults => 3
  | .batchesEnded => 9
  | .probeOutcomes => 3
  | .oddEchoes => 2
  | _ => 0

/-- Whether an event is filtered by port (R181). -/
def CountEvent.byPort : CountEvent → Bool
  | .framesReceived | .framesSent | .framesDiscarded | .framesFiltered => true
  | _ => false

/-- Whether an event is filtered by class (R181). -/
def CountEvent.byClass : CountEvent → Bool
  | .framesSent | .framesDiscarded => true
  | _ => false

end Sys2Proof.Machine
end

