-- ==== Sys2Proof/Machine/Operands.lean ====
section
/-! DEFINITION. The bytes of messages: fields most significant byte first, the layouts of 13.3 to 13.6, and the range checks of
R3, R105 and R202 on what arrives. -/

namespace Sys2Proof.Machine

/-- A figure in `w` bytes, most significant first (00, Byte order). -/
def be : Nat → Nat → List Byte
  | 0, _ => []
  | w + 1, v => be w (v / 256) ++ [BitVec.ofNat 8 v]

/-- The figure some bytes hold, most significant first. -/
def beVal (b : List Byte) : Nat :=
  b.foldl (fun acc x => acc * 256 + x.toNat) 0

/-- The field of `w` bytes at offset `off`. -/
def field (b : List Byte) (off w : Nat) : Nat :=
  beVal ((b.drop off).take w)

/-- A station address field. -/
def addrField (b : List Byte) (off : Nat) : Addr :=
  BitVec.ofNat 48 (field b off 6)

/-- A group address: the first byte as sent has its least significant bit set (R140). -/
def isGroup (a : Addr) : Bool := a.getLsbD 40

/-- The broadcast address. -/
def broadcast : Addr := BitVec.ofNat 48 0xFFFFFFFFFFFF

/-- Words of a body (R104): bytes in pairs, first high; an odd last byte is a high byte over 0. -/
def wordSum : List Byte → Nat
  | [] => 0
  | [x] => x.toNat * 256
  | x :: y :: rest => x.toNat * 256 + y.toNat + wordSum rest

/-! ### Item fields (13.4) -/

/-- An item code of R4's range. -/
def validCode (c : Nat) : Bool := 1 ≤ c && c ≤ maxItemCode

/-- A promotion's parameters in range (1.1). -/
def Promotion.inRange : Promotion → Bool
  | .absent => true
  | .percent p => 1 ≤ p && p ≤ 10000
  | .fixed f => f ≤ maxPrice
  | .multibuy n t => 2 ≤ n && n ≤ 99 && t ≤ maxExtended

def Promotion.isMultibuy : Promotion → Bool
  | .multibuy _ _ => true
  | _ => false

def validRef (r : Nat) : Bool := r == 1 || r == 100 || r == 1000

/-- A valid record, but for its code (R3). -/
def ItemFields.valid (f : ItemFields) : Bool :=
  f.base ≤ maxPrice && f.tax ≤ 15 && (1 ≤ f.packQuantity && f.packQuantity ≤ 65535) && validRef f.refQuantity
    && f.promo.inRange && !(f.mode == .weighed && f.promo.isMultibuy)

/-- Partial fields that a SET may carry (R105). -/
def PartialFields.valid (f : PartialFields) : Bool :=
  f.base.all (· ≤ maxPrice) && f.tax.all (· ≤ 15) && f.packQuantity.all (fun k => 1 ≤ k && k ≤ 65535)
    && f.refQuantity.all validRef && f.promo.all Promotion.inRange
    && !(f.mode == some .weighed && f.promo.any Promotion.isMultibuy)

/-- The 18 bytes of the item fields: offsets 21 to 38 of the SET layout. -/
def itemFieldBytes (f : ItemFields) : List Byte :=
  be 1 f.mode.code ++ be 4 f.base ++ be 1 f.tax ++ be 2 f.packQuantity ++ be 1 f.measure.code ++ be 2 f.refQuantity
    ++ be 1 (bit f.honour) ++ be 1 f.promo.code ++ be 4 f.promo.value ++ be 1 f.promo.count

/-- The item fields at offset `off`, or none where a code is outside its list (R202). -/
def itemFieldsOf (b : List Byte) (off : Nat) : Option ItemFields := do
  let mode ← saleModeOf (field b off 1)
  let measure ← measureOf (field b (off + 8) 1)
  let honour ← onOffOf (field b (off + 11) 1)
  let promo ← promotionOf (field b (off + 12) 1) (field b (off + 13) 4) (field b (off + 17) 1)
  pure ⟨mode, field b (off + 1) 4, field b (off + 5) 1, field b (off + 6) 2, measure, field b (off + 9) 2, honour, promo⟩

/-- A field the presence mask marks: parsed when its bit is set, absent and not read when it is clear (13.4, R202). -/
def masked {α : Type} (mask place : Nat) (parsed : Option α) : Option (Option α) :=
  if mask.testBit place then parsed.map some else some none

/-- The fields of a SET change: presence mask at 19, fields from 21; none where the mask or a code is outside its list. -/
def partialFieldsOf (b : List Byte) : Option PartialFields := do
  let mask := field b 19 2
  if mask ≥ 256 then none else
  let mode ← masked mask 0 (saleModeOf (field b 21 1))
  let base ← masked mask 1 (some (field b 22 4))
  let tax ← masked mask 2 (some (field b 26 1))
  let pack ← masked mask 3 (some (field b 27 2))
  let measure ← masked mask 4 (measureOf (field b 29 1))
  let ref ← masked mask 5 (some (field b 30 2))
  let honour ← masked mask 6 (onOffOf (field b 32 1))
  let promo ← masked mask 7 (promotionOf (field b 33 1) (field b 34 4) (field b 38 1))
  pure ⟨mode, base, tax, pack, measure, ref, honour, promo⟩

/-- The change of a PRICE-CHANGE body, when it is valid under R105 and R202: kind, body length, mask, codes and ranges. -/
def changeActionOf (b : List Byte) : Option ChangeAction :=
  match changeKindOf (field b 18 1) with
  | some .delete => if b.length = 19 then some .delete else none
  | some .bind => if b.length = 21 ∧ field b 19 2 ≤ 32767 then some (.bind (field b 19 2)) else none
  | some .unbind => if b.length = 21 ∧ field b 19 2 ≤ 32767 then some (.unbind (field b 19 2)) else none
  | some .set =>
    if b.length = 39 then
      match partialFieldsOf b with
      | some f => if f.valid then some (.set f) else none
      | none => none
    else none
  | none => none

/-- A record of the open batch as a staged change, when it is valid (R105). -/
def changeOf (b : List Byte) : Option Change :=
  if field b 6 6 ≤ maxStoreTime ∧ validCode (field b 12 6) then
    (changeActionOf b).map (fun a => ⟨field b 12 6, field b 6 6, field b 4 2, a⟩)
  else none

/-- The presence mask of some partial fields (13.4). -/
def PartialFields.mask (f : PartialFields) : Nat :=
  bit f.mode.isSome + 2 * bit f.base.isSome + 4 * bit f.tax.isSome + 8 * bit f.packQuantity.isSome
    + 16 * bit f.measure.isSome + 32 * bit f.refQuantity.isSome + 64 * bit f.honour.isSome + 128 * bit f.promo.isSome

/-- A change's fields as the SET, BIND and UNBIND layouts code them; absent fields are sent as 0 (13.4, R202). -/
def changeFieldBytes : ChangeAction → List Byte
  | .delete => []
  | .bind l => be 2 l
  | .unbind l => be 2 l
  | .set f =>
    be 2 f.mask ++ be 1 ((f.mode.map SaleMode.code).getD 0) ++ be 4 (f.base.getD 0) ++ be 1 (f.tax.getD 0)
      ++ be 2 (f.packQuantity.getD 0) ++ be 1 ((f.measure.map Measure.code).getD 0) ++ be 2 (f.refQuantity.getD 0)
      ++ be 1 ((f.honour.map bit).getD 0) ++ be 1 ((f.promo.map Promotion.code).getD 0)
      ++ be 4 ((f.promo.map Promotion.value).getD 0) ++ be 1 ((f.promo.map Promotion.count).getD 0)

/-! ### Frames and messages (13.1, R155, R203) -/

/-- A frame's length in bytes, addresses and frame check sequence included (R155). -/
def frameLength (f : Frame) : Nat := f.payload.length + 18

/-- Cells a frame of some length takes: ceil(n / 192) (R155). -/
def cellsFor (n : Nat) : Nat := (n + 191) / 192

/-- The frame of a built message: header, body, and bytes of 0 up to 64 (13.1, R203). -/
def Msg.frame (m : Msg) : Frame :=
  let bytes := be 1 1 ++ be 1 m.kind.code ++ be 2 m.body.length ++ m.body
  ⟨m.dst, m.src, m.etherType, bytes ++ List.replicate (46 - bytes.length) 0⟩

/-- A branch message's body: the bytes its body length field gives (R201). -/
def bodyOf (m : BranchArrival) : List Byte := m.bytes.take m.bodyLength.toNat

/-- The length of the frame that carried a branch message. -/
def arrivalLength (m : BranchArrival) : Nat := m.bytes.length + 22

/-- Time in ns a frame of `n` bytes takes to send (R162). -/
def transmitTime (speed : Speed) (n : Nat) : Nat :=
  match speed with
  | .mbps1000 => (n + 20) * 8
  | .mbps100 => (n + 20) * 80

/-- The fields of a notice, in the order its raising rule lists them (13.6). A field that is absent (no last RTT, no bound item, the
last outcome of REFUSED, the label number of any kind but BIND) is sent as 0 in its width (R202, log 40). The last outcomes
RADIO-BUSY and NO-REPLY have the codes of LABEL-RESULT (13.2); TIMEOUT has none there (log 10). Widths not in 13: log 9. -/
def noticeFieldBytes : NoticeBody → List Byte
  | .uplinkState before after cause rtt r =>
    be 1 before.code ++ be 1 after.code ++ be 1 cause.code ++ be 4 (rtt.getD 0) ++ be 4 r
  | .journalHigh n => be 2 n
  | .journalFull n => be 2 n
  | .labelGaveUp label radio base bound last =>
    be 2 label ++ be 3 radio ++ be 1 base ++ be 6 (bound.getD 0)
      ++ (match last with
          | some .radioBusy => [Config.openCode .gaveUpReason 0] ++ be 1 2
          | some .noReply => [Config.openCode .gaveUpReason 0] ++ be 1 3
          | some .timeout => [Config.openCode .gaveUpReason 0, Config.openCode .lastOutcome 0]
          | none => [Config.openCode .gaveUpReason 1] ++ be 1 0)
  | .activationFailed code kind time batch seq reason label =>
    be 6 code ++ be 1 kind.code ++ be 6 time ++ be 4 batch ++ be 2 seq
      ++ (match reason with
          | .bucketFull => [Config.openCode .activationReason 0]
          | .badField => [Config.openCode .activationReason 1]
          | .noItem => [Config.openCode .activationReason 2]
          | .labelsFull => [Config.openCode .activationReason 3])
      ++ be 2 (label.getD 0)
  | .batchResult batch discard received committed refused last =>
    be 4 batch ++ be 1 (if discard.isNone then 1 else 2) ++ be 1 (discardCode discard) ++ be 2 received ++ be 2 committed
      ++ be 2 refused ++ be 4 last
  | .stationMisplaced addr seg cls arrived =>
    be 6 addr.toNat ++ be 1 (segIndex seg) ++ be 1 cls.code ++ be 1 (segIndex arrived)
  | .tableFull code => be 6 code

/-- The body of a NOTICE (13.6). -/
def Notice.bytes (n : Notice) : List Byte :=
  be 2 n.number ++ be 1 n.body.code ++ be 1 (bit n.overflowed) ++ be 6 n.storeTime ++ be 4 n.runTime
    ++ noticeFieldBytes n.body

end Sys2Proof.Machine
end

