-- ==== Sys2Proof/Machine/Ops.lean ====
section
/-! DEFINITION. The operations the blocks share: counting (R182, R183), the cell pool and egress queues (09), offering generated
messages (R161), raising notices (R195, R196) and answering management requests (R191). -/

namespace Sys2Proof.Machine

/-! ### Counting -/

/-- One occurrence of a count event: its qualifier value by place, its port and class where it has them (R182). -/
structure Occ where
  event : CountEvent
  qual : Option Nat
  port : Option Port
  cls : Option Cls
deriving DecidableEq, Repr

def occ (e : CountEvent) : Occ := ⟨e, none, none, none⟩
def occQ (e : CountEvent) (q : Nat) : Occ := ⟨e, some q, none, none⟩
def occPort (e : CountEvent) (p : Port) : Occ := ⟨e, none, some p, none⟩
def occSent (p : Port) (c : Cls) : Occ := ⟨.framesSent, none, some p, some c⟩

/-- A discard; only ADMISSION, LINK-DOWN and GUEST-SHAPING carry a class (R182). -/
def occDiscard (r : Discard) (p : Port) (c : Option Cls) : Occ := ⟨.framesDiscarded, some r.index, some p, c⟩

/-- Whether a counter selects an occurrence and its filter admits it; a missing qualifier, port or class is admitted by
every set (R182). -/
def Counter.admits (c : Counter) (o : Occ) : Bool :=
  match c.source with
  | .event e quals ports classes =>
    e == o.event && o.qual.all (fun q => quals.getLsbD q) && o.port.all (fun p => ports.getLsbD (segIndex p))
      && o.cls.all (fun k => classes.getLsbD k.index)
  | _ => false

/-- Add to a counter's 48-bit value, marking a wrap (R183). -/
def Counter.add (c : Counter) (n : Nat) : Counter :=
  if c.value + n > 281474976710655 then { c with value := c.value + n - 281474976710656, wrapped := true }
  else { c with value := c.value + n }

/-- Count one occurrence in every counter that admits it (R182). -/
def count (o : Occ) (s : State) : State :=
  { s with mon := { s.mon with counters := s.mon.counters.map (fun c => if c.admits o then c.add 1 else c) } }

/-- Count an occurrence `n` times, each an occurrence of its own (R182). -/
def countMany (o : Occ) : Nat → State → State
  | 0, s => s
  | n + 1, s => countMany o n (count o s)

/-! ### Ports, queues and cells -/

def State.port (s : State) (p : Port) : PortUnit := s.pool.ports.get p

def setPort (p : Port) (u : PortUnit) (s : State) : State :=
  { s with pool := { s.pool with ports := s.pool.ports.set p u } }

def State.linkIsUp (s : State) (p : Port) : Bool := (s.port p).link.isSome

/-- Cells of a frame (R155). -/
def QFrame.cells (f : QFrame) : Nat := cellsFor (frameLength f.frame)

/-- Every frame a port holds, in transmission or queued. -/
def PortUnit.frames (u : PortUnit) : List QFrame := u.tx.toList ++ (u.urgent ++ (u.store ++ u.guest))

def cellsOf (l : List QFrame) : Nat := (l.map QFrame.cells).sum

/-- Cells that frames of one class hold on a port, queued and in transmission (R155). -/
def PortUnit.classCells (u : PortUnit) (c : Cls) : Nat := cellsOf (u.frames.filter (fun f => f.cls == c))

/-- Cells every port's frames hold together. -/
def Pool.held (p : Pool) : Nat := (allSegs.map (fun q => cellsOf (p.ports.get q).frames)).sum

/-- GUEST cells of all ports (R155). -/
def Pool.guestCells (p : Pool) : Nat := (allSegs.map (fun q => (p.ports.get q).classCells .guest)).sum

def PortUnit.queue (u : PortUnit) : Cls → List QFrame
  | .urgent => u.urgent
  | .store => u.store
  | .guest => u.guest

/-- A frame at the tail of its class's queue (R156). -/
def PortUnit.append (u : PortUnit) (f : QFrame) : PortUnit :=
  match f.cls with
  | .urgent => { u with urgent := u.urgent ++ [f] }
  | .store => { u with store := u.store ++ [f] }
  | .guest => { u with guest := u.guest ++ [f] }

/-- The frame a port starts next: the head of its first queue that is not empty, URGENT, STORE, GUEST (R162). -/
def PortUnit.takeNext (u : PortUnit) : Option (QFrame × PortUnit) :=
  match u.urgent, u.store, u.guest with
  | f :: rest, _, _ => some (f, { u with urgent := rest })
  | [], f :: rest, _ => some (f, { u with store := rest })
  | [], [], f :: rest => some (f, { u with guest := rest })
  | [], [], [] => none

/-- A port whose link is up and which is not sending starts its next frame, which lights its activity (R162, R198). -/
def startTx (p : Port) (s : State) : State :=
  let u := s.port p
  if u.link.isSome ∧ u.tx = none then
    match u.takeNext with
    | some (f, v) => setPort p { v with tx := some f, activity := some s.now } s
    | none => s
  else s

/-- Return cells to the pool; the generators have then to offer again (R155, R161). -/
def returnCells (n : Nat) (s : State) : State :=
  { s with pool := { s.pool with free := s.pool.free + n, reoffer := true } }

/-- A frame takes its cells and joins its queue (R155, R157). -/
def enqueue (p : Port) (f : QFrame) (s : State) : State :=
  startTx p (setPort p ((s.port p).append f) { s with pool := { s.pool with free := s.pool.free - f.cells } })

/-- The admission conditions of a frame for a port, by class (R157, R158, R159). -/
def admissible (p : Port) (f : QFrame) (s : State) : Bool :=
  match f.cls with
  | .urgent => f.cells ≤ s.pool.free
  | .store => f.cells + 512 ≤ s.pool.free && (s.port p).classCells .store + f.cells ≤ 2048
  | .guest => f.cells + 512 ≤ s.pool.free && s.pool.guestCells + f.cells ≤ 1024

/-- Offer a forwarded frame or copy: admitted, or discarded with reason admission (R160). -/
def offerForwarded (p : Port) (f : QFrame) (s : State) : State :=
  if s.linkIsUp p && admissible p f s then enqueue p f s
  else count (occDiscard .admission p (some f.cls)) s

/-- Count a list of occurrences in turn. -/
def countAll (os : List Occ) (s : State) : State := os.foldl (fun t o => count o t) s

/-- End and remove the frames of a port that `sel` names; their cells return, each is counted as `why` says, and the port
starts its next frame (R163). -/
def removeFrames (p : Port) (sel : QFrame → Bool) (why : QFrame → List Occ) (s : State) : State :=
  let u := s.port p
  let gone := u.frames.filter sel
  if gone = [] then s else
  let v : PortUnit := { u with
    tx := u.tx.filter (fun f => !sel f)
    urgent := u.urgent.filter (fun f => !sel f)
    store := u.store.filter (fun f => !sel f)
    guest := u.guest.filter (fun f => !sel f) }
  startTx p (countAll (gone.flatMap why) (returnCells (cellsOf gone) (setPort p v s)))

/-! ### Generated messages -/

/-- Build a message with the branch message type and station address as they stand (R203). -/
def build (s : State) (p : Port) (dst : Addr) (k : MsgKind) (body : List Byte) : Msg :=
  ⟨p, dst, s.settings.stationAddr, s.settings.branchType, k, body⟩

/-- Offer a message for the URGENT queue of its port (R161): on a port whose link is down it is discarded and its generator is
done with it; else it is admitted when the cells suffice. Answers whether the generator is done with it. -/
def offer (g : Generator) (m : Msg) (s : State) : Bool × State :=
  let f : QFrame := ⟨m.frame, .urgent, .generated g m.kind, false⟩
  if !s.linkIsUp m.port then (true, count (occDiscard .admission m.port (some .urgent)) s)
  else if admissible m.port f s then (true, enqueue m.port f s)
  else (false, s)

/-- Offer a message; `hold` keeps it with its generator when it is refused (R161). -/
def offerOr (g : Generator) (m : Msg) (hold : State → State) (s : State) : State :=
  if (offer g m s).1 then (offer g m s).2 else hold (offer g m s).2

/-- Send a message of a generator that keeps a list of them: offered at once when none waits, kept by `hold` at the tail behind
those that wait. One for a port whose link is down never waits: offered at once, it is discarded (R45, R120, R161, R191). -/
def sendBehind {α : Type} (g : Generator) (waiting : List α) (m : Msg) (hold : State → State) (s : State) : State :=
  if !waiting.isEmpty && s.linkIsUp m.port then hold s else offerOr g m hold s

/-- Offer the messages of a list in turn until one is refused; answers those still held (R45, R120). -/
def offerInTurn (g : Generator) : List Msg → State → List Msg × State
  | [], s => ([], s)
  | m :: ms, s =>
    let r := offer g m s
    if r.1 then offerInTurn g ms r.2 else (m :: ms, r.2)

/-! ### Notices, the alert line and answers -/

/-- Store time as one figure, 0 while the clock is UNSET (R2, R52). -/
def Clock.time (c : Clock) : Nat := if c.isSet then c.day * daySeconds + c.second else 0

/-- A pulse begins when one is owed and the line is neither pulsing nor in a gap (R197). -/
def startPulse (s : State) : State :=
  if s.settings.alertMode = .pulse ∧ 0 < s.mgmt.owed ∧ s.mgmt.alert = .idle then
    { s with mgmt := { s.mgmt with alert := .pulsing s.now s.settings.pulseWidth, owed := s.mgmt.owed - 1 } }
  else s

/-- Send an outbox item: offered at once when the outbox is empty, appended otherwise or when refused, discarded when its port's
link is down (R191). -/
def sendOut (item : OutItem) (s : State) : State :=
  sendBehind .managementUnit s.mgmt.outbox item.msg
    (fun t => { t with mgmt := { t.mgmt with outbox := t.mgmt.outbox ++ [item] } }) s

/-- Offer the outbox's items in turn until one is refused (R191). -/
def outboxInTurn : List OutItem → State → List OutItem × State
  | [], s => ([], s)
  | i :: rest, s =>
    let r := offer .managementUnit i.msg s
    if r.1 then outboxInTurn rest r.2 else (i :: rest, r.2)

/-- The notice destination: the notice address with the port of its segment, P0 where it has no entry, or else the first
sender (R196). -/
def State.destination (s : State) : Option (Addr × Port) :=
  if s.settings.noticeAddr = 0 then s.mgmt.firstSender
  else some (s.settings.noticeAddr, ((Tbl.get s.stations.table s.settings.noticeAddr.toNat).map (·.seg)).getD .uplink)

/-- Build the NOTICE message of a notice and mark the notice sent, when there is a destination (R196). -/
def sendNotice (n : Notice) (s : State) : State :=
  match s.destination with
  | none => s
  | some (a, p) =>
    sendOut ⟨build s p a .notice n.bytes, some n.number⟩
      { s with mgmt := { s.mgmt with notices := s.mgmt.notices.map (fun m => if m.number = n.number then { m with sent := true } else m) } }

/-- Build a NOTICE for every unsent notice, oldest first (R196). -/
def sendUnsent (s : State) : State :=
  (s.mgmt.notices.filter (fun n => !n.sent)).foldl (fun t n => sendNotice n t) s

/-- Queue a notice: numbered, stamped, the oldest of 32 dropped with its waiting message, a pulse owed (R195, R197). -/
def queueNotice (b : NoticeBody) (s : State) : State :=
  let isFull := s.mgmt.notices.length ≥ 32
  let kept := if isFull then s.mgmt.notices.drop 1 else s.mgmt.notices
  let gone := if isFull then s.mgmt.notices.head?.map (·.number) else none
  { s with mgmt := { s.mgmt with
      notices := kept ++ [⟨s.mgmt.nextNotice, b, s.clock.time, s.now, isFull, false⟩]
      outbox := s.mgmt.outbox.filter (fun i => !(i.notice.isSome && i.notice == gone))
      nextNotice := succFromOne 65535 s.mgmt.nextNotice
      owed := if s.settings.alertMode = .pulse then min 32 (s.mgmt.owed + 1) else s.mgmt.owed } }

/-- Raise a notice (R195), which starts an owed pulse (R197) and is sent when there is a destination (R196). -/
def raiseNotice (b : NoticeBody) (s : State) : State :=
  let n : Notice := ⟨s.mgmt.nextNotice, b, s.clock.time, s.now, s.mgmt.notices.length ≥ 32, false⟩
  sendNotice n (startPulse (queueNotice b s))

/-- The alert line (R197). -/
def State.alertAsserted (s : State) : Bool :=
  match s.settings.alertMode with
  | .level => !s.mgmt.notices.isEmpty
  | .pulse =>
    match s.mgmt.alert with
    | .pulsing _ _ => true
    | _ => false

/-- Answer a request with one MGMT-ANS on its arrival port (R191). -/
def answer (r : Request) (result : MgmtResult) (data : List Byte) (s : State) : State :=
  sendOut ⟨build s r.port r.src .mgmtAns (be 2 r.tag ++ be 1 r.code ++ be 1 result.code ++ data), none⟩ s

end Sys2Proof.Machine
end

