-- ==== Sys2Proof/Machine/Journal.lean ====
section
/-! DEFINITION. The sale journal and its upload (03). -/

namespace Sys2Proof.Machine

/-- The sequence after a journal sequence (R49). -/
def seqAfter (n : Nat) : Nat := succFromOne 4294967295 n

/-- Forward distance from `a` to `b` on the cycle of 4,294,967,295 journal sequences (R50). -/
def seqDistance (a b : Nat) : Nat := if a ≤ b then b - a else 4294967295 - (a - b)

/-- The count of the journal (R51). -/
def Journal.count (j : Journal) : Nat := seqDistance j.release j.free

/-- How many records are SENT (R51). -/
def Journal.sentCount (j : Journal) : Nat := seqDistance j.release j.next

/-- How many records are HELD (R51). -/
def Journal.heldCount (j : Journal) : Nat := seqDistance j.next j.free

def setJournal (j : Journal) (s : State) : State := { s with journal := j }

/-- The rate that applies, in records per second (R55). -/
def State.journalRate (s : State) : Nat :=
  if s.windowIn then s.settings.windowRate else s.settings.trickleRate

/-- Test the high-water level (R60). -/
def testHighWater (s : State) : State :=
  if s.journal.count ≥ s.settings.highWater then
    if s.journal.highArmed then
      raiseNotice (.journalHigh s.journal.count) (setJournal { s.journal with highArmed := false } s)
    else s
  else setJournal { s.journal with highArmed := true } s

/-- Test the capacity (R60). -/
def testFull (s : State) : State :=
  if s.journal.count ≥ 16384 then
    if s.journal.fullArmed then
      raiseNotice (.journalFull s.journal.count) (setJournal { s.journal with fullArmed := false } s)
    else s
  else setJournal { s.journal with fullArmed := true } s

/-- Test both levels, JOURNAL-HIGH before JOURNAL-FULL (R60). -/
def testLevels (s : State) : State := testFull (testHighWater s)

/-- Offer a sale record: the sequence given and the state after, or none when the journal is full (R40, R52). A level that the record
reaches raises its notice here (R60), before the till service builds the SALE-TAKEN (log 41). -/
def journalTake (till saleSeq : Nat) (body : List Byte) (s : State) : Option (Nat × State) :=
  let j := s.journal
  if j.count < 16384 then
    some (j.free,
      testLevels (count (occQ .journalRecords 0)
        (setJournal { j with records := j.records ++ [⟨j.free, till, saleSeq, s.clock.time, body⟩], free := seqAfter j.free } s)))
  else none

/-- The conditions of a send (R53). -/
def State.sendReady (s : State) : Bool :=
  (s.uplink.state == .up || s.uplink.state == .degraded) && s.settings.headOffice != 0 && 0 < s.journal.heldCount
    && s.journal.sentCount < 64 && 1000 ≤ s.journal.credit && s.journal.held.isNone

/-- The body of a JOURNAL-SEND (13.5). -/
def journalSendBody (r : SaleRec) (fresh : Bool) : List Byte :=
  be 4 r.seq ++ be 1 (bit fresh) ++ be 1 r.till ++ be 4 r.saleSeq ++ be 6 r.time ++ r.body

/-- Build the JOURNAL-SEND of the record at next-to-send and move the marks (R53, R54, R57). -/
def sendRecord (r : SaleRec) (s : State) : State :=
  let j := s.journal
  let m := build s .uplink s.settings.headOffice .journalSend (journalSendBody r (j.fresh && j.next == j.release))
  let t := count (occQ .journalRecords 1)
    (setJournal { j with
      next := seqAfter j.next
      credit := j.credit - 1000
      ackTimer := if j.sentCount = 0 then some s.now else j.ackTimer } s)
  offerOr .journalUpload m (fun u => setJournal { u.journal with held := some m } u) t

/-- One send, when every condition of R53 holds. -/
def journalSendStep (s : State) : State :=
  if s.sendReady then
    match s.journal.records.find? (fun r => r.seq == s.journal.next) with
    | some r => sendRecord r s
    | none => s
  else s

/-- Pacing refill at a tick (R55). -/
def pacingRefillStep (s : State) : State :=
  setJournal { s.journal with credit := min 4000 (s.journal.credit + s.journalRate) } s

/-- Offer the waiting JOURNAL-SEND again (R53). -/
def reofferSend (s : State) : State :=
  match s.journal.held with
  | none => s
  | some m =>
    let r := offer .journalUpload m s
    if r.1 then setJournal { r.2.journal with held := none } r.2 else r.2

/-- A valid acknowledgement of the `d + 1` oldest records up to sequence `n` (R56, R57). -/
def takeValidAck (n d : Nat) (s : State) : State :=
  let j := s.journal
  let k : Journal := { j with
    records := j.records.drop (d + 1)
    release := seqAfter n
    fresh := false
    ackTimer := if j.sentCount = d + 1 then none else some s.now }
  testLevels (countMany (occQ .journalRecords 2) (d + 1) (setJournal k s))

/-- A JOURNAL-ACK carrying `n`, classified against the marks (R56). -/
def takeAck (n : Nat) (s : State) : State :=
  let d := seqDistance s.journal.release n
  if n = 0 then count (occ .badAcks) s
  else if d < s.journal.sentCount then takeValidAck n d s
  else if d ≥ 2147483648 then count (occ .staleAcks) s
  else count (occ .badAcks) s

/-- A rewind: every SENT record becomes HELD again (R58). -/
def rewind (s : State) : State :=
  setJournal { s.journal with next := s.journal.release, ackTimer := none, held := none } s

/-- The ack timer's expiry, when its running time has reached the ack timeout (R57, R58). -/
def ackTimeoutStep (s : State) : State :=
  match s.journal.ackTimer with
  | some t =>
    if elapsed s.now t ≥ s.settings.ackTimeout * 1000 then rewind (count (occ .ackTimeouts) s) else s
  | none => s

/-- A generated message of a kind, in a queue or in transmission. -/
def QFrame.isKind (k : MsgKind) (f : QFrame) : Bool :=
  match f.origin with
  | .generated _ kind => kind == k
  | .forwarded => false

/-- The upload on entry into FALLBACK: a rewind without a time-out, but for an entry that keeps the SENT records (log 36), and no
JOURNAL-SEND waiting or on P0 (R59). -/
def journalFallback (keepSent : Bool) (s : State) : State :=
  removeFrames .uplink (QFrame.isKind .journalSend) (fun _ => [])
    (if keepSent then setJournal { s.journal with held := none } s else rewind s)

/-- RESET TRAFFIC on the journal, before its notices are tested (R62). -/
def journalResetTraffic (s : State) : State :=
  setJournal { s.journal with
    next := s.journal.release, credit := 0, ackTimer := none, held := none, highArmed := true, fullArmed := true } s

end Sys2Proof.Machine
end

