-- ==== Sys2Proof/Machine/MonitorUnit.lean ====
section
/-! DEFINITION. The monitor counters (11): samples, the hold set, programming. -/

namespace Sys2Proof.Machine

/-- An occupancy as its owner reports it (R184). -/
def State.occupancy (s : State) : Occupancy → Nat
  | .askTable => s.till.asks.length
  | .labelQueue => s.disp.queue.length
  | .journal => s.journal.count
  | .pending => s.sched.entries.length
  | .cells => 8192 - s.pool.free
  | .guestCells => s.pool.guestCells

/-- Whether a sample meets a condition (R185). -/
def meets (threshold : Nat) (invert : Bool) (v : Nat) : Bool :=
  if invert then v < threshold else threshold ≤ v

/-- A counter at a sample instant (R185). -/
def Counter.sample (s : State) (c : Counter) : Counter :=
  match c.source with
  | .occupancy o .plain => c.add (s.occupancy o)
  | .occupancy o (.level t i) => if meets t i (s.occupancy o) then c.add 1 else c
  | .occupancy o (.edge t i) =>
    { (if meets t i (s.occupancy o) && !c.lastMet then c.add 1 else c) with lastMet := meets t i (s.occupancy o) }
  | _ => c

/-- Copy the counters and the samples of this instant into the hold set (R187). -/
def takeSnapshot (s : State) : State :=
  { s with mon := { s.mon with
      hold := ⟨s.mon.counters.map (fun c => (c.value, c.wrapped)), occupancies.map s.occupancy,
        succFromOne 65535 s.mon.hold.number, s.now⟩
      due := false
      waiting := [] } }

/-- A sample instant: the occupancy counters act, then a snapshot that is due is copied and its requests are answered DONE with its
number (R184, R187), in two bytes, a width chapter 13 does not give (log 9). -/
def occupancySampleStep (s : State) : State :=
  let t := { s with mon := { s.mon with counters := s.mon.counters.map (Counter.sample s) } }
  if s.mon.due then
    let u := takeSnapshot t
    s.mon.waiting.foldl (fun v r => answer r .done (be 2 u.mon.hold.number) v) u
  else t

/-- A set of one of a counter's filters: empty where the event has none, else non-empty and of values it has (R186). -/
def filterSet (values set : Nat) : Bool :=
  if values = 0 then set == 0 else 0 < set && set < 2 ^ values

/-- The mode of an occupancy counter from the three fields that carry it: the threshold of LEVEL and EDGE is 1 .. 65,535; PLAIN has
neither threshold nor invert, and those carried with it are not kept (R181, R186, log 33). -/
def counterModeOf (mode threshold : Nat) (invert : Bool) : Option CounterMode :=
  match mode with
  | 1 => some .plain
  | 2 => if threshold = 0 then none else some (.level threshold invert)
  | 3 => if threshold = 0 then none else some (.edge threshold invert)
  | _ => none

/-- The source a COUNTER-PROGRAM carries, from its ten bytes, or none for BAD-FIELD (R186, 13.6). A mode above 3 and an invert byte
that is neither off nor on are codes outside their lists, whatever the source (R202); mode 0 carries no mode (log 33). -/
def counterSourceOf (b : List Byte) : Option CounterSource :=
  let src := field b 1 1
  let quals := field b 2 2
  let ports := field b 4 1
  let classes := field b 5 1
  let mode := field b 6 1
  match onOffOf (field b 9 1) with
  | none => none
  | some invert =>
    if mode > 3 then none
    else if src = 0 then if quals = 0 ∧ ports = 0 ∧ classes = 0 then some .none else none
    else if 0x41 ≤ src ∧ src ≤ 0x46 then
      if quals ≠ 0 ∨ ports ≠ 0 ∨ classes ≠ 0 then none
      else
        match occupancies[src - 0x41]?, counterModeOf mode (field b 7 2) invert with
        | some o, some m => some (.occupancy o m)
        | _, _ => none
    else
      match countEvents[src - 1]? with
      | none => none
      | some e =>
        if filterSet e.quals quals && filterSet (if e.byPort then 5 else 0) ports
            && filterSet (if e.byClass then 3 else 0) classes && mode == 0 then
          some (.event e (BitVec.ofNat 16 quals) (BitVec.ofNat 8 ports) (BitVec.ofNat 8 classes))
        else none

/-- Program a counter, which clears it (R186). -/
def programCounter (n : Nat) (src : CounterSource) (s : State) : State :=
  { s with mon := { s.mon with counters := s.mon.counters.set n ⟨src, 0, false, false⟩ } }

/-- Mark a snapshot as due; its answer waits for the copy (R187). -/
def markSnapshot (r : Request) (s : State) : State :=
  { s with mon := { s.mon with due := true, waiting := s.mon.waiting ++ [r] } }

end Sys2Proof.Machine
end

