-- ==== Sys2Proof/Machine/Price.lean ====
section
/-! DEFINITION. The item table as data (1.2, 1.3) and the price engine's four stages (1.5 to 1.7). -/

namespace Sys2Proof.Machine

/-! ### Placement and lookup (R4, R5) -/

/-- The slot of a way of an item code's bucket. -/
def slotOf (code way : Nat) : Nat := 4 * (code % 8192) + way

/-- The record of a slot when its code is the one sought. -/
def slotHit (items : SMap ItemRec) (code way : Nat) : Option (Nat × ItemRec) :=
  match Tbl.get items (slotOf code way) with
  | some r => if r.code = code then some (slotOf code way, r) else none
  | none => none

/-- Lookup by code: the four ways of its bucket; a code out of range misses (R4). -/
def findItem (items : SMap ItemRec) (code : Nat) : Option (Nat × ItemRec) :=
  if validCode code then [0, 1, 2, 3].findSome? (slotHit items code) else none

/-- The record of a code. -/
def lookupItem (items : SMap ItemRec) (code : Nat) : Option ItemRec := (findItem items code).map (·.2)

/-- The lowest-numbered free way of a code's bucket (R5). -/
def freeWay (items : SMap ItemRec) (code : Nat) : Option Nat :=
  [0, 1, 2, 3].find? (fun w => (Tbl.get items (slotOf code w)).isNone)

/-! ### Write requests (R6 to R10) -/

/-- Outcomes of a write request (R6). -/
inductive WriteOutcome where
  | done
  | full
  | badField
  | notFound
  | present
deriving DecidableEq, Repr

/-- Whether two records agree in every label-affecting field (R10). -/
def sameOnLabels (a b : ItemFields) : Bool :=
  a.mode == b.mode && a.base == b.base && a.promo == b.promo && a.packQuantity == b.packQuantity
    && a.measure == b.measure && a.refQuantity == b.refQuantity

/-- The record after a write of its fields: the version moves when a label-affecting field changes, and stays at 65,535
(R7, R10). -/
def ItemRec.write (r : ItemRec) (f : ItemFields) : ItemRec :=
  { r with fields := f, version := if sameOnLabels r.fields f then r.version else min 65535 (r.version + 1) }

/-- Create a record in the lowest free way, at version 1 with no labels (R5). -/
def createItem (code : Nat) (f : ItemFields) (items : SMap ItemRec) : WriteOutcome × SMap ItemRec :=
  match freeWay items code with
  | some w => (.done, Tbl.put items (slotOf code w) ⟨code, f, 1, []⟩)
  | none => (.full, items)

/-- Write the fields a record is to have (R3, R7, R8): the outcome, the table, and the labels owed a PRICE update (R11). -/
def storeItem (code : Nat) (f : ItemFields) (items : SMap ItemRec) : WriteOutcome × SMap ItemRec × List Nat :=
  if validCode code && f.valid then
    match findItem items code with
    | some (slot, r) =>
      (.done, Tbl.put items slot (r.write f), if sameOnLabels r.fields f then [] else r.labels)
    | none => ((createItem code f items).1, (createItem code f items).2, [])
  else (.badField, items, [])

/-- The creation defaults of a partial write (R8). -/
def creationDefaults : ItemFields := ⟨.each, 0, 0, 1, .piece, 1, false, .absent⟩

/-- Fields with those a partial write carries replaced (R8). -/
def ItemFields.apply (f : ItemFields) (p : PartialFields) : ItemFields :=
  ⟨p.mode.getD f.mode, p.base.getD f.base, p.tax.getD f.tax, p.packQuantity.getD f.packQuantity,
    p.measure.getD f.measure, p.refQuantity.getD f.refQuantity, p.honour.getD f.honour, p.promo.getD f.promo⟩

/-- The fields a partial write leaves a code with (R8). -/
def mergedFields (code : Nat) (p : PartialFields) (items : SMap ItemRec) : ItemFields :=
  (((lookupItem items code).map (·.fields)).getD creationDefaults).apply p

/-- Take an offered item: only when its code is absent (R9). -/
def offerItem (code : Nat) (f : ItemFields) (items : SMap ItemRec) : WriteOutcome × SMap ItemRec :=
  if (findItem items code).isSome then (.present, items)
  else if validCode code && f.valid then createItem code f items
  else (.badField, items)

/-! ### Stages 1 and 2 (R17, R18) -/

/-- Stage 1: the shelf unit price E (R17). -/
def unitPrice (f : ItemFields) : Nat :=
  match f.promo with
  | .absent => f.base
  | .percent p => f.base - (f.base * p + 5000) / 10000
  | .fixed v => min v f.base
  | .multibuy _ _ => f.base

/-- Stage 2: the compare price C, held at 9,999,999 (R18). -/
def comparePrice (f : ItemFields) : Nat :=
  let e := unitPrice f
  min maxPrice
    (match f.mode with
     | .each => (e * f.refQuantity + f.packQuantity / 2) / f.packQuantity
     | .weighed => if f.refQuantity = 100 then (e * 100 + 500) / 1000 else e)

/-- The content of a label content request that hits (R16). -/
def ItemRec.content (r : ItemRec) : Content :=
  ⟨unitPrice r.fields, comparePrice r.fields, r.fields.mode, r.fields.promo.shown, r.version⟩

/-! ### Stage 3: shelf-price honour (R19, R20) -/

/-- A label record that is not in use (R63, R83). -/
def unusedLabel : LabelRec := ⟨0, 0, none, .neverShown, false, false⟩

/-- The record of a label; those not listed are not in use. -/
def labelAt (labels : SMap LabelRec) (n : Nat) : LabelRec := (Tbl.get labels n).getD unusedLabel

/-- What a label shows when it belongs to the honour set of a record (R19). -/
def honoured (labels : SMap LabelRec) (r : ItemRec) (l : Nat) : Option Content :=
  match (labelAt labels l).display with
  | .showing c => if c.version ≠ r.version ∧ c.mode = r.fields.mode then some c else none
  | _ => none

/-- The honour set, empty with the honour flag off (R19). -/
def honourSet (labels : SMap LabelRec) (r : ItemRec) : List Content :=
  if r.fields.honour then r.labels.filterMap (honoured labels r) else []

/-- The quoted unit price Q (R20). -/
def quotedPrice (e : Nat) (shown : List Content) : Nat := shown.foldl (fun q c => min q c.unitPrice) e

/-- Whether some label of the honour set shows other MULTIBUY terms than the record's (R20). -/
def dealDiffers (p : Promotion) (shown : List Content) : Bool :=
  shown.any (fun c => match c.promo with
    | .multibuy n t => !(p == .multibuy n t)
    | _ => false)

/-! ### Stage 4 (R22 to R24) -/

/-- Whether a quantity kind is the one of a sale mode (R22). -/
def kindFits (m : SaleMode) (k : QtyKind) : Bool :=
  match m, k with
  | .each, .count => true
  | .weighed, .grams => true
  | _, _ => false

/-- The maximum quantity of a kind (R22). -/
def maxQuantity : QtyKind → Nat
  | .count => 9999
  | .grams => 99999

/-- The normalised quantity (R22). -/
def normalQuantity (k : QtyKind) (q : Nat) : Nat := if q = 0 then 1 else min q (maxQuantity k)

/-- The extended price before saturation (R23). -/
def rawExtended (f : ItemFields) (price q : Nat) : Nat :=
  match f.mode, f.promo with
  | .weighed, _ => (price * q + 500) / 1000
  | .each, .multibuy n t => min ((q / n) * t + (q % n) * price) (q * price)
  | .each, _ => q * price

/-- The fields the engine assembles for a PRICE-ANS (R26). -/
structure Quote where
  outcome : AnsOutcome
  price : Nat
  extended : Nat
  flags : AnsFlags
  promo : Promotion
  tax : Nat
  version : Nat
deriving DecidableEq, Repr

/-- Stages 3 and 4 and the assembly, from the contents of the honour set (R20 to R26). -/
def quoteWith (f : ItemFields) (shown : List Content) (k : QtyKind) (quantity : Nat) (fits : AnsOutcome) (version : Nat) : Quote :=
  let e := unitPrice f
  let q := quotedPrice e shown
  let n := normalQuantity k quantity
  let x := rawExtended f q n
  let match? := kindFits f.mode k
  ⟨if match? then fits else .modeMismatch, q, if match? then min maxExtended x else 0,
    ⟨q < e, match? && (quantity > maxQuantity k || x > maxExtended), false, dealDiffers f.promo shown⟩,
    f.promo, f.tax, version⟩

/-- A quote for a record of the table (R16). -/
def quoteItem (labels : SMap LabelRec) (r : ItemRec) (k : QtyKind) (quantity : Nat) : Quote :=
  quoteWith r.fields (honourSet labels r) k quantity .found r.version

/-- A quote for a record described by head office: no stage 3 (R25). -/
def quoteDescribed (f : ItemFields) (k : QtyKind) (quantity version : Nat) : Quote :=
  quoteWith f [] k quantity .referred version

end Sys2Proof.Machine
end

