-- ==== Sys2Proof/Machine/Labels.lean ====
section
/-! DEFINITION. The label dispatcher (04): the label queue, owed updates, dispatch, results, push time-outs, the overflow sweep. -/

namespace Sys2Proof.Machine

def State.label (s : State) (n : Nat) : LabelRec := labelAt s.labels n

/-- Write a label record; one that is not in use is not listed (log 25). -/
def setLabel (n : Nat) (r : LabelRec) (s : State) : State :=
  { s with labels := if r = unusedLabel then Tbl.del s.labels n else Tbl.put s.labels n r }

def setQueue (q : List LabelEntry) (s : State) : State :=
  { s with disp := { s.disp with queue := q } }

/-- A label content request (R16). -/
def State.contentOf (s : State) (code : Nat) : Option Content := (lookupItem s.items code).map ItemRec.content

/-- Whether an update owed to a label is of kind PRICE (R67). -/
def wantsPrice (s : State) (n : Nat) : Bool := (s.label n).bound.isSome

/-- Whether an update owed to a label is HIGH: it shows a lower price of the same sale mode (R67). -/
def wantsHigh (s : State) (n : Nat) : Bool :=
  match (s.label n).bound, (s.label n).display with
  | some code, .showing shown =>
    match s.contentOf code with
    | some c => shown.mode == c.mode && shown.unitPrice < c.unitPrice
    | none => false
  | _, _ => false

/-- Append a WAITING entry for a label: kind and priority as the label stands, a new order stamp (R66, R67). -/
def appendEntry (n attempts : Nat) (s : State) : State :=
  { s with disp := { s.disp with
      queue := s.disp.queue ++ [⟨n, wantsPrice s n, wantsHigh s n, attempts, s.disp.nextStamp, none⟩]
      nextStamp := s.disp.nextStamp + 1 } }

/-- The entry of a label. -/
def State.entryOf (s : State) (n : Nat) : Option LabelEntry := s.disp.queue.find? (fun e => e.label == n)

/-- Replace a label's entry in place. -/
def mapEntry (n : Nat) (f : LabelEntry → LabelEntry) (s : State) : State :=
  setQueue (s.disp.queue.map (fun e => if e.label = n then f e else e)) s

/-- An update is owed to a label (R68). -/
def owe (n : Nat) (s : State) : State :=
  match s.entryOf n with
  | some e =>
    match e.flight with
    | none => mapEntry n (fun e => { e with isPrice := wantsPrice s n, high := wantsHigh s n }) s
    | some f => mapEntry n (fun e => { e with flight := some { f with superseded := true } }) s
  | none =>
    if (s.label n).overflow then s
    else if s.disp.queue.length < 4096 then appendEntry n 0 s
    else count (occ .queueOverflows) (setLabel n { s.label n with overflow := true } s)

/-- Updates owed to several labels, in the order given (R11). -/
def oweAll (ns : List Nat) (s : State) : State := ns.foldl (fun t n => owe n t) s

/-- One step of the sweep: clear a flag and append its label's entry while the queue has room (R69). -/
def sweepOne (s : State) (n : Nat) : State :=
  if s.disp.queue.length < 4096 then appendEntry n 0 (setLabel n { s.label n with overflow := false } s) else s

/-- The labels whose overflow flag is set, in ascending number. -/
def State.overflowed (s : State) : List Nat := (s.labels.filter (fun p => p.2.overflow)).map (·.1)

/-- Remove a label's entry and run the overflow sweep, which is part of the removal (R69). -/
def removeEntry (n : Nat) (s : State) : State :=
  let t := setQueue (s.disp.queue.filter (fun e => !(e.label == n))) s
  t.overflowed.foldl sweepOne t

/-- Return an entry to WAITING at the tail of its group with the attempts given (R65, R77, R78). -/
def backToWaiting (n attempts : Nat) (s : State) : State :=
  appendEntry n attempts (setQueue (s.disp.queue.filter (fun e => !(e.label == n))) s)

/-! ### Dispatch (R64, R74, R75) -/

/-- The station address of base station `b`: the LOADED entry of that number with the lowest address (R64). -/
def State.baseStation (s : State) (b : Nat) : Option Addr :=
  (s.stations.table.find? (fun p => p.2.loaded && p.2.cls == .baseStation b)).map (·.2.addr)

/-- The IN-FLIGHT entries recorded against base station `b`. -/
def State.inFlight (s : State) (b : Nat) : List LabelEntry :=
  s.disp.queue.filter (fun e => e.flight.any (fun f => f.base == b))

/-- Window room of a base station (R64). -/
def State.hasRoom (s : State) (b : Nat) : Bool := (s.inFlight b).length < s.settings.baseWindow

/-- The WAITING entries in queue order: HIGH before NORMAL, each by order stamp (R66). -/
def State.waitingInOrder (s : State) : List LabelEntry :=
  let w := s.disp.queue.filter (fun e => e.flight.isNone)
  w.filter (fun e => e.high) ++ w.filter (fun e => !e.high)

/-- The first entry a dispatch attempt acts on: one to remove (none) or one to push with its base station's address (R74). -/
def pickEntry (s : State) : List LabelEntry → Option (LabelEntry × Option Addr)
  | [] => none
  | e :: rest =>
    if (s.label e.label).radio = 0 then some (e, none)
    else
      match s.baseStation (s.label e.label).base with
      | some a => if s.hasRoom (s.label e.label).base then some (e, some a) else pickEntry s rest
      | none => pickEntry s rest

/-- The first tag from `t` on, counting on from 65,535 to 0, that is not among `used` (R75). -/
def freeTag (used : List Nat) : Nat → Nat → Nat
  | 0, t => t
  | n + 1, t => if t ∈ used then freeTag used n ((t + 1) % 65536) else t

/-- The tags that IN-FLIGHT entries hold. -/
def State.tagsInFlight (s : State) : List Nat := s.disp.queue.filterMap (fun e => e.flight.map (·.tag))

/-- The content snapshot fixed at a push (R75). -/
def snapshotFor (s : State) (e : LabelEntry) : Snapshot :=
  if e.isPrice then
    match (s.label e.label).bound.bind s.contentOf with
    | some c => .price c
    | none => .blank
  else .blank

/-- The body of a LABEL-PUSH (13.4). -/
def pushBody (tag radio : Nat) (snap : Snapshot) : List Byte :=
  be 2 tag ++ be 3 radio ++
    (match snap with
     | .blank => be 1 2
     | .price c => be 1 1 ++ be 4 c.unitPrice ++ be 4 c.comparePrice ++ be 1 c.mode.code ++ be 1 c.promo.code
         ++ be 1 c.promo.count ++ be 4 c.promo.total ++ be 2 c.version)

/-- An entry becomes IN-FLIGHT with a tag and a snapshot (R75). -/
def fly (e : LabelEntry) (tag : Nat) (s : State) : State :=
  let l := s.label e.label
  let f : Flight := ⟨tag, l.base, l.radio, snapshotFor s e, s.now, s.disp.nextSerial, false, false⟩
  let t := mapEntry e.label (fun e => { e with flight := some f }) s
  { t with disp := { t.disp with nextTag := (tag + 1) % 65536, nextSerial := s.disp.nextSerial + 1 } }

/-- Push an entry through its base station (R75). -/
def push (e : LabelEntry) (station : Addr) (s : State) : State :=
  let tag := freeTag s.tagsInFlight s.tagsInFlight.length s.disp.nextTag
  let m := build s .label station .labelPush (pushBody tag (s.label e.label).radio (snapshotFor s e))
  offerOr .labelDispatcher m (fun t => { t with disp := { t.disp with held := some (tag, m) } })
    (count (occ .labelPushes) (fly e tag s))

/-- A dispatch attempt, in at most `fuel` removals and pushes (R74). After a removal, as after a push, it begins again at the head
of the queue (log 8). -/
def dispatchLoop : Nat → State → State
  | 0, s => s
  | fuel + 1, s =>
    if s.disp.held.isSome then s
    else
      match pickEntry s s.waitingInOrder with
      | none => s
      | some (e, none) => dispatchLoop fuel (removeEntry e.label s)
      | some (e, some a) => dispatchLoop fuel (push e a s)

/-- A dispatch attempt (R74): each removal or push takes one WAITING entry or one overflow flag away, so the loop ends. -/
def dispatch (s : State) : State :=
  dispatchLoop (s.waitingInOrder.length + s.overflowed.length) s

/-- Whether one of the first two events of R74 lies between two states: an entry has become WAITING, for which it takes a new order
stamp (R66), or an IN-FLIGHT entry has ended or been recalled. -/
def queueEvent (s t : State) : Bool := t.disp.nextStamp != s.disp.nextStamp || t.tagsInFlight != s.tagsInFlight

/-- After a change from `s` to `t` of the label queue: a dispatch attempt when the change calls for one (R74), else none. -/
def dispatchOn (s t : State) : State := if queueEvent s t then dispatch t else t

/-- Whether a label has a WAITING entry. -/
def State.hasWaiting (s : State) (n : Nat) : Bool := s.disp.queue.any (fun e => e.label == n && e.flight.isNone)

/-! ### How a push ends (R76 to R81) -/

/-- The IN-FLIGHT entry holding a push tag (R76). -/
def State.flightOf (s : State) (tag : Nat) : Option (LabelEntry × Flight) :=
  s.disp.queue.findSome? (fun e =>
    match e.flight with
    | some f => if f.tag = tag then some (e, f) else none
    | none => none)

/-- The display after SHOWN (R77). -/
def displayAfter (f : Flight) : Display :=
  match f.snapshot with
  | .blank => .blankShown
  | .price c => .showing (if f.rebound then { c with version := 0 } else c)

/-- SHOWN (R77). -/
def takeShown (e : LabelEntry) (f : Flight) (s : State) : State :=
  let l := s.label e.label
  let t := if l.radio = f.radio then setLabel e.label { l with reachable := true, display := displayAfter f } s else s
  if f.superseded then backToWaiting e.label 0 t else removeEntry e.label t

/-- Give up on an entry: UNREACHABLE, LABEL-GAVE-UP, removal with its sweep (R78, R79, R81). -/
def giveUp (e : LabelEntry) (last : Option FailOutcome) (s : State) : State :=
  let l := s.label e.label
  removeEntry e.label
    (raiseNotice (.labelGaveUp e.label l.radio l.base l.bound last) (setLabel e.label { l with reachable := false } s))

/-- RADIO-BUSY, NO-REPLY or a time-out uses one attempt (R78). -/
def takeFailure (e : LabelEntry) (f : Flight) (o : FailOutcome) (s : State) : State :=
  let attempts := if f.superseded then 0 else e.attempts + 1
  if attempts < s.settings.retryLimit then backToWaiting e.label attempts s else giveUp e (some o) s

/-- A push timer's expiry, when the entry's age has reached the push timeout (R80); without the dispatch that follows. -/
def expirePush (tag : Nat) (s : State) : State :=
  match s.flightOf tag with
  | some (e, f) =>
    if elapsed s.now f.sent ≥ s.settings.pushTimeout * 1000 then
      takeFailure e f .timeout (count (occQ .labelOutcomes 4) s)
    else s
  | none => s

/-- The IN-FLIGHT entries in the order their tags were allocated. -/
def State.flightsInOrder (s : State) : List (LabelEntry × Flight) :=
  (s.disp.queue.filterMap (fun e => e.flight.map (fun f => (e, f)))).insertionSort (fun a b => a.2.serial ≤ b.2.serial)

/-- Expire at once every push whose age has reached the timeout, in order of sending (R80); when any has ended the dispatcher tries
once, after the last (R74, log 8). -/
def expirePushes (s : State) : State :=
  dispatchOn s ((s.flightsInOrder.map (fun p => p.2.tag)).foldl (fun t tag => expirePush tag t) s)

/-- A LABEL-RESULT handed to the dispatcher (R76). -/
def takeLabelResult (src : Addr) (body : List Byte) (s : State) : State :=
  let known := (Tbl.get s.stations.table src.toNat).any (fun e => e.cls.code == 2)
  if !known then count (occQ .oddResults 1) s
  else
    let outcome := field body 2 1
    if outcome = 0 ∨ outcome > 4 then count (occQ .oddResults 2) s
    else
      match s.flightOf (field body 0 2) with
      | none => count (occQ .oddResults 0) s
      | some (e, f) =>
        let t := count (occQ .labelOutcomes (outcome - 1)) s
        dispatch
          (match outcome with
           | 1 => takeShown e f t
           | 2 => takeFailure e f .radioBusy t
           | 3 => takeFailure e f .noReply t
           | _ => giveUp e none t)

/-! ### Recall and re-offer (R65, R75) -/

/-- Recall an IN-FLIGHT entry: back to WAITING with its attempts kept, its waiting message discarded (R65). -/
def recallEntry (e : LabelEntry) (f : Flight) (s : State) : State :=
  let t := backToWaiting e.label e.attempts s
  if t.disp.held.any (fun h => h.1 == f.tag) then { t with disp := { t.disp with held := none } } else t

/-- Recall the latest sent entries of a base station, `n` of them (R65). -/
def recallLatest (b : Nat) : Nat → State → State
  | 0, s => s
  | n + 1, s =>
    match (s.flightsInOrder.filter (fun p => p.2.base == b)).getLast? with
    | some (e, f) => recallLatest b n (recallEntry e f s)
    | none => s

/-- After the window is lowered: recall the surplus of each base station in ascending number (R65); when any is recalled the
dispatcher tries once, after the last (R74, log 8). -/
def recallSurplus (s : State) : State :=
  dispatchOn s ((List.range 8).foldl (fun t b => recallLatest b ((t.inFlight b).length - t.settings.baseWindow) t) s)

/-- Offer the waiting push again; when it is admitted the dispatcher tries to dispatch (R74, R75). -/
def reofferPush (s : State) : State :=
  match s.disp.held with
  | none => s
  | some (_, m) =>
    let r := offer .labelDispatcher m s
    if r.1 then dispatch { r.2 with disp := { r.2.disp with held := none } } else r.2

/-- RESET TRAFFIC on the dispatcher: every IN-FLIGHT entry returns to WAITING with its attempts kept (R84). -/
def labelsResetTraffic (s : State) : State :=
  let t := s.flightsInOrder.foldl (fun t p => backToWaiting p.1.label p.1.attempts t) s
  { t with disp := { t.disp with held := none } }

/-! ### Requests of the item table that touch labels (R11 to R14, R70) -/

/-- The label's side of a change of binding (R70). -/
def noteBound (n : Nat) (bound : Option Nat) (s : State) : State :=
  let l := s.label n
  let shown := match bound, l.display with
    | some _, .showing c => Display.showing { c with version := 0 }
    | _, d => d
  mapEntry n (fun e => { e with flight := e.flight.map (fun f => { f with rebound := true }) })
    (setLabel n { l with bound := bound, display := shown } s)

/-- A write of a record's fields, whole or merged, with the updates it owes (R7, R8, R11). -/
def writeItem (code : Nat) (f : ItemFields) (s : State) : WriteOutcome × State :=
  let r := storeItem code f s.items
  (r.1, oweAll r.2.2 { s with items := r.2.1 })

/-- Replace the label list of an item. -/
def setItemLabels (code : Nat) (g : List Nat → List Nat) (s : State) : State :=
  match findItem s.items code with
  | some (slot, r) => { s with items := Tbl.put s.items slot { r with labels := g r.labels } }
  | none => s

/-- What a bind request would answer (R13). -/
def bindOutcome (n code : Nat) (s : State) : WriteOutcome :=
  match lookupItem s.items code with
  | none => .notFound
  | some r => if n ∈ r.labels then .done else if r.labels.length ≥ 4 then .full else .done

/-- Bind a label to an item (R13). -/
def bindLabel (n code : Nat) (s : State) : WriteOutcome × State :=
  match lookupItem s.items code with
  | none => (.notFound, s)
  | some r =>
    if n ∈ r.labels then (.done, s)
    else if r.labels.length ≥ 4 then (.full, s)
    else
      let freed := match (s.label n).bound with
        | some other => setItemLabels other (fun ls => ls.filter (fun m => !(m == n))) s
        | none => s
      (.done, owe n (noteBound n (some code) (setItemLabels code (fun ls => ls ++ [n]) freed)))

/-- What an unbind request would answer (R14). -/
def unbindOutcome (n code : Nat) (s : State) : WriteOutcome :=
  match lookupItem s.items code with
  | none => .notFound
  | some r => if n ∈ r.labels then .done else .notFound

/-- Unbind a label from an item (R14). -/
def unbindLabel (n code : Nat) (s : State) : WriteOutcome × State :=
  if unbindOutcome n code s = .done then
    (.done, owe n (noteBound n none (setItemLabels code (fun ls => ls.filter (fun m => !(m == n))) s)))
  else (unbindOutcome n code s, s)

/-- Delete an item: unbind its labels in binding order, then free its way (R12). -/
def deleteItem (code : Nat) (s : State) : WriteOutcome × State :=
  match findItem s.items code with
  | none => (.notFound, s)
  | some (slot, r) =>
    let t := r.labels.foldl (fun t n => owe n (noteBound n none t)) s
    (.done, { t with items := Tbl.del t.items slot })

end Sys2Proof.Machine
end

