-- ==== Sys2Proof/Machine/Schedule.lean ====
section
/-! DEFINITION. The pending list: inserts, due entries, activation, cancels (5.3 to 5.7). -/

namespace Sys2Proof.Machine

def setEntries (l : List PendingEntry) (s : State) : State := { s with sched := { s.sched with entries := l } }

/-- Free pending entries (R89). -/
def State.freePending (s : State) : Nat := 8192 - s.sched.entries.length

/-- Whether two changes are alike in item code, effective time and change kind (R89, R106). -/
def Change.alike (a b : Change) : Bool :=
  a.code == b.code && a.time == b.time && a.action.kind == b.action.kind

/-- Place a new entry after every entry whose effective time is at or before its own (R90). -/
def placeEntry (e : PendingEntry) (l : List PendingEntry) : List PendingEntry :=
  l.takeWhile (fun x => x.change.time ≤ e.change.time) ++ e :: l.dropWhile (fun x => x.change.time ≤ e.change.time)

/-- An insert request: whether it is answered DONE, and the state after (R90). -/
def insertPending (batch : Nat) (c : Change) (s : State) : Bool × State :=
  if s.sched.entries.any (fun x => x.change.alike c) then
    (true, setEntries (s.sched.entries.map (fun x => if x.change.alike c then { x with batch := batch, change := c } else x)) s)
  else if s.sched.entries.length < 8192 then
    (true, { s with sched :=
      ⟨placeEntry ⟨c, batch, s.sched.commitCounter⟩ s.sched.entries, s.sched.commitCounter + 1⟩ })
  else (false, s)

/-- Whether the head entry is due (R91). -/
def State.headDue (s : State) : Bool :=
  match s.sched.entries with
  | [] => false
  | e :: _ => s.clock.isSet && e.change.time ≤ s.clock.time

/-- The request an entry makes, and the reason of its ACTIVATION-FAILED, if any (R92). -/
def applyChange (c : Change) (s : State) : Option ActFailReason × State :=
  match c.action with
  | .set p =>
    let r := writeItem c.code (mergedFields c.code p s.items) s
    (match r.1 with
     | .full => some .bucketFull
     | .badField => some .badField
     | _ => none, r.2)
  | .delete => (none, (deleteItem c.code s).2)
  | .bind l =>
    let r := bindLabel l c.code s
    (match r.1 with
     | .notFound => some .noItem
     | .full => some .labelsFull
     | _ => none, r.2)
  | .unbind l => (none, (unbindLabel l c.code s).2)

/-- The label number an ACTIVATION-FAILED notice carries for BIND (R93). -/
def ChangeAction.bindLabel : ChangeAction → Option Nat
  | .bind l => some l
  | _ => none

/-- Apply an entry that has left the list, with its notice (R92, R93), and dispatch what has become WAITING (R74). -/
def activateEntry (e : PendingEntry) (s : State) : State :=
  let r := applyChange e.change s
  match r.1 with
  | none => dispatchOn s r.2
  | some reason =>
    raiseNotice
      (.activationFailed e.change.code e.change.action.kind e.change.time e.batch e.change.seq reason e.change.action.bindLabel) r.2

/-- One application of an activation run: the due head is removed, counted and applied (R91, R92). -/
def activationStep (s : State) : State :=
  match s.sched.entries with
  | [] => s
  | e :: rest => if s.headDue then activateEntry e (count (occ .activations) (setEntries rest s)) else s

end Sys2Proof.Machine
end

