-- ==== Sys2Proof/Machine/Exchange.lean ====
section
/-! DEFINITION. The nightly exchange but for EXCH-OPEN (06): records, close, discard, commit. -/

namespace Sys2Proof.Machine

def setExch (e : Exchange) (s : State) : State := { s with exch := e }

def setExchState (x : ExchState) (s : State) : State := { s with exch := { s.exch with state := x } }

/-- Send an EXCH-ANSWER or CLOSE-REPORT through the outbox (R120), discarded when the link of P0 is down (R161). -/
def sendExch (m : Msg) (s : State) : State :=
  sendBehind .exchangeUnit s.exch.outbox m (fun t => setExch { t.exch with outbox := t.exch.outbox ++ [m] } t) s

/-- Offer the outbox's messages in turn (R120). -/
def reofferOutbox (s : State) : State :=
  let r := offerInTurn .exchangeUnit s.exch.outbox s
  setExch { r.2.exch with outbox := r.1 } r.2

/-- The body of a CLOSE-REPORT (R113, 13.5). -/
def closeReportBody (batch result reason received committed refused : Nat) (broken : Option (Nat × Nat)) (last : Nat)
    (refusedList : List Nat) : List Byte :=
  be 4 batch ++ be 1 result ++ be 1 reason ++ be 2 received ++ be 2 committed ++ be 2 refused
    ++ be 2 ((broken.map (·.1)).getD 0) ++ be 2 ((broken.map (·.2)).getD 0) ++ be 4 last
    ++ be 1 refusedList.length ++ refusedList.flatMap (be 2)

/-- Send a CLOSE-REPORT when the head-office address is set (R108, R112). -/
def sendReport (body : List Byte) (s : State) : State :=
  if s.settings.headOffice = 0 then s else sendExch (build s .uplink s.settings.headOffice .closeReport body) s

/-- Whether a discard of this reason builds a CLOSE-REPORT (R108). -/
def DiscardReason.reported : DiscardReason → Bool
  | .link => false
  | .reset => false
  | _ => true

/-- Discard the open batch, if there is one (R108, R113, R114). -/
def discardBatch (reason : DiscardReason) (s : State) : State :=
  match s.exch.state with
  | .staging c =>
    let t := count (occQ .batchesEnded reason.index) (setExchState .idle s)
    let u :=
      if reason.reported then
        sendReport (closeReportBody c.batch 2 reason.index c.received 0 c.refused
          (if reason = .broken then c.broken else none) s.exch.lastBatch c.refusedList) t
      else t
    raiseNotice (.batchResult c.batch (some reason) c.received 0 c.refused s.exch.lastBatch) u
  | _ => s

/-- A sequence joins the refused list while it holds fewer than 16 (R105, R111). -/
def addRefused (seq : Nat) (l : List Nat) : List Nat := if l.length < 16 then l ++ [seq] else l

/-- The staging list after a valid record (R106). -/
def stage (c : Change) (l : List Change) : List Change := l.filter (fun x => !x.alike c) ++ [c]

/-- A record of the open batch, after its quiet timer restarted (R104 to R106). -/
def takeRecord (b : List Byte) (c : StagingCtx) (s : State) : State :=
  let seq := field b 4 2
  if c.broken.isSome then count (occ .ignoredRecords) (setExchState (.staging c) s)
  else if seq ≠ c.expected ∨ c.received = 8192 then
    count (occ .breaks) (setExchState (.staging { c with broken := some (c.expected, seq) }) s)
  else
    let d := { c with sum := (c.sum + wordSum b) % wordModulus, expected := c.expected + 1, received := c.received + 1 }
    match changeOf b with
    | some ch => setExchState (.staging { d with staging := stage ch d.staging }) s
    | none =>
      count (occ .refusedRecords)
        (setExchState (.staging { d with refused := d.refused + 1, refusedList := addRefused seq d.refusedList }) s)

/-- A PRICE-CHANGE handed over (R103). -/
def takePriceChange (b : List Byte) (s : State) : State :=
  match s.exch.state with
  | .staging c =>
    if field b 0 4 = c.batch then takeRecord b { c with quiet := s.now } s else count (occ .strayMessages) s
  | _ => count (occ .strayMessages) s

/-- The end of a commit (R112, R114). -/
def endCommit (c : CommitCtx) (s : State) : State :=
  let t := setExch { s.exch with lastBatch := c.batch } s
  let u := sendReport (closeReportBody c.batch 1 0 c.received c.committed c.refused none c.batch c.refusedList) t
  let v := raiseNotice (.batchResult c.batch none c.received c.committed c.refused c.batch) u
  count (occQ .batchesEnded 0) (setExchState .idle v)

/-- A batch found whole begins to commit; an empty one ends at once (R110, R112). -/
def beginCommit (c : StagingCtx) (s : State) : State :=
  let k : CommitCtx := ⟨c.batch, c.received, c.refused, 0, c.refusedList, c.staging⟩
  if c.staging = [] then endCommit k (setExchState (.committing k) s) else setExchState (.committing k) s

/-- An EXCH-CLOSE handed over (R109). -/
def takeExchClose (b : List Byte) (s : State) : State :=
  match s.exch.state with
  | .staging c =>
    if field b 0 4 ≠ c.batch then count (occ .strayMessages) s
    else if c.broken.isSome then discardBatch .broken s
    else if field b 4 2 ≠ c.received then discardBatch .count s
    else if field b 6 4 ≠ c.sum then discardBatch .sum s
    else if c.staging.length > s.freePending then discardBatch .noSpace s
    else beginCommit c s
  | _ => count (occ .strayMessages) s

/-- The commit context after an insert was answered (R111). -/
def CommitCtx.after (k : CommitCtx) (c : Change) (rest : List Change) (done : Bool) : CommitCtx :=
  if done then { k with queue := rest, committed := k.committed + 1 }
  else { k with queue := rest, refused := k.refused + 1, refusedList := addRefused c.seq k.refusedList }

/-- Hand the head change of the commit queue to the schedule (R111); the last one ends the commit (R112). -/
def commitChangeStep (s : State) : State :=
  match s.exch.state with
  | .committing k =>
    match k.queue with
    | [] => s
    | c :: rest =>
      let r := insertPending k.batch c s
      let k' := k.after c rest r.1
      let u := setExchState (.committing k') r.2
      if rest = [] then endCommit k' u else u
  | _ => s

/-- The quiet timer's expiry, when 60 s have passed (R107, R116). -/
def quietTimeoutStep (s : State) : State :=
  match s.exch.state with
  | .staging c => if elapsed s.now c.quiet ≥ 60000 then discardBatch .quiet s else s
  | _ => s

/-- Whether a batch is open or committing: the condition of a lamp whose source is EXCHANGE-ACTIVE (R121). -/
def ExchState.active : ExchState → Bool
  | .idle => false
  | _ => true

end Sys2Proof.Machine
end

