-- ==== Sys2Proof/Machine/Guest.lean ====
section
/-! DEFINITION. Guest unit (10): leases, cool-off, rate allowances, and the station entries that go with guest records. -/

namespace Sys2Proof.Machine

def setGuest (g : Guest) (s : State) : State := { s with guest := g }

def setStations (m : SMap Station) (s : State) : State := { s with stations := { s.stations with table := m } }

/-- State share (R174). -/
def stateShare : UplinkState → Nat
  | .up => 100
  | .degraded => 50
  | _ => 0

/-- Window share in force (R174). -/
def State.windowShareNow (s : State) : Nat := if s.windowIn then s.settings.windowShare else 100

/-- The aggregate rate A (R174). -/
def State.aggregateRate (s : State) : Nat :=
  (s.settings.guestRate * stateShare s.uplink.state / 100) * s.windowShareNow / 100

/-- Form A afresh (R174). -/
def formRate (s : State) : State := setGuest { s.guest with rate := s.aggregateRate } s

/-- One refill of a bucket: its level and remainder after (R173). -/
def refill (rate depth level rem : Nat) : Nat × Nat :=
  let up := level + (rate + rem) / 1000
  if up ≥ depth then (depth, 0) else (up, (rate + rem) % 1000)

/-- A client's bucket after a tick (R173). -/
def GuestRec.refilled (g : GuestRec) (rate depth : Nat) : GuestRec :=
  { g with level := (refill rate depth g.level g.rem).1, rem := (refill rate depth g.level g.rem).2 }

/-- Every client bucket and the aggregate bucket at a tick (R173, R175). -/
def bucketRefillStep (s : State) : State :=
  let g := s.guest
  let agg := if g.rate = 0 then (g.level, g.rem) else refill g.rate s.settings.aggDepth g.level g.rem
  setGuest { g with
    table := g.table.map (fun p => (p.1, p.2.refilled s.settings.clientRate s.settings.clientDepth))
    level := agg.1
    rem := agg.2 } s

/-- Remove a guest record, without cool-off (R172). -/
def dropGuest (a : Addr) (s : State) : State := setGuest { s.guest with table := Tbl.del s.guest.table a.toNat } s

/-- Remove a station entry and the guest record of a GUEST-CLIENT (R144, R145). -/
def dropStation (e : Station) (s : State) : State :=
  let t := setStations (Tbl.del s.stations.table e.addr.toNat) s
  if e.cls = .guestClient then dropGuest e.addr t else t

/-- An address joins the cool-off list, the oldest of 64 dropped first (R171). -/
def joinCoolOff (seconds : Nat) (l : List (Addr × Nat)) (a : Addr) : List (Addr × Nat) :=
  (if l.length ≥ 64 then l.drop 1 else l) ++ [(a, seconds)]

/-- The guest records whose lease ends at this second step, in ascending address (R170). -/
def Guest.expiring (g : Guest) : List Addr :=
  (g.table.filter (fun p => p.2.lease ≤ 1)).map (fun p => p.2.addr)

/-- The second step: cool-off entries and leases count down; expired guests leave with their station entries and join the
cool-off list (R170, R171). -/
def guestSecondStepBody (s : State) : State :=
  let g := s.guest
  let cooled := (g.coolOff.map (fun c => (c.1, c.2 - 1))).filter (fun c => !(c.2 == 0))
  let gone := g.expiring
  setStations (s.stations.table.filter (fun p => !(p.2.cls == .guestClient && gone.contains p.2.addr)))
    (setGuest { g with
      table := (g.table.filter (fun p => !(p.2.lease ≤ 1 : Bool))).map (fun p => (p.1, { p.2 with lease := p.2.lease - 1 }))
      coolOff := gone.foldl (joinCoolOff s.settings.coolOff) cooled } s)

/-- The largest byte count of a guest record (R168). -/
def maxBytes : Nat := 281474976710655

def putGuest (g : GuestRec) (s : State) : State := setGuest { s.guest with table := Tbl.put s.guest.table g.addr.toNat g } s

/-- Discard a guest frame uncharged (R176, R177). -/
def shapeAway (p : Port) (g : GuestRec) (s : State) : State :=
  count (occDiscard .guestShaping p (some .guest)) (putGuest { g with discarded := min 4294967295 (g.discarded + 1) } s)

/-- An upstream guest frame of length `n`: whether it is passed, and the state after (R176). -/
def chargeUp (g : GuestRec) (n : Nat) (s : State) : Bool × State :=
  if s.guest.rate = 0 then (false, shapeAway .uplink g s)
  else if n ≤ g.level ∧ n ≤ s.guest.level then
    (true, setGuest { s.guest with
      table := Tbl.put s.guest.table g.addr.toNat { g with level := g.level - n, bytesUp := min maxBytes (g.bytesUp + n) }
      level := s.guest.level - n } s)
  else (false, shapeAway .uplink g s)

/-- A downstream guest frame of length `n` (R177). -/
def chargeDown (g : GuestRec) (n : Nat) (s : State) : Bool × State :=
  if n ≤ g.level then
    (true, putGuest { g with level := g.level - n, bytesDown := min maxBytes (g.bytesDown + n) } s)
  else (false, shapeAway .guest g s)

/-- One ageing of an entry (R144). -/
def Station.aged (e : Station) : Station := { e with age := min 65535 (e.age + 1) }

/-- An entry that this ageing step removes (R144). -/
def agesOut (limit : Nat) (e : Station) : Bool := !e.loaded && limit < e.aged.age

/-- The ageing step: every age rises, then LEARNED entries above the limit go, guests with their records (R144, R172). -/
def ageingStepBody (s : State) : State :=
  let gone := s.stations.table.filter (fun p => agesOut s.settings.ageLimit p.2)
  setGuest { s.guest with
      table := s.guest.table.filter (fun p => !(gone.any (fun q => q.1 == p.1 && q.2.cls == .guestClient))) }
    (setStations
      ((s.stations.table.filter (fun p => !agesOut s.settings.ageLimit p.2)).map (fun p => (p.1, p.2.aged))) s)

/-- RESET TRAFFIC on the station table and the guest unit (R154, R180); A is formed by the uplink's change. -/
def stationsResetTraffic (s : State) : State :=
  let t := { s with stations := ⟨s.stations.table.filter (fun p => p.2.loaded), 0⟩ }
  setGuest ⟨[], [], s.settings.aggDepth, 0, 0, 0⟩ t

end Sys2Proof.Machine
end

