-- ==== Sys2Proof/Machine/Till.lean ====
section
/-! DEFINITION. Till service (02): intake, price asks and referral, the ask table, sale records, the answer backlog. -/

namespace Sys2Proof.Machine

def setTill (t : TillService) (s : State) : State := { s with till := t }

/-- Send a message the till service has built: offered when the backlog is empty, appended otherwise or when refused (R45),
discarded when its port's link is down (R161). -/
def sendTill (m : Msg) (s : State) : State :=
  sendBehind .tillService s.till.backlog m (fun t => setTill { t.till with backlog := t.till.backlog ++ [m] } t) s

/-- Offer the backlog's messages in turn (R45). -/
def reofferBacklog (s : State) : State :=
  let r := offerInTurn .tillService s.till.backlog s
  setTill { r.2.till with backlog := r.1 } r.2

/-! ### Intake (R27) -/

/-- Whether a station has an entry of class TILL-STATION. -/
def State.isTillStation (s : State) (a : Addr) : Bool :=
  (Tbl.get s.stations.table a.toNat).any (fun e => e.cls == .tillStation)

/-- Append an entry to the intake queue, or count an overflow (R27). -/
def appendIntake (e : IntakeEntry) (s : State) : State :=
  if s.till.intake.length < 64 then setTill { s.till with intake := s.till.intake ++ [e] } s
  else count (occ .intakeOverflows) s

/-- A PRICE-ASK handed over (R27, R202). -/
def takePriceAsk (src : Addr) (b : List Byte) (s : State) : State :=
  match s.isTillStation src, qtyKindOf (field b 9 1) with
  | true, some k => appendIntake ⟨src, .ask (field b 0 1) (field b 1 2) (field b 3 6) k (field b 10 4)⟩ s
  | _, _ => count (occ .foreignAsks) s

/-- A SALE-RECORD handed over; the record body is the bytes after the fixed fields (R27, R201). -/
def takeSaleRecord (src : Addr) (b : List Byte) (s : State) : State :=
  if s.isTillStation src ∧ b.length - 5 ≤ 240 then
    appendIntake ⟨src, .sale (field b 0 1) (field b 1 4) (b.drop 5)⟩ s
  else count (occ .foreignAsks) s

/-! ### Answers (R31) -/

/-- The body of a PRICE-ANS (13.3). -/
def priceAnsBody (tag code : Nat) (q : Quote) : List Byte :=
  be 2 tag ++ be 6 code ++ be 1 q.outcome.code ++ be 1 q.flags.byte ++ be 4 q.price ++ be 4 q.extended
    ++ be 1 q.promo.code ++ be 1 q.promo.count ++ be 4 q.promo.total ++ be 1 q.tax ++ be 2 q.version

/-- The fields of an UNKNOWN or BUSY answer (R31). -/
def emptyQuote (o : AnsOutcome) (noLink : Bool) : Quote :=
  ⟨o, 0, 0, ⟨false, false, noLink, false⟩, .absent, 0, 0⟩

/-- Build and send a PRICE-ANS, counted under its outcome (R31). -/
def answerAsk (dst : Addr) (tag code : Nat) (q : Quote) (s : State) : State :=
  sendTill (build s .till dst .priceAns (priceAnsBody tag code q)) (count (occQ .asksAnswered q.outcome.index) s)

/-! ### The ask table (R30, R32, R33) -/

/-- The lowest-numbered free ask-table entry (R32). -/
def freeAsk (asks : SMap LiveAsk) : Option Nat := (List.range 256).find? (fun n => (Tbl.get asks n).isNone)

/-- An entry's generation (R32). -/
def TillService.generation (t : TillService) (n : Nat) : Nat := (Tbl.get t.generations n).getD 0

/-- Generations with one entry's replaced; 0 is not listed (log 25). -/
def putGeneration (m : SMap Nat) (n g : Nat) : SMap Nat := if g = 0 then Tbl.del m n else Tbl.put m n g

/-- Refer an ask through entry `n`: its generation moves, it becomes live, one ITEM-QUERY is sent (R32, R33). -/
def referAsk (n : Nat) (a : LiveAsk) (s : State) : State :=
  let g := (s.till.generation n + 1) % 256
  let t := setTill { s.till with asks := Tbl.put s.till.asks n a, generations := putGeneration s.till.generations n g } s
  sendTill (build s .uplink s.settings.headOffice .itemQuery (be 1 n ++ be 1 g ++ be 6 a.code)) (count (occ .queriesSent) t)

/-- Whether the uplink state is UP or DEGRADED. -/
def State.online (s : State) : Bool := s.uplink.state == .up || s.uplink.state == .degraded

/-- A miss, by the uplink state and the ask table (R30). -/
def takeMiss (a : LiveAsk) (s : State) : State :=
  if s.settings.headOffice = 0 ∨ s.online = false then answerAsk a.src a.tag a.code (emptyQuote .unknown true) s
  else
    match freeAsk s.till.asks with
    | some n => referAsk n a s
    | none => answerAsk a.src a.tag a.code (emptyQuote .busy false) s

/-- A PRICE-ASK entry taken from the intake queue (R29). -/
def takeAsk (src : Addr) (tag code : Nat) (k : QtyKind) (quantity : Nat) (s : State) : State :=
  if s.till.asks.any (fun p => p.2.src == src && p.2.tag == tag) then count (occ .duplicateAsks) s
  else if validCode code = false then answerAsk src tag code (emptyQuote .unknown false) s
  else
    match lookupItem s.items code with
    | some r => answerAsk src tag code (quoteItem s.labels r k quantity) s
    | none => takeMiss ⟨src, tag, code, k, quantity, s.now⟩ s

/-! ### Sale records (R39 to R41) -/

/-- Build and send a SALE-TAKEN (R41). -/
def answerSale (dst : Addr) (till saleSeq : Nat) (taken : Bool) (seq : Nat) (s : State) : State :=
  sendTill (build s .till dst .saleTaken (be 1 till ++ be 4 saleSeq ++ be 1 (if taken then 1 else 2) ++ be 4 seq)) s

/-- A SALE-RECORD entry taken from the intake queue (R39, R40). The notice of a level reached comes before the SALE-TAKEN (log 41). -/
def takeSale (src : Addr) (till saleSeq : Nat) (body : List Byte) (s : State) : State :=
  match (Tbl.get s.till.register till).filter (fun r => r.saleSeq == saleSeq) with
  | some row => answerSale src till saleSeq true row.journalSeq s
  | none =>
    match journalTake till saleSeq body s with
    | some (seq, t) =>
      answerSale src till saleSeq true seq (setTill { t.till with register := Tbl.put t.till.register till ⟨saleSeq, seq⟩ } t)
    | none => answerSale src till saleSeq false 0 s

/-- Take the head intake entry, while the answer backlog is empty (R28). -/
def takeIntakeStep (s : State) : State :=
  if s.till.backlog = [] then
    match s.till.intake with
    | [] => s
    | e :: rest =>
      let t := setTill { s.till with intake := rest } s
      match e.work with
      | .ask _ tag code k q => takeAsk e.src tag code k q t
      | .sale till saleSeq body => takeSale e.src till saleSeq body t
  else s

/-! ### How a referral ends (R34 to R38) -/

/-- Answer a live entry and free it; its generation stays (R32, R35). -/
def endAsk (n : Nat) (a : LiveAsk) (q : Quote) (s : State) : State :=
  let t := answerAsk a.src a.tag a.code q s
  setTill { t.till with asks := Tbl.del t.till.asks n } t

/-- The adopt flag of an ITEM-REPLY, or none for a code that makes it a bad reply (R202, log 11). -/
def adoptOf (x : Byte) : Option Bool :=
  if x = 0 then some false else if x = 1 then some true else Config.adoptReserved x

/-- What a reply's body says (13.3, R202): the item unknown, a valid description with its adopt flag, or neither. -/
inductive ReplyContent where
  | unknown
  | known (fields : ItemFields) (adopt : Bool)
  | bad
deriving DecidableEq, Repr

/-- Read the outcome and description of an ITEM-REPLY (R3, R202). -/
def replyContent (b : List Byte) : ReplyContent :=
  match field b 8 1 with
  | 1 =>
    if b.length < 28 then .bad
    else
      match itemFieldsOf b 10, adoptOf (BitVec.ofNat 8 (field b 9 1)) with
      | some f, some adopt => if f.valid then .known f adopt else .bad
      | _, _ => .bad
  | 2 => .unknown
  | _ => .bad

/-- The quote of a live ask's quantity for a record of the table. -/
def LiveAsk.quote (a : LiveAsk) (s : State) (r : ItemRec) : Quote := quoteItem s.labels r a.kind a.quantity

/-- A matching reply for a code that is absent (R35, steps 2 to 5). -/
def takeAbsentReply (n : Nat) (a : LiveAsk) (c : ReplyContent) (s : State) : State :=
  match c with
  | .unknown => endAsk n a (emptyQuote .unknown false) s
  | .bad => endAsk n a (emptyQuote .unknown false) (count (occ .badReplies) s)
  | .known f false => endAsk n a (quoteDescribed f a.kind a.quantity 0) s
  | .known f true =>
    match (offerItem a.code f s.items).1 with
    | .done => endAsk n a (quoteDescribed f a.kind a.quantity 1) { s with items := (offerItem a.code f s.items).2 }
    | .full => endAsk n a (quoteDescribed f a.kind a.quantity 0) (raiseNotice (.tableFull a.code) s)
    | _ => endAsk n a (emptyQuote .unknown false) (count (occ .badReplies) s)

/-- An ITEM-REPLY handed over: late, or a match that ends its referral (R34, R35). -/
def takeItemReply (b : List Byte) (s : State) : State :=
  let n := field b 0 1
  match Tbl.get s.till.asks n with
  | some a =>
    if s.till.generation n = field b 1 1 ∧ a.code = field b 2 6 then
      match lookupItem s.items a.code with
      | some r => endAsk n a (a.quote s r) s
      | none => takeAbsentReply n a (replyContent b) s
    else count (occ .lateReplies) s
  | none => count (occ .lateReplies) s

/-- An entry's time-out, when its age has reached the ask timeout (R36). -/
def askTimeoutStep (n : Nat) (s : State) : State :=
  match Tbl.get s.till.asks n with
  | some a =>
    if elapsed s.now a.sent ≥ s.settings.askTimeout * 1000 then
      endAsk n a (emptyQuote .unknown true) (count (occ .askTimeouts) s)
    else s
  | none => s

/-- Time out every live entry whose age has reached the timeout, in ascending entry number (R36). -/
def expireAsks (s : State) : State :=
  (s.till.asks.map (·.1)).foldl (fun t n => askTimeoutStep n t) s

/-- Build a LINK-STATE message; a waiting one takes the new state in its place (R42, R46). -/
def sendLinkState (s : State) : State :=
  if s.till.backlog.any (fun m => m.kind == .linkState) then
    setTill { s.till with
      backlog := s.till.backlog.map (fun m => if m.kind = .linkState then { m with body := be 1 s.uplink.state.code } else m) } s
  else sendTill (build s .till broadcast .linkState (be 1 s.uplink.state.code)) s

/-- Answer one live entry UNKNOWN with NO-LINK and free it (R38). -/
def flushAsk (s : State) (p : Nat × LiveAsk) : State := endAsk p.1 p.2 (emptyQuote .unknown true) s

/-- The till service on entry into FALLBACK, after its LINK-STATE: the live asks answered, but for an entry that keeps them (log 36),
and no ITEM-QUERY left (R38). -/
def tillFallback (keepAsks : Bool) (s : State) : State :=
  let t := if keepAsks then s else s.till.asks.foldl flushAsk s
  let u := setTill { t.till with backlog := t.till.backlog.filter (fun m => !(m.kind == .itemQuery)) } t
  removeFrames .uplink (QFrame.isKind .itemQuery) (fun _ => []) u

/-- RESET TRAFFIC on the till service (R48). -/
def tillResetTraffic (s : State) : State :=
  setTill { s.till with intake := [], asks := [], backlog := [] } s

end Sys2Proof.Machine
end

