-- ==== Sys2Proof/Machine/UplinkMonitor.lean ====
section
/-! DEFINITION. The uplink monitor (07): probes, echoes, the four states, and what the neighbours do at a change (R135). -/

namespace Sys2Proof.Machine

def setUplink (u : Uplink) (s : State) : State := { s with uplink := u }

/-! ### The figures an echo is judged by (R127, R128) -/

/-- The expected round trip R (R127). -/
def State.expectedRtt (s : State) : Nat :=
  if s.settings.expectedRtt ≠ 0 then s.settings.expectedRtt
  else if s.uplink.history.length = 8 then s.uplink.history.sum / 8
  else 100

/-- The enter margin of a hysteresis code (R128). -/
def enterMargin (code : Nat) : Nat := [800, 400, 200, 100, 50, 25, 12, 6].getD code 100

/-- The exit margin of a hysteresis code (R128). -/
def exitMargin (code : Nat) : Nat := [600, 300, 150, 75, 40, 20, 10, 5].getD code 75

/-- Whether an echo of some round trip is good in the state in which it is taken (R128). -/
def State.goodEcho (s : State) (rtt : Nat) : Bool :=
  rtt ≤ s.expectedRtt +
    (if s.uplink.state = .up then enterMargin s.settings.hysteresis else exitMargin s.settings.hysteresis)

/-! ### A change of state (R135) -/

/-- The payment gate on entry into FALLBACK (R44). -/
def paymentFallback (s : State) : State :=
  removeFrames .uplink (fun f => f.payment) (fun _ => [occDiscard .heldBack .uplink none]) s

/-- The cell pool on entry into FALLBACK (R165). -/
def poolFallback (s : State) : State :=
  removeFrames .uplink (fun f => f.cls == .guest) (fun _ => [occDiscard .guestShaping .uplink (some .guest)]) s

/-- What the neighbours do on entry into FALLBACK, in the order of R135's table (log 6), before the guest unit's new rate. Whether
the entry by a cleared head-office address leaves the live asks (R38) and the SENT records (R59) is free (log 36). -/
def enterFallback (cause : UplinkCause) (s : State) : State :=
  let cleared := cause == .address
  discardBatch .link (journalFallback (cleared && Config.clearedKeepsSent)
    (paymentFallback (tillFallback (cleared && Config.clearedKeepsAsks) s)))

/-- Change the uplink state: runs to 0, the event to every neighbour, the notice (R123, R135). No change, no event. -/
def changeUplink (new : UplinkState) (cause : UplinkCause) (s : State) : State :=
  if s.uplink.state = new then s
  else
    let t := sendLinkState (setUplink { s.uplink with state := new, slowRun := 0, goodRun := 0, lostRun := 0 } s)
    let u := if new = .fallback then poolFallback (formRate (enterFallback cause t)) else formRate t
    raiseNotice (.uplinkState s.uplink.state new cause u.uplink.lastRtt u.expectedRtt) u

/-! ### Probes (R124, R125) -/

/-- Whether the monitor probes (R124). -/
def State.probing (s : State) : Bool := s.settings.headOffice != 0 && s.linkIsUp .uplink

/-- Build a LINK-PROBE (R124). -/
def buildProbe (s : State) : State :=
  let m := build s .uplink s.settings.headOffice .linkProbe (be 4 s.uplink.seq ++ be 4 s.now)
  let t := setUplink { s.uplink with
    probe := some ⟨s.uplink.seq, s.now, false⟩
    seq := succFromOne 4294967295 s.uplink.seq
    timer := some s.now
    held := none } s
  offerOr .uplinkMonitor m (fun u => setUplink { u.uplink with held := some m } u) t

/-- Empty the probe record, a probe held for cells with it (R132, R134). -/
def dropProbe (s : State) : State := setUplink { s.uplink with probe := none, held := none, timer := none } s

/-- Probing begins: the first probe is built at once, with none judged before it (R124). -/
def startProbing (s : State) : State := if s.probing then buildProbe (dropProbe s) else dropProbe s

/-- A lost probe (R125, R130). -/
def loseProbe (s : State) : State :=
  let lost := min 3 (s.uplink.lostRun + 1)
  let t := count (occQ .probeOutcomes 2)
    (setUplink { s.uplink with lostRun := lost, slowRun := 0, goodRun := 0, held := none } s)
  match s.uplink.state with
  | .fallback => t
  | .recovering => changeUplink .fallback .lost t
  | _ => if lost = 3 then changeUplink .fallback .lost t else t

/-- Judge the latest probe when the timer falls due (R125). -/
def judgeProbe (s : State) : State :=
  if s.uplink.probe.any (fun p => !p.answered) then loseProbe s else s

/-- The probe timer falls due: judge, then build the next (R124, R125). -/
def probeDue (s : State) : State := buildProbe (judgeProbe s)

/-- The probe timer's command, when the interval has passed (R124). -/
def probeTimerStep (s : State) : State :=
  match s.uplink.timer with
  | some t => if elapsed s.now t ≥ s.settings.probeInterval then probeDue s else s
  | none => s

/-- Offer the held probe again (R124). -/
def reofferProbe (s : State) : State :=
  match s.uplink.held with
  | none => s
  | some m =>
    let r := offer .uplinkMonitor m s
    if r.1 then setUplink { r.2.uplink with held := none } r.2 else r.2

/-! ### Echoes (R126, R129, R131) -/

/-- The move a counted echo makes (R129, R131). -/
def moveByEcho (good : Bool) (s : State) : State :=
  let u := s.uplink
  match u.state with
  | .up =>
    if good then setUplink { u with slowRun := 0 } s
    else if u.slowRun + 1 = 2 then changeUplink .degraded .echoes s
    else setUplink { u with slowRun := u.slowRun + 1 } s
  | .degraded =>
    if !good then setUplink { u with goodRun := 0 } s
    else if u.goodRun + 1 = 3 then changeUplink .up .echoes s
    else setUplink { u with goodRun := u.goodRun + 1 } s
  | .fallback => if u.force then s else changeUplink .recovering .answer s
  | .recovering =>
    if !good then setUplink { u with goodRun := 0 } s
    else if u.goodRun + 1 = 5 then changeUplink .up .echoes s
    else setUplink { u with goodRun := u.goodRun + 1 } s

/-- The RTT history with a round trip at its tail, the oldest of 8 dropped first (R127). -/
def joinHistory (rtt : Nat) (h : List Nat) : List Nat := (if h.length ≥ 8 then h.drop 1 else h) ++ [rtt]

/-- Count an echo of the latest probe (R126). -/
def countEcho (p : Probe) (s : State) : State :=
  let rtt := elapsed s.now p.sent
  let good := s.goodEcho rtt
  let t := count (occQ .probeOutcomes (if good then 0 else 1))
    (setUplink { s.uplink with
      lastRtt := some rtt
      probe := some { p with answered := true }
      lostRun := 0
      history := if good ∧ s.uplink.state = .up then joinHistory rtt s.uplink.history else s.uplink.history } s)
  moveByEcho good t

/-- A LINK-ECHO handed over (R126). -/
def takeLinkEcho (b : List Byte) (s : State) : State :=
  match s.uplink.probe with
  | none => count (occQ .oddEchoes 0) s
  | some p =>
    if p.seq ≠ field b 0 4 ∨ p.answered then count (occQ .oddEchoes 0) s
    else if p.sent ≠ field b 4 4 then count (occQ .oddEchoes 1) s
    else countEcho p s

/-! ### Link, force hold and head-office address (R132 to R134) -/

/-- The link of P0 has gone down (R132). -/
def uplinkLinkDown (s : State) : State := changeUplink .fallback .linkDown (dropProbe s)

/-- UPLINK-FORCE (R133). -/
def forceUplink (on : Bool) (s : State) : State :=
  if on then changeUplink .fallback .force (setUplink { s.uplink with force := true } s)
  else setUplink { s.uplink with force := false } s

/-- The head-office address has been changed, and stands as written. Cleared to zero it brings FALLBACK at once (R134). R38 and R59
have every entry into FALLBACK answer the live asks and rewind the upload, and then say that a cleared address leaves asks and SENT
records as they stand, to end by time-out: both outcomes are modelled, and which comes is a free value (log 36). -/
def headOfficeChanged (s : State) : State :=
  if s.settings.headOffice = 0 then changeUplink .fallback .address (dropProbe s) else startProbing s

/-- RESET TRAFFIC on the uplink monitor (R137). -/
def uplinkResetTraffic (s : State) : State :=
  startProbing (changeUplink .fallback .reset
    (setUplink { (dropProbe s).uplink with slowRun := 0, goodRun := 0, lostRun := 0 } s))

end Sys2Proof.Machine
end

