-- ==== Sys2Proof/Machine/StoreClock.lean ====
section
/-! DEFINITION. The store clock, the nightly window and its events (5.1, 5.2), and EXCH-OPEN, which sets the clock (6.2). -/

namespace Sys2Proof.Machine

/-- Whether the window is IN at a second of day (R87). -/
def windowAt (openS closeS second : Nat) : Bool :=
  if openS < closeS then openS ≤ second && second < closeS
  else if closeS < openS then openS ≤ second || second < closeS
  else false

/-- The window state as the clock and the settings give it (R87). -/
def State.windowNow (s : State) : Bool :=
  s.clock.isSet && windowAt s.settings.openSecond s.settings.closeSecond s.clock.second

/-- The exchange unit's part in a window event (R115). -/
def exchWindowEvent (s : State) : State :=
  if s.windowIn = false ∧ s.settings.anyTime = false then discardBatch .window s else s

/-- Recompute the window state; a change is a window event (R88). -/
def recomputeWindow (s : State) : State :=
  if s.windowNow = s.windowIn then s
  else formRate (exchWindowEvent { s with windowIn := s.windowNow })

/-- A clock held at its last second (R85). -/
def Clock.isHeld (c : Clock) : Bool := c.day == 65535 && c.second == 86399

/-- The clock one second on (R85). -/
def Clock.nextSecond (c : Clock) : Clock :=
  if c.second + 1 = daySeconds then { c with day := c.day + 1, second := 0, phase := 0 }
  else { c with second := c.second + 1, phase := 0 }

/-- The clock reaches a new second, and the window is tested; the pending head's run follows by its own commands (R85, R88,
R91). The command is the second's end itself: it is not held against the phase, which becomes 0 (log 37). -/
def clockSecondStep (s : State) : State :=
  if s.clock.isSet ∧ s.clock.isHeld = false then recomputeWindow { s with clock := s.clock.nextSecond } else s

/-- The clock a clock-setting request leaves (R86). -/
def clockOf (time : Nat) : Clock :=
  ⟨true, min time maxStoreTime / daySeconds, min time maxStoreTime % daySeconds, 0⟩

/-- A clock-setting request (R86, R88). -/
def setClock (time : Nat) (s : State) : State := recomputeWindow { s with clock := clockOf time }

/-! ### EXCH-OPEN (R100 to R102) -/

/-- The answer of an EXCH-OPEN, from the state after its clock setting; `wasIdle` is the exchange state it found (log 12). -/
def openAnswer (wasIdle : Bool) (batch announced : Nat) (s : State) : OpenAnswer :=
  if wasIdle = false then .busy
  else if s.online = false then .noLink
  else if batch ≤ s.exch.lastBatch then .oldBatch
  else if s.windowIn = false ∧ s.settings.anyTime = false then .noWindow
  else if announced > s.freePending then .noSpace
  else .ready

/-- The batch context a READY open sets up (R100). -/
def openedBatch (batch announced now : Nat) : StagingCtx := ⟨batch, announced, 1, 0, 0, none, 0, [], now, []⟩

/-- The body of an EXCH-ANSWER (R102, 13.5). -/
def exchAnswerBody (batch : Nat) (a : OpenAnswer) (s : State) : List Byte :=
  be 4 batch ++ be 1 a.code ++ be 2 s.freePending ++ be 4 s.exch.lastBatch ++ be 1 s.exch.state.code

/-- An EXCH-OPEN handed over (R100, R102, R120). -/
def takeExchOpen (b : List Byte) (s : State) : State :=
  if s.exch.outbox.length ≥ 7 then count (occ .strayMessages) s
  else
    let t := setClock (field b 6 6) s
    let a := openAnswer (s.exch.state = .idle) (field b 0 4) (field b 4 2) t
    let u := if a = .ready then setExchState (.staging (openedBatch (field b 0 4) (field b 4 2) t.now)) t else t
    sendExch (build u .uplink u.settings.headOffice .exchAnswer (exchAnswerBody (field b 0 4) a u)) u

end Sys2Proof.Machine
end

