-- ==== Sys2Proof/Machine/Forwarding.lean ====
section
/-! DEFINITION. Port units, source learning, branch message checks and the forwarding decision (08), with the gates of
R43, R176 and R177, and the link events (R138, R164). -/

namespace Sys2Proof.Machine

/-! ### The port gate (R139) -/

/-- A frame lights the activity of its port (R198). -/
def lightPort (p : Port) (s : State) : State := setPort p { s.port p with activity := some s.now } s

/-- A received frame of some length at the port gate: taken further by `k` when it passes, discarded with reason FCS when its
length is out of range, not received at all on a port whose link is down (R138, R139, log 15). -/
def throughGate (p : Port) (beforeLoss : Bool) (len : Nat) (k : State → State) (s : State) : State :=
  if s.linkIsUp p || beforeLoss then
    if 64 ≤ len ∧ len ≤ 1522 then k (lightPort p (count (occPort .framesReceived p) s))
    else count (occDiscard .fcs p none) s
  else s

/-! ### Source learning (R141 to R143, R169) -/

/-- The class a segment gives a learned station (R141). -/
def learnedClass : Seg → StationClass
  | .till => .tillStation
  | .guest => .guestClient
  | .office => .officeStation
  | _ => .other

/-- What learning leaves: a frame discarded, or taken further with its source entry. -/
inductive Learned where
  | dropped (s : State)
  | passed (entry : Option Station) (s : State)

def putStation (e : Station) (s : State) : State := setStations (Tbl.put s.stations.table e.addr.toNat e) s

/-- A new address on GUEST (R169). -/
def learnGuest (a : Addr) (s : State) : Learned :=
  if s.guest.coolOff.any (fun c => c.1 == a) then .dropped (count (occDiscard .coolOff .guest none) s)
  else if s.guest.table.length ≥ 512 ∨ s.stations.table.length ≥ 2048 then
    .dropped (count (occ .learningRefusals) (count (occDiscard .guestShaping .guest (some .guest)) s))
  else
    let e : Station := ⟨a, .guest, .guestClient, false, 0, false⟩
    .passed (some e) (putGuest ⟨a, s.settings.lease, s.settings.clientDepth, 0, 0, 0, 0⟩ (putStation e s))

/-- A new address on TILL, LABEL or OFFICE (R141). -/
def learnStation (p : Port) (a : Addr) (s : State) : Learned :=
  if s.stations.table.length < 2048 then
    let e : Station := ⟨a, p, learnedClass p, false, 0, false⟩
    .passed (some e) (putStation e s)
  else .passed none (count (occ .learningRefusals) s)

/-- A move of a LEARNED entry (R142). -/
def moveStation (p : Port) (e : Station) (s : State) : Learned :=
  let t := count (occ .stationMoves) s
  if p = .guest then learnGuest e.addr (dropStation e t)
  else
    let u := if e.cls = .guestClient then dropGuest e.addr t else t
    let moved : Station := { e with seg := p, cls := learnedClass p, age := 0 }
    .passed (some moved) (putStation moved u)

/-- A frame from a LOADED source on another segment: discarded, with one notice (R143). -/
def misplace (p : Port) (e : Station) (s : State) : State :=
  let t := count (occDiscard .misplaced p none) s
  if e.misplaced then t
  else raiseNotice (.stationMisplaced e.addr e.seg e.cls p) (putStation { e with misplaced := true } t)

/-- The source address of a frame (R141). -/
def learnSource (p : Port) (a : Addr) (s : State) : Learned :=
  if isGroup a || a == 0 || a == s.settings.stationAddr then .dropped (count (occDiscard .malformed p none) s)
  else if p = .uplink then .passed none s
  else
    match Tbl.get s.stations.table a.toNat with
    | some e =>
      if e.seg = p then .passed (some { e with age := 0 }) (putStation { e with age := 0 } s)
      else if e.loaded then .dropped (misplace p e s)
      else moveStation p e s
    | none => if p = .guest then learnGuest a s else learnStation p a s

/-- The class a frame is decided under: its source entry's, or the one its segment would have given, or none from UPLINK
(R141). -/
def sourceClass (p : Port) (entry : Option Station) : Option StationClass :=
  match entry with
  | some e => some e.cls
  | none => if p = .uplink then none else some (learnedClass p)

/-! ### Branch messages (R146, R147) -/

/-- Whether a kind is accepted from a segment (R147). -/
def accepted (k : MsgKind) (p : Port) (s : State) : Bool :=
  match k with
  | .priceAsk | .saleRecord => p == .till
  | .labelResult => p == .label
  | .itemReply | .exchOpen | .priceChange | .exchClose | .journalAck | .linkEcho => p == .uplink && s.settings.headOffice != 0
  | .mgmtReq => p == .office || (p == .uplink && s.settings.trustUplink)
  | _ => false

/-- Append a request to the request queue, or count an overflow figure (R190). -/
def appendRequest (p : Port) (src : Addr) (b : List Byte) (s : State) : State :=
  if s.mgmt.requests.length < 8 then
    { s with mgmt := { s.mgmt with requests := s.mgmt.requests ++ [⟨src, p, field b 0 2, field b 2 1, b.drop 3⟩] } }
  else { s with mgmt := { s.mgmt with overflow := min 65535 (s.mgmt.overflow + 1) } }

/-- Hand a message to the block that owns its kind (R147). -/
def toOwner (k : MsgKind) (p : Port) (src : Addr) (b : List Byte) (s : State) : State :=
  match k with
  | .priceAsk => takePriceAsk src b s
  | .saleRecord => takeSaleRecord src b s
  | .itemReply => takeItemReply b s
  | .labelResult => takeLabelResult src b s
  | .exchOpen => takeExchOpen b s
  | .priceChange => takePriceChange b s
  | .exchClose => takeExchClose b s
  | .journalAck => takeAck (field b 0 4) s
  | .linkEcho => takeLinkEcho b s
  | .mgmtReq => appendRequest p src b s
  | _ => s

/-- Checks 3 to 5 of a message of version 1 and a known kind: `n` is its body length field, `bytes` what follows it (R146). -/
def checkBranch (k : MsgKind) (p : Port) (src : Addr) (n : Nat) (bytes : List Byte) (s : State) : State :=
  match minBody k with
  | none => count (occDiscard .malformed p none) s
  | some least =>
    if accepted k p s = false then count (occDiscard .misplaced p none) s
    else if n < least ∨ bytes.length < n then count (occDiscard .malformed p none) s
    else toOwner k p src (bytes.take n) s

/-- A frame with the branch message type addressed to the part (R146, checks 1 and 2). -/
def parseBranch (p : Port) (f : Frame) (s : State) : State :=
  if field f.payload 0 1 ≠ 1 then count (occDiscard .malformed p none) s
  else
    match kindOfCode (field f.payload 1 1) with
    | none => count (occDiscard .malformed p none) s
    | some k => checkBranch k p f.src (field f.payload 2 2) (f.payload.drop 4) s

/-- A branch message of the command's kind received in full: the gate, its source, its checks, its owner (R139, R141, R146). -/
def receiveBranch (k : MsgKind) (m : BranchArrival) (s : State) : State :=
  throughGate m.port m.beforeLoss (arrivalLength m) (fun t =>
    match learnSource m.port m.src t with
    | .dropped u => u
    | .passed _ u => checkBranch k m.port m.src m.bodyLength.toNat m.bytes u) s

/-! ### The forwarding decision (R148 to R152) -/

/-- The policy cell from one segment to another (R150). -/
def policyCell (cells : List PolicyCell) (source dest : Seg) : PolicyCell :=
  cells.getD (4 * segIndex source + (if segIndex dest < segIndex source then segIndex dest else segIndex dest - 1)) .deny

/-- Egress class, from the source and destination classes (R152). -/
def egressClass (source dest : Option StationClass) : Cls :=
  if source = some .tillStation ∨ dest = some .tillStation then .urgent
  else if source = some .guestClient ∨ dest = some .guestClient then .guest
  else .store

/-- The copies of a group frame (R149). -/
def copyGroup (p : Port) (source : Option StationClass) (f : Frame) (s : State) : State :=
  (allSegs.filter (fun q => q != .uplink && q != p && policyCell s.settings.policy p q == .permit)).foldl
    (fun t q => offerForwarded q ⟨f, egressClass source none, .forwarded, false⟩ t) s

/-- A unicast frame past its gates, handed for admission (R151, R152). -/
def sendOn (q : Port) (source dest : Option StationClass) (f : Frame) (payment : Bool) (s : State) : State :=
  offerForwarded q ⟨f, egressClass source dest, .forwarded, payment⟩ s

/-- The gates of a unicast frame that the policy matrix has passed (R43, R151, R176, R177). -/
def throughGates (p q : Port) (entry destEntry : Option Station) (f : Frame) (s : State) : State :=
  let source := sourceClass p entry
  let dest := destEntry.map (·.cls)
  if q = .uplink ∧ source = some .tillStation then
    if s.online then sendOn q source dest f true s else count (occDiscard .heldBack .uplink none) s
  else if q = .uplink ∧ entry.map (·.cls) = some .guestClient then
    match Tbl.get s.guest.table f.src.toNat with
    | none => s
    | some g =>
      let r := chargeUp g (frameLength f) s
      if r.1 then sendOn q source dest f false r.2 else r.2
  else if p = .uplink ∧ dest = some .guestClient then
    match Tbl.get s.guest.table f.dst.toNat with
    | none => s
    | some g =>
      let r := chargeDown g (frameLength f) s
      if r.1 then sendOn q source dest f false r.2 else r.2
  else sendOn q source dest f false s

/-- An ordinary frame with an individual destination (R148, R150). -/
def forwardUnicast (p : Port) (entry : Option Station) (f : Frame) (s : State) : State :=
  let destEntry := Tbl.get s.stations.table f.dst.toNat
  let q := (destEntry.map (·.seg)).getD .uplink
  if q = p then count (occPort .framesFiltered p) s
  else
    match policyCell s.settings.policy p q with
    | .deny => count (occDiscard .policy p none) s
    | _ => throughGates p q entry destEntry f s

/-- A frame received in full that is not known to be a branch message (R139, R141, R146, R148). -/
def receiveFrame (a : FrameArrival) (s : State) : State :=
  throughGate a.port a.beforeLoss (frameLength a.frame) (fun t =>
    match learnSource a.port a.frame.src t with
    | .dropped u => u
    | .passed entry u =>
      if a.frame.dst = u.settings.stationAddr then
        if a.frame.etherType = u.settings.branchType then parseBranch a.port a.frame u
        else count (occDiscard .malformed a.port none) u
      else if isGroup a.frame.dst then copyGroup a.port (sourceClass a.port entry) a.frame u
      else forwardUnicast a.port entry a.frame u) s

/-- A received frame that fails the port gate (R139); a port whose link is down receives nothing (R138). -/
def receiveDamaged (p : Port) (s : State) : State :=
  if s.linkIsUp p then count (occDiscard .fcs p none) s else s

/-! ### Link events and transmission (R138, R162, R164) -/

/-- A link is established (R138); on P0 probing begins (R132). A link that is up already is not established again (log 2). -/
def linkUpStep (p : Port) (speed : Speed) (s : State) : State :=
  if s.linkIsUp p then s
  else
    let t := setPort p { s.port p with link := some speed } s
    if p = .uplink then startProbing t else t

/-- Mark that the generators have to offer again (log 23). -/
def markReoffer (s : State) : State := { s with pool := { s.pool with reoffer := true } }

/-- Every message that a generator holds (R161). -/
def State.heldMessages (s : State) : List Msg :=
  s.till.backlog ++ (s.journal.held.toList ++ ((s.disp.held.map (·.2)).toList ++ (s.uplink.held.toList ++
    (s.exch.outbox ++ s.mgmt.outbox.map (·.msg)))))

/-- No generator keeps a message for the port. -/
def forgetHeld (p : Port) (s : State) : State :=
  { s with
    till := { s.till with backlog := s.till.backlog.filter (fun m => m.port != p) }
    journal := { s.journal with held := s.journal.held.filter (fun m => m.port != p) }
    disp := { s.disp with held := s.disp.held.filter (fun h => h.2.port != p) }
    uplink := { s.uplink with held := s.uplink.held.filter (fun m => m.port != p) }
    exch := { s.exch with outbox := s.exch.outbox.filter (fun m => m.port != p) }
    mgmt := { s.mgmt with outbox := s.mgmt.outbox.filter (fun i => i.msg.port != p) } }

/-- The messages held for a port whose link has been lost are discarded, each an admission discard in class URGENT, and their
generators are done with them; the dispatcher, done with its push, tries to dispatch (R161, R74; log 38). -/
def discardHeld (p : Port) (s : State) : State :=
  let t := countMany (occDiscard .admission p (some .urgent)) (s.heldMessages.countP (fun m => m.port == p)) (forgetHeld p s)
  if s.disp.held.any (fun h => h.2.port == p) then dispatch t else t

/-- A link is lost: the frame in reception is discarded, every frame of the port leaves as a link-down discard, the messages held
for it are discarded, and on P0 the uplink monitor acts (R138, R164, R161, R132; their order: log 7). -/
def linkDownStep (p : Port) (receiving : Bool) (s : State) : State :=
  if s.linkIsUp p then
    let t := if receiving then count (occDiscard .fcs p none) s else s
    let u := setPort p { t.port p with link := none } t
    let v := discardHeld p
      (markReoffer (removeFrames p (fun _ => true) (fun f => [occDiscard .linkDown p (some f.cls)]) u))
    if p = .uplink then uplinkLinkDown v else v
  else s

/-- The last byte of a port's frame has been sent (R162). -/
def transmitEndStep (p : Port) (s : State) : State :=
  match (s.port p).tx with
  | none => s
  | some f =>
    startTx p (count (occSent p f.cls) (returnCells f.cells (setPort p { s.port p with tx := none } s)))

end Sys2Proof.Machine
end

