-- ==== Sys2Proof/Machine/Settings.lean ====
section
/-! DEFINITION. The settings: their values by number, the judging of a write, and what each owner does when a value changes
(12.2, 12.3, and the setting rules of the owners' chapters). -/

namespace Sys2Proof.Machine

/-- The policy cells of the settings 0x31 .. 0x44 (R193). -/
def policyIndex (n : Nat) : Option Nat := if 0x31 ≤ n ∧ n ≤ 0x44 then some (n - 0x31) else none

/-- The cell GUEST→UPLINK among the twenty (R150). -/
def guestUplinkCell : Nat := 12

/-- The value of a setting as a message carries it, or none for a number that names no setting (R193). -/
def Settings.value (st : Settings) (n : Nat) : Option Nat :=
  match n with
  | 0x01 => some st.stationAddr.toNat
  | 0x02 => some st.branchType.toNat
  | 0x03 => some st.headOffice.toNat
  | 0x04 => some st.noticeAddr.toNat
  | 0x05 => some (bit st.trustUplink)
  | 0x06 => some st.alertMode.code
  | 0x07 => some st.pulseWidth
  | 0x08 => some st.lamp0.code
  | 0x09 => some st.lamp1.code
  | 0x0A => some st.lamp2.code
  | 0x0B => some st.lamp3.code
  | 0x10 => some st.askTimeout
  | 0x11 => some st.trickleRate
  | 0x12 => some st.windowRate
  | 0x13 => some st.ackTimeout
  | 0x14 => some st.highWater
  | 0x18 => some st.baseWindow
  | 0x19 => some st.pushTimeout
  | 0x1A => some st.retryLimit
  | 0x20 => some st.openSecond
  | 0x21 => some st.closeSecond
  | 0x22 => some (bit st.anyTime)
  | 0x28 => some st.probeInterval
  | 0x29 => some st.expectedRtt
  | 0x2A => some st.hysteresis
  | 0x30 => some st.ageLimit
  | 0x48 => some st.lease
  | 0x49 => some st.coolOff
  | 0x4A => some st.clientRate
  | 0x4B => some st.clientDepth
  | 0x4C => some st.guestRate
  | 0x4D => some st.windowShare
  | 0x4E => some st.aggDepth
  | _ => (policyIndex n).map (fun i => (st.policy.getD i .deny).code)

/-- The range of a numeric setting (R193). -/
def numericRange (n : Nat) : Option (Nat × Nat) :=
  match n with
  | 0x02 => some (0x0600, 0xFFFF)
  | 0x10 => some (1, 10)
  | 0x11 => some (1, 1000)
  | 0x12 => some (1, 2000)
  | 0x13 => some (5, 120)
  | 0x14 => some (1, 16384)
  | 0x18 => some (1, 16)
  | 0x19 => some (2, 120)
  | 0x1A => some (1, 7)
  | 0x20 => some (0, 86399)
  | 0x21 => some (0, 86399)
  | 0x28 => some (250, 5000)
  | 0x29 => some (0, 2000)
  | 0x2A => some (0, 7)
  | 0x30 => some (10, 3600)
  | 0x48 => some (60, 86400)
  | 0x49 => some (60, 3600)
  | 0x4A => some (1000, 10000000)
  | 0x4B => some (1522, 1048576)
  | 0x4C => some (100000, 100000000)
  | 0x4D => some (1, 100)
  | 0x4E => some (1522, 4194304)
  | _ => none

/-- The settings with a numeric one replaced. -/
def Settings.putNumber (st : Settings) (n v : Nat) : Settings :=
  match n with
  | 0x02 => { st with branchType := BitVec.ofNat 16 v }
  | 0x10 => { st with askTimeout := v }
  | 0x11 => { st with trickleRate := v }
  | 0x12 => { st with windowRate := v }
  | 0x13 => { st with ackTimeout := v }
  | 0x14 => { st with highWater := v }
  | 0x18 => { st with baseWindow := v }
  | 0x19 => { st with pushTimeout := v }
  | 0x1A => { st with retryLimit := v }
  | 0x20 => { st with openSecond := v }
  | 0x21 => { st with closeSecond := v }
  | 0x28 => { st with probeInterval := v }
  | 0x29 => { st with expectedRtt := v }
  | 0x2A => { st with hysteresis := v }
  | 0x30 => { st with ageLimit := v }
  | 0x48 => { st with lease := v }
  | 0x49 => { st with coolOff := v }
  | 0x4A => { st with clientRate := v }
  | 0x4B => { st with clientDepth := v }
  | 0x4C => { st with guestRate := v }
  | 0x4D => { st with windowShare := v }
  | 0x4E => { st with aggDepth := v }
  | _ => st

/-- A write of a policy cell: PERMIT to GUEST→UPLINK is taken as SHAPED and SHAPED elsewhere as DENY, both CLAMPED (R150). -/
def judgeCell (i : Nat) (c : PolicyCell) (st : Settings) : MgmtResult × Settings :=
  match i == guestUplinkCell, c with
  | true, .permit => (.clamped, { st with policy := st.policy.set i .shaped })
  | false, .shaped => (.clamped, { st with policy := st.policy.set i .deny })
  | _, c => (.done, { st with policy := st.policy.set i c })

/-- An enumerated setting: written with DONE when the value is among those listed (R193). -/
def judgeEnum {α : Type} (parsed : Option α) (write : α → Settings) : MgmtResult × Option Settings :=
  match parsed with
  | some a => (.done, some (write a))
  | none => (.badField, none)

/-- The widths an alert pulse may have (R193). -/
def pulseWidthOf (v : Nat) : Option Nat := if v = 1 ∨ v = 2 ∨ v = 4 ∨ v = 8 then some v else none

/-- An individual address, or zero. -/
def addressOf (v : Nat) : Option Addr :=
  if isGroup (BitVec.ofNat 48 v) then none else some (BitVec.ofNat 48 v)

/-- A station address that a write may give the part: individual, not zero, and of no LOADED entry (R194). -/
def ownAddressOf (s : State) (v : Nat) : Option Addr :=
  match addressOf v with
  | some a => if a = 0 ∨ (Tbl.get s.stations.table a.toNat).any (·.loaded) then none else some a
  | none => none

/-- How a SETTING-WRITE of value `v` to setting `n` is taken: its result, and the settings it leaves unless BAD-FIELD (R150,
R193, R194). -/
def judgeWrite (n v : Nat) (s : State) : MgmtResult × Option Settings :=
  let st := s.settings
  match numericRange n with
  | some (lo, hi) => (if lo ≤ v ∧ v ≤ hi then .done else .clamped, some (st.putNumber n (clampTo lo hi v)))
  | none =>
    match n with
    | 0x01 => judgeEnum (ownAddressOf s v) (fun a => { st with stationAddr := a })
    | 0x03 => judgeEnum (addressOf v) (fun a => { st with headOffice := a })
    | 0x04 => judgeEnum (addressOf v) (fun a => { st with noticeAddr := a })
    | 0x05 => judgeEnum (onOffOf v) (fun b => { st with trustUplink := b })
    | 0x06 => judgeEnum (alertModeOf v) (fun m => { st with alertMode := m })
    | 0x07 => judgeEnum (pulseWidthOf v) (fun w => { st with pulseWidth := w })
    | 0x08 => judgeEnum (lampSourceOf v) (fun x => { st with lamp0 := x })
    | 0x09 => judgeEnum (lampSourceOf v) (fun x => { st with lamp1 := x })
    | 0x0A => judgeEnum (lampSourceOf v) (fun x => { st with lamp2 := x })
    | 0x0B => judgeEnum (lampSourceOf v) (fun x => { st with lamp3 := x })
    | 0x22 => judgeEnum (onOffOf v) (fun b => { st with anyTime := b })
    | _ =>
      match policyIndex n, policyCellOf v with
      | some i, some c => ((judgeCell i c st).1, some (judgeCell i c st).2)
      | _, _ => (.badField, none)

/-! ### What the owners do (R193) -/

/-- A lowered lease cuts longer leases (R170). -/
def cutLeases (s : State) : State :=
  setGuest { s.guest with table := s.guest.table.map (fun p => (p.1, { p.2 with lease := min s.settings.lease p.2.lease })) } s

/-- A lowered cool-off cuts longer ones (R171). -/
def cutCoolOff (s : State) : State :=
  setGuest { s.guest with coolOff := s.guest.coolOff.map (fun c => (c.1, min s.settings.coolOff c.2)) } s

/-- A bucket brought down to a lowered depth (R173). -/
def GuestRec.cutTo (depth : Nat) (g : GuestRec) : GuestRec :=
  if depth < g.level then { g with level := depth, rem := 0 } else g

/-- A lowered client depth (R173). -/
def cutClientLevels (s : State) : State :=
  setGuest { s.guest with table := s.guest.table.map (fun p => (p.1, p.2.cutTo s.settings.clientDepth)) } s

/-- A lowered aggregate depth brings the level down with remainder 0; a level at or below the new depth stays (R175). -/
def cutAggregate (s : State) : State :=
  if s.settings.aggDepth < s.guest.level then setGuest { s.guest with level := s.settings.aggDepth, rem := 0 } s else s

/-- A write that changes the alert mode: deasserted, nothing owed (R197). -/
def alertModeChanged (s : State) : State := { s with mgmt := { s.mgmt with owed := 0, alert := .idle } }

/-- What the owner of setting `n` does when its value has changed from the one of `old` (R193): `s` has the new settings.
A destination that first comes to be by the notice address receives the unsent notices (R196). -/
def settingChanged (n : Nat) (old : State) (s : State) : State :=
  match n with
  | 0x03 => headOfficeChanged s
  | 0x04 => if old.destination = none then sendUnsent s else s
  | 0x06 => alertModeChanged s
  | 0x10 => if s.settings.askTimeout < old.settings.askTimeout then expireAsks s else s
  | 0x13 => if s.settings.ackTimeout < old.settings.ackTimeout then ackTimeoutStep s else s
  | 0x14 => testHighWater s
  | 0x18 => if s.settings.baseWindow < old.settings.baseWindow then recallSurplus s else dispatch s
  | 0x19 => if s.settings.pushTimeout < old.settings.pushTimeout then expirePushes s else s
  | 0x20 => recomputeWindow s
  | 0x21 => recomputeWindow s
  | 0x28 => if s.settings.probeInterval < old.settings.probeInterval then probeTimerStep s else s
  | 0x48 => if s.settings.lease < old.settings.lease then cutLeases s else s
  | 0x49 => if s.settings.coolOff < old.settings.coolOff then cutCoolOff s else s
  | 0x4B => if s.settings.clientDepth < old.settings.clientDepth then cutClientLevels s else s
  | 0x4C => formRate s
  | 0x4D => formRate s
  | 0x4E => if s.settings.aggDepth < old.settings.aggDepth then cutAggregate s else s
  | _ => s

/-- The LEARNED entry of a station address about to become the part's own is removed (R194). -/
def clearOwnAddress (a : Addr) (s : State) : State :=
  match Tbl.get s.stations.table a.toNat with
  | some e => dropStation e s
  | none => s

/-- Apply settings a write leaves: no change of value, no act of the owner (R193). -/
def applySetting (n : Nat) (st : Settings) (s : State) : State :=
  if st = s.settings then s
  else
    let t := if st.stationAddr = s.settings.stationAddr then s else clearOwnAddress st.stationAddr s
    settingChanged n s { t with settings := st }

/-- A SETTING-WRITE: its result, and the state after (R193). -/
def writeSetting (n v : Nat) (s : State) : MgmtResult × State :=
  match judgeWrite n v s with
  | (r, some st) => (r, applySetting n st s)
  | (r, none) => (r, s)

end Sys2Proof.Machine
end

