-- ==== Sys2Proof/Machine/Requests.lean ====
section
/-! DEFINITION. How management requests are taken (R190, R191, R196), and the commands that act: the item table's, the label
dispatcher's, the station table's, the schedule's, the settings, the clock, the uplink, the counters and the notices (R192). -/

namespace Sys2Proof.Machine

/-! ### Taking a request -/

/-- A MGMT-ANS waits in the outbox, so no request is taken (R190). -/
def State.answerWaits (s : State) : Bool := s.mgmt.outbox.any (fun i => i.notice.isNone)

/-- The head request leaves the queue. The first one taken since power-on, pin or FULL reset names the first sender; when no
notice address is set the unsent notices are sent to it before its command is carried out (R196, log 22). -/
def takeRequest (r : Request) (s : State) : State :=
  let t := { s with mgmt := { s.mgmt with requests := s.mgmt.requests.drop 1 } }
  if s.mgmt.firstSender = none then
    let u := { t with mgmt := { t.mgmt with firstSender := some (r.src, r.port) } }
    if s.settings.noticeAddr = 0 then sendUnsent u else u
  else t

/-- Take the head request when `sel` says it is this command's, and carry its command out (R190, log 16). -/
def runHead (sel : Request → Bool) (run : Request → State → State) (s : State) : State :=
  if s.answerWaits then s
  else
    match s.mgmt.requests with
    | [] => s
    | r :: _ => if sel r then run r (takeRequest r s) else s

/-- A request of a command code (13.6). -/
def isCode (c : Nat) (r : Request) : Bool := r.code == c

/-- Answer BAD-FIELD, with nothing changed (R191). -/
def refuse (r : Request) (s : State) : State := answer r .badField [] s

/-- Run a command whose fields reach the layout's length, else answer BAD-FIELD (R202). -/
def withFields (n : Nat) (r : Request) (run : List Byte → State → State) (s : State) : State :=
  if r.fields.length < n then refuse r s else run r.fields s

/-! ### Item table (R7, R12, R192) -/

/-- The result an outcome of a write request is answered with (R6, R191). -/
def WriteOutcome.result : WriteOutcome → MgmtResult
  | .done => .done
  | .full => .full
  | .badField => .badField
  | .notFound => .notFound
  | .present => .badField

/-- A record as an answer carries it (log 9). -/
def itemBytes (r : ItemRec) : List Byte :=
  be 6 r.code ++ itemFieldBytes r.fields ++ be 2 r.version ++ be 1 r.labels.length ++ r.labels.flatMap (be 2)

def readItem (r : Request) (s : State) : State :=
  withFields 6 r (fun b s =>
    if validCode (field b 0 6) then
      match lookupItem s.items (field b 0 6) with
      | some i => answer r .done (itemBytes i) s
      | none => answer r .notFound [] s
    else refuse r s) s

def writeItemRequest (r : Request) (s : State) : State :=
  withFields 24 r (fun b s =>
    match itemFieldsOf b 6 with
    | none => refuse r s
    | some f =>
      let u := writeItem (field b 0 6) f s
      answer r u.1.result [] (dispatchOn s u.2)) s

/-- ITEM-DELETE; a code out of range is BAD-FIELD (log 17). -/
def deleteItemRequest (r : Request) (s : State) : State :=
  withFields 6 r (fun b s =>
    if validCode (field b 0 6) then
      let u := deleteItem (field b 0 6) s
      answer r u.1.result [] (dispatchOn s u.2)
    else refuse r s) s

/-! ### Labels (R71 to R73) -/

/-- Whether another label holds a radio identity (R63, R71). -/
def radioTaken (n radio : Nat) (s : State) : Bool :=
  radio != 0 && s.labels.any (fun p => p.1 != n && p.2.radio == radio)

/-- The radio identity and base station of a LABEL-WRITE (R72). -/
def writeRadio (n radio base : Nat) (s : State) : State :=
  let l := s.label n
  if l.radio = radio then setLabel n { l with base := base } s
  else
    let t := setLabel n { l with radio := radio, base := base, display := .neverShown, reachable := false } s
    let u := mapEntry n (fun e => { e with flight := e.flight.map (fun f => { f with superseded := true }) }) t
    if radio = 0 then u else owe n u

/-- The bind or unbind a LABEL-WRITE asks for, when the bound item it carries differs from the label's (R71). -/
def rebind (n : Nat) (bound : Option Nat) (s : State) : WriteOutcome × State :=
  if (s.label n).bound = bound then (.done, s)
  else
    match bound, (s.label n).bound with
    | some code, _ => bindLabel n code s
    | none, some code => unbindLabel n code s
    | none, none => (.done, s)

/-- A valid LABEL-WRITE (R71): the binding, then the radio identity and base station; then one dispatch attempt, when an entry has
become WAITING or the base station of a label with a WAITING entry has changed, and only then (R74, log 8). A WAITING entry of a label
that is given identity 0 and nothing else stays for the next attempt (R72). -/
def writeLabel (n radio base : Nat) (bound : Option Nat) (s : State) : WriteOutcome × State :=
  let r := rebind n bound s
  if r.1 = .done then
    let t := writeRadio n radio base r.2
    (.done, if (s.label n).base ≠ base ∧ t.hasWaiting n = true then dispatch t else dispatchOn s t)
  else (r.1, s)

/-- The bound item of a LABEL-WRITE: the code is read only with the flag on (13.6); none for BAD-FIELD (R71, R202). -/
def boundOf (b : List Byte) : Option (Option Nat) :=
  match onOffOf (field b 6 1) with
  | some false => some none
  | some true => if validCode (field b 7 6) then some (some (field b 7 6)) else none
  | none => none

def writeLabelRequest (r : Request) (s : State) : State :=
  withFields 13 r (fun b s =>
    match boundOf b with
    | none => refuse r s
    | some bound =>
      if field b 0 2 > 32767 ∨ field b 5 1 > 7 ∨ radioTaken (field b 0 2) (field b 2 3) s then refuse r s
      else
        let u := writeLabel (field b 0 2) (field b 2 3) (field b 5 1) bound s
        answer r u.1.result [] u.2) s

/-- A LABEL-REPUSH of a label in use (R73), with a dispatch attempt when its entry is new (R74). -/
def repushLabel (n : Nat) (s : State) : State :=
  dispatchOn s (owe n (setLabel n { s.label n with reachable := true } s))

def repushRequest (r : Request) (s : State) : State :=
  withFields 2 r (fun b s =>
    if field b 0 2 > 32767 then refuse r s
    else if (s.label (field b 0 2)).radio = 0 then answer r .notFound [] s
    else answer r .done [] (repushLabel (field b 0 2) s)) s

/-! ### Station table (R145) -/

/-- The class a STATION-WRITE carries with its segment and number, or none for BAD-FIELD (R145, 13.6). -/
def loadedClassOf (seg : Seg) (cls number : Nat) : Option StationClass :=
  match cls with
  | 1 => if seg = .till ∧ number = 0 then some .tillStation else none
  | 2 => if seg = .label ∧ number ≤ 7 then some (.baseStation number) else none
  | 4 => if number = 0 then some .officeStation else none
  | 5 => if number = 0 then some .other else none
  | _ => none

def StationClass.isBase : StationClass → Bool
  | .baseStation _ => true
  | _ => false

/-- Make or replace an entry by a LOADED one (R145). -/
def writeStation (e : Station) (s : State) : MgmtResult × State :=
  match Tbl.get s.stations.table e.addr.toNat with
  | some old =>
    let t := putStation e (dropStation old s)
    (.done, if e.cls.isBase || old.cls.isBase then dispatch t else t)
  | none =>
    if s.stations.table.length ≥ 2048 then (.full, s)
    else (.done, if e.cls.isBase then dispatch (putStation e s) else putStation e s)

/-- The entry a STATION-WRITE carries, or none for BAD-FIELD (R145). -/
def stationOf (b : List Byte) (s : State) : Option Station := do
  let seg ← segOfCode (field b 6 1)
  let cls ← loadedClassOf seg (field b 7 1) (field b 8 1)
  if isGroup (addrField b 0) || addrField b 0 == 0 || addrField b 0 == s.settings.stationAddr then none
  else some ⟨addrField b 0, seg, cls, true, 0, false⟩

def writeStationRequest (r : Request) (s : State) : State :=
  withFields 9 r (fun b s =>
    match stationOf b s with
    | none => refuse r s
    | some e =>
      let u := writeStation e s
      answer r u.1 [] u.2) s

def deleteStationRequest (r : Request) (s : State) : State :=
  withFields 6 r (fun b s =>
    match Tbl.get s.stations.table (field b 0 6) with
    | some e => answer r .done [] (dropStation e s)
    | none => answer r .notFound [] s) s

/-! ### Pending list (R96) -/

/-- Whether a pending entry is the one a cancel names (R96). -/
def PendingEntry.named (code time : Nat) (k : ChangeKind) (e : PendingEntry) : Bool :=
  e.change.code == code && e.change.time == time && e.change.action.kind == k

/-- Remove the entry a cancel names (R96). -/
def cancelPending (code time : Nat) (k : ChangeKind) (s : State) : MgmtResult × State :=
  if s.sched.entries.any (PendingEntry.named code time k) then
    (.done, setEntries (s.sched.entries.filter (fun e => !e.named code time k)) s)
  else (.notFound, s)

def ExchState.isCommitting : ExchState → Bool
  | .committing _ => true
  | _ => false

def cancelRequest (r : Request) (s : State) : State :=
  if s.exch.state.isCommitting then answer r .busy [] s
  else
    withFields 13 r (fun b s =>
      match changeKindOf (field b 12 1) with
      | some k =>
        if validCode (field b 0 6) && decide (field b 6 6 ≤ maxStoreTime) then
          let u := cancelPending (field b 0 6) (field b 6 6) k s
          answer r u.1 [] u.2
        else refuse r s
      | none => refuse r s) s

/-! ### Settings, clock, uplink, counters, notices -/

def readSettingRequest (r : Request) (s : State) : State :=
  withFields 1 r (fun b s =>
    match s.settings.value (field b 0 1) with
    | some v => answer r .done (be 6 v) s
    | none => refuse r s) s

/-- The data of a write's answer: the value now in force, for DONE and CLAMPED (R193). -/
def inForce (n : Nat) (o : MgmtResult) (s : State) : List Byte :=
  match o with
  | .done | .clamped => be 6 ((s.settings.value n).getD 0)
  | _ => []

def writeSettingRequest (r : Request) (s : State) : State :=
  withFields 7 r (fun b s =>
    let u := writeSetting (field b 0 1) (field b 1 6) s
    answer r u.1 (inForce (field b 0 1) u.1 u.2) u.2) s

def setClockRequest (r : Request) (s : State) : State :=
  withFields 6 r (fun b s =>
    if field b 2 4 < daySeconds then answer r .done [] (setClock (field b 0 2 * daySeconds + field b 2 4) s)
    else refuse r s) s

def forceRequest (r : Request) (s : State) : State :=
  withFields 1 r (fun b s =>
    match onOffOf (field b 0 1) with
    | some on => answer r .done [] (forceUplink on s)
    | none => refuse r s) s

def programRequest (r : Request) (s : State) : State :=
  withFields 10 r (fun b s =>
    match counterSourceOf b with
    | some src => if field b 0 1 ≤ 7 then answer r .done [] (programCounter (field b 0 1) src s) else refuse r s
    | none => refuse r s) s

/-- NOTICE-CLEAR: the queue, the waiting NOTICE messages and the owed pulses (R195, R197). -/
def clearNotices (s : State) : State :=
  { s with mgmt := { s.mgmt with notices := [], outbox := s.mgmt.outbox.filter (fun i => i.notice.isNone), owed := 0 } }

def clearRequest (r : Request) (s : State) : State :=
  answer r .done (be 2 s.mgmt.notices.length) (clearNotices s)

/-- The command codes of 13.6. -/
def commandCodes : List Nat :=
  [0x01, 0x02, 0x03, 0x10, 0x11, 0x12, 0x20, 0x21, 0x22, 0x30, 0x31, 0x40, 0x41, 0x42, 0x43, 0x50, 0x51, 0x52, 0x60, 0x61, 0x62]

/-- A request whose command code is none of the table's (R192). -/
def isUnknown (r : Request) : Bool := !commandCodes.contains r.code

/-! ### The alert line and the lamps (R197, R198) -/

/-- A pulse or gap that has lasted its width ends: a pulse in a gap, a gap in idleness, where an owed pulse begins (R197). -/
def alertPulseEndStep (s : State) : State :=
  match s.mgmt.alert with
  | .idle => s
  | .pulsing t w =>
    if elapsed s.now t ≥ w then { s with mgmt := { s.mgmt with alert := .gap s.now w } } else s
  | .gap t w =>
    if elapsed s.now t ≥ w then startPulse { s with mgmt := { s.mgmt with alert := .idle } } else s

/-- Thirty milliseconds after the last frame of a port its activity ends (R198). -/
def portLampExpiryStep (p : Port) (s : State) : State :=
  match (s.port p).activity with
  | none => s
  | some t => if elapsed s.now t ≥ 30 then setPort p { s.port p with activity := none } s else s

/-- Whether a lamp of a source is lit (R198). -/
def State.lit (s : State) : LampSource → Bool
  | .uplinkUp => s.uplink.state == .up
  | .fallback => s.uplink.state == .fallback || s.uplink.state == .recovering
  | .windowIn => s.windowIn
  | .exchangeActive => s.exch.state.active
  | .labelBacklog => 1024 ≤ s.disp.queue.length
  | .journalHigh => s.settings.highWater ≤ s.journal.count
  | .noticePending => !s.mgmt.notices.isEmpty
  | .port p => (s.port p).activity.isSome && s.linkIsUp p

end Sys2Proof.Machine
end

