-- ==== Sys2Proof/Machine/Reads.lean ====
section
/-! DEFINITION. The answers that show state: LABEL-READ, STATION-READ, PENDING-READ, COUNTER-READ and the ten sections of
STATE-READ. The order of the fields is the owning rule's; widths and list counts that chapter 13 does not give are log 9, and
codes it does not give are free values (log 10). Yes and no are a byte 1 and 0, and a field that may have no value stands behind such
a byte (log 39). -/

namespace Sys2Proof.Machine

/-- Yes or no as a byte 1 or 0 (log 39). -/
def flag (b : Bool) : List Byte := be 1 (bit b)

/-! ### LABEL-READ (R82) -/

/-- Display state with the displayed content (R63), whose fields are sent as 0 where nothing is SHOWING (log 40; widths: log 9). -/
def displayBytes : Display → List Byte
  | .neverShown => [Config.openCode .displayState 0] ++ List.replicate 17 0
  | .blankShown => [Config.openCode .displayState 2] ++ List.replicate 17 0
  | .showing c =>
    [Config.openCode .displayState 1] ++ be 4 c.unitPrice ++ be 4 c.comparePrice ++ be 1 c.mode.code ++ be 1 c.promo.code
      ++ be 1 c.promo.count ++ be 4 c.promo.total ++ be 2 c.version

/-- A label's queue entry (R82; widths: log 9): its state, and what an entry in that state has. -/
def entryBytes : Option LabelEntry → List Byte
  | none => [Config.openCode .entryState 0]
  | some e =>
    [Config.openCode .entryState (if e.flight.isSome then 2 else 1)] ++ be 1 (if e.isPrice then 1 else 2)
      ++ [Config.openCode .priority (bit e.high)] ++ be 1 e.attempts
      ++ (match e.flight with
          | none => []
          | some f => be 2 f.tag ++ be 1 f.base ++ be 4 f.sent ++ flag f.superseded ++ flag f.rebound)

/-- A label's record, the fields of R63, with its queue entry (R82; widths: log 9); no bound item is sent as 0 (log 40). -/
def labelBytes (n : Nat) (s : State) : List Byte :=
  let l := s.label n
  be 3 l.radio ++ be 1 l.base ++ be 6 (l.bound.getD 0) ++ displayBytes l.display
    ++ [Config.openCode .reach (bit l.reachable)] ++ flag l.overflow ++ entryBytes (s.entryOf n)

def readLabelRequest (r : Request) (s : State) : State :=
  withFields 2 r (fun b s =>
    if field b 0 2 > 32767 then refuse r s else answer r .done (labelBytes (field b 0 2) s) s) s

/-! ### STATION-READ (R145, R179) -/

/-- A guest record, every field of R168, its station address among them (R179; widths: log 9). -/
def guestBytes (g : GuestRec) : List Byte :=
  be 6 g.addr.toNat ++ be 4 g.lease ++ be 4 g.level ++ be 2 g.rem ++ be 6 g.bytesUp ++ be 6 g.bytesDown ++ be 4 g.discarded

/-- A station entry, every field of R140, with the guest record of a GUEST-CLIENT behind it (R145, R179; widths: log 9). -/
def stationBytes (e : Station) (s : State) : List Byte :=
  be 6 e.addr.toNat ++ be 1 (segIndex e.seg) ++ be 1 e.cls.code ++ be 1 e.cls.number
    ++ [Config.openCode .origin (bit e.loaded)] ++ be 2 e.age ++ flag e.misplaced
    ++ (if e.cls = .guestClient then ((Tbl.get s.guest.table e.addr.toNat).map guestBytes).getD [] else [])

def readStationRequest (r : Request) (s : State) : State :=
  withFields 6 r (fun b s =>
    match Tbl.get s.stations.table (field b 0 6) with
    | some e => answer r .done (stationBytes e s) s
    | none => answer r .notFound [] s) s

/-! ### PENDING-READ (R97) -/

def pendingBytes (e : PendingEntry) : List Byte :=
  be 6 e.change.code ++ be 6 e.change.time ++ be 4 e.batch ++ be 2 e.change.seq ++ be 1 e.change.action.kind.code
    ++ changeFieldBytes e.change.action ++ be 4 e.stamp

def readPendingRequest (r : Request) (s : State) : State :=
  withFields 2 r (fun b s =>
    answer r .done
      (be 2 s.sched.entries.length ++ ((s.sched.entries.drop (field b 0 2)).take 16).flatMap pendingBytes) s) s

/-! ### COUNTER-READ (R188) -/

/-- The source, filter, mode, threshold and invert of a counter, as COUNTER-PROGRAM carries them (13.6). What a counter does not have
is sent as 0: the sets where there is no filter, threshold and invert in every mode but LEVEL and EDGE (R202, log 40); the mode byte
of a counter that has no mode is a free value (log 10). -/
def sourceBytes : CounterSource → List Byte
  | .none => be 1 0 ++ be 2 0 ++ be 1 0 ++ be 1 0 ++ [Config.openCode .counterMode 0] ++ be 2 0 ++ be 1 0
  | .event e quals ports classes =>
    be 1 (countEvents.idxOf e + 1) ++ be 2 quals.toNat ++ be 1 ports.toNat ++ be 1 classes.toNat
      ++ [Config.openCode .counterMode 0] ++ be 2 0 ++ be 1 0
  | .occupancy o mode =>
    be 1 (0x41 + occupancies.idxOf o) ++ be 2 0 ++ be 1 0 ++ be 1 0
      ++ (match mode with
          | .plain => be 1 1 ++ be 2 0 ++ be 1 0
          | .level t i => be 1 2 ++ be 2 t ++ flag i
          | .edge t i => be 1 3 ++ be 2 t ++ flag i)

/-- The hold set (R187; widths: log 9). -/
def holdBytes (h : HoldSet) : List Byte :=
  h.values.flatMap (fun v => be 6 v.1 ++ flag v.2) ++ h.occupancies.flatMap (be 2) ++ be 2 h.number ++ be 4 h.time

def readCountersRequest (r : Request) (s : State) : State :=
  answer r .done (holdBytes s.mon.hold ++ s.mon.counters.flatMap (fun c => sourceBytes c.source)) s

/-! ### STATE-READ (R192) -/

/-- TILL (R47): counts of 2 bytes each, the ask timeout of 1 (log 9). -/
def tillSection (s : State) : List Byte :=
  be 2 s.till.intake.length ++ be 2 s.till.asks.length ++ be 2 s.till.backlog.length
    ++ flag (s.till.backlog.any (fun m => m.kind == .linkState)) ++ be 2 s.till.register.length ++ be 1 s.settings.askTimeout

/-- JOURNAL (R61; widths: log 9). How long a stopped ack timer has run is sent as 0 (log 40). -/
def journalSection (s : State) : List Byte :=
  let j := s.journal
  be 4 j.release ++ be 4 j.next ++ be 4 j.free ++ be 2 j.count ++ be 2 j.sentCount ++ be 2 j.credit ++ be 2 s.journalRate
    ++ flag j.ackTimer.isSome ++ be 4 ((j.ackTimer.map (elapsed s.now)).getD 0) ++ flag j.fresh ++ flag j.held.isSome
    ++ flag j.highArmed ++ flag j.fullArmed

/-- LABEL (R82): counts of 2 bytes each (log 9). -/
def labelSection (s : State) : List Byte :=
  be 2 s.waitingInOrder.length ++ be 2 s.tagsInFlight.length ++ (List.range 8).flatMap (fun b => be 2 (s.inFlight b).length)
    ++ be 2 s.disp.nextTag ++ flag s.disp.held.isSome ++ be 2 s.overflowed.length

/-- SCHEDULE (R97; widths: log 9). -/
def scheduleSection (s : State) : List Byte :=
  flag s.clock.isSet ++ be 2 s.clock.day ++ be 4 s.clock.second ++ [Config.openCode .windowState (bit s.windowIn)]
    ++ be 2 s.sched.entries.length

/-- EXCHANGE (R121; widths: log 9). -/
def exchangeSection (s : State) : List Byte :=
  be 1 s.exch.state.code ++ be 4 s.exch.lastBatch ++ flag s.settings.anyTime
    ++ (match s.exch.state with
        | .idle => []
        | .staging c =>
          be 4 c.batch ++ be 2 c.announced ++ be 2 c.expected ++ be 2 c.received ++ be 2 c.refused ++ flag c.broken.isSome
            ++ be 2 c.staging.length
        | .committing k => be 4 k.batch ++ be 2 k.queue.length)

/-- UPLINK (R136; widths: log 9). The last RTT and the probe record stand each behind a byte that says whether there is one, 0 in
the fields of one that is not there; R's byte is 1 for set and 0 for learned (log 39, log 40). -/
def uplinkSection (s : State) : List Byte :=
  let u := s.uplink
  be 1 u.state.code ++ flag u.force ++ flag u.lastRtt.isSome ++ be 4 (u.lastRtt.getD 0) ++ be 4 s.expectedRtt
    ++ flag (s.settings.expectedRtt != 0) ++ be 1 u.history.length ++ u.history.flatMap (be 4) ++ be 1 u.slowRun
    ++ be 1 u.goodRun ++ be 1 u.lostRun
    ++ (match u.probe with
        | none => flag false ++ be 4 0 ++ be 4 0 ++ flag false ++ flag false
        | some p => flag true ++ be 4 p.seq ++ be 4 p.sent ++ flag p.answered ++ flag u.held.isSome)

/-- FORWARDING (R153; widths: log 9). -/
def forwardingSection (s : State) : List Byte :=
  allSegs.map (fun p => Config.openCode .linkState (bit (s.linkIsUp p)))
    ++ be 2 (s.stations.table.filter (fun p => !p.2.loaded)).length ++ be 2 (s.stations.table.filter (fun p => p.2.loaded)).length
    ++ be 2 s.settings.ageLimit ++ be 2 s.settings.branchType.toNat ++ s.settings.policy.flatMap (fun c => be 1 c.code)

/-- One port of CELLS: each queue's frames and cells, the frame in transmission, the STORE cells (R167; widths:
log 9); the length with no frame in transmission is sent as 0 (log 40). -/
def portSection (u : PortUnit) : List Byte :=
  [Cls.urgent, .store, .guest].flatMap (fun c => be 2 (u.queue c).length ++ be 2 (cellsOf (u.queue c)))
    ++ (match u.tx with
        | some f => [Config.openCode .egressClass f.cls.index] ++ be 2 (frameLength f.frame)
        | none => [Config.openCode .egressClass 3] ++ be 2 0)
    ++ be 2 (u.classCells .store)

/-- CELLS (R167; widths: log 9). -/
def cellsSection (s : State) : List Byte :=
  be 2 s.pool.free ++ be 2 s.pool.guestCells ++ allSegs.flatMap (fun p => portSection (s.port p))

/-- GUEST (R179): the two counts in 2 bytes, the rate and the aggregate level in 4, the shares in 1 (log 9). -/
def guestSection (s : State) : List Byte :=
  be 2 s.guest.table.length ++ be 2 s.guest.coolOff.length ++ be 4 s.guest.rate ++ be 1 (stateShare s.uplink.state)
    ++ be 1 s.windowShareNow ++ be 4 s.guest.level

/-- A notice of the queue: as its message carries it, with its sent mark. -/
def noticeBytes (n : Notice) : List Byte := flag n.sent ++ n.bytes

/-- MANAGEMENT (R192; widths: log 9). The destination stands behind a byte that says whether there is one (log 39, log 40). -/
def managementSection (s : State) : List Byte :=
  [s.straps.address] ++ flag s.straps.trustUplink
    ++ (match s.destination with
        | some (a, p) => flag true ++ be 6 a.toNat ++ be 1 (segIndex p)
        | none => flag false ++ be 6 0 ++ be 1 0)
    ++ be 1 s.mgmt.requests.length ++ be 2 s.mgmt.overflow ++ flag s.alertAsserted ++ be 1 s.settings.alertMode.code
    ++ [s.settings.lamp0, s.settings.lamp1, s.settings.lamp2, s.settings.lamp3].flatMap (fun l => be 1 l.code ++ flag (s.lit l))
    ++ be 1 s.mgmt.notices.length ++ s.mgmt.notices.flatMap noticeBytes

/-- The section of a code: TILL 1 to MANAGEMENT 10 in the order R192 names them (13.6). -/
def sectionBytes (n : Nat) (s : State) : Option (List Byte) :=
  match n with
  | 1 => some (tillSection s)
  | 2 => some (journalSection s)
  | 3 => some (labelSection s)
  | 4 => some (scheduleSection s)
  | 5 => some (exchangeSection s)
  | 6 => some (uplinkSection s)
  | 7 => some (forwardingSection s)
  | 8 => some (cellsSection s)
  | 9 => some (guestSection s)
  | 10 => some (managementSection s)
  | _ => none

def readStateRequest (r : Request) (s : State) : State :=
  withFields 1 r (fun b s =>
    match sectionBytes (field b 0 1) s with
    | some d => answer r .done d s
    | none => refuse r s) s

end Sys2Proof.Machine
end

