-- ==== Sys2Proof/Machine/Resets.lean ====
section
/-! DEFINITION. The resets (R199, R200 and the reset rules of every chapter) and the re-offer of held messages (R161). -/

namespace Sys2Proof.Machine

/-- Power-on, or the release of the reset pin, with the straps latched as given (R194, R200). The command queue and the count
of free choices are the model's own and go on. -/
def resetWith (straps : Straps) (s : State) : State :=
  { powerOnState straps with pending := s.pending, choices := s.choices }

/-- The ports with their links alone (R138, R154). -/
def linksKept (p : PerSeg PortUnit) : PerSeg PortUnit :=
  ⟨idlePort p.uplink.link, idlePort p.till.link, idlePort p.label.link, idlePort p.guest.link, idlePort p.office.link⟩

/-- RESET FULL: as the reset pin, but for the straps, the station address and the links (R199). -/
def fullReset (s : State) : State :=
  let t := resetWith s.straps s
  { t with
    settings := { t.settings with stationAddr := s.settings.stationAddr }
    pool := { t.pool with ports := linksKept s.pool.ports } }

/-- A port emptied by RESET TRAFFIC: its frames end uncounted, its link stays (R154, R166). -/
def PortUnit.emptied (u : PortUnit) : PortUnit := ⟨u.link, [], [], [], none, u.activity⟩

/-- RESET TRAFFIC on the cell pool (R166). -/
def poolResetTraffic (s : State) : State :=
  let p := s.pool.ports
  { s with pool :=
      ⟨⟨p.uplink.emptied, p.till.emptied, p.label.emptied, p.guest.emptied, p.office.emptied⟩, 8192, false⟩ }

/-- RESET TRAFFIC on the exchange unit's outbox (R122). -/
def exchResetTraffic (s : State) : State := setExch { s.exch with outbox := [] } s

/-- RESET TRAFFIC on the management unit: requests and outbox go, notices whose message was discarded are unsent (R200). -/
def mgmtResetTraffic (s : State) : State :=
  let waiting := s.mgmt.outbox.filterMap (·.notice)
  { s with mgmt := { s.mgmt with
      requests := []
      outbox := []
      notices := s.mgmt.notices.map (fun n => if waiting.contains n.number then { n with sent := false } else n) } }

/-- RESET TRAFFIC: every block is emptied, then the blocks act on the emptied part (R199; the order is log 13). Dispatch resumes with
one attempt (R84). -/
def trafficReset (s : State) : State :=
  let t := mgmtResetTraffic (stationsResetTraffic (exchResetTraffic (labelsResetTraffic
    (journalResetTraffic (tillResetTraffic (poolResetTraffic s))))))
  formRate (uplinkResetTraffic (testLevels (discardBatch .reset (sendUnsent (dispatch t)))))

/-- A RESET of kind FULL (R199). -/
def resetFullRequest (r : Request) (s : State) : State :=
  withFields 1 r (fun b s => if field b 0 1 = 1 then answer r .done [] (fullReset s) else refuse r s) s

/-- A RESET of kind TRAFFIC (R199). -/
def resetTrafficRequest (r : Request) (s : State) : State := answer r .done [] (trafficReset s)

/-- A RESET whose kind is TRAFFIC. -/
def isTrafficReset (r : Request) : Bool := r.code == 0x62 && !r.fields.isEmpty && field r.fields 0 1 == 2

/-- Any other RESET: of kind FULL, or one answered BAD-FIELD (log 16). -/
def isOtherReset (r : Request) : Bool := r.code == 0x62 && !isTrafficReset r

/-! ### Held messages (R161) -/

/-- The management unit's outbox offers its messages in turn (R191). -/
def reofferOut (s : State) : State :=
  let r := outboxInTurn s.mgmt.outbox s
  { r.2 with mgmt := { r.2.mgmt with outbox := r.1 } }

/-- One generator offers what it holds (R161). -/
def reofferFor (s : State) : Generator → State
  | .tillService => reofferBacklog s
  | .journalUpload => reofferSend s
  | .labelDispatcher => reofferPush s
  | .uplinkMonitor => reofferProbe s
  | .exchangeUnit => reofferOutbox s
  | .managementUnit => reofferOut s

def allGenerators : List Generator :=
  [.tillService, .journalUpload, .labelDispatcher, .uplinkMonitor, .exchangeUnit, .managementUnit]

/-- Every generator that holds a message offers it, those named in the order given, any other after them: the pool takes the
offers in no fixed order (R161). -/
def reofferAll (order : List Generator) (s : State) : State :=
  (order ++ allGenerators.filter (fun g => !order.contains g)).foldl reofferFor
    { s with pool := { s.pool with reoffer := false } }

end Sys2Proof.Machine
end

