-- ==== Sys2Proof/Machine/PortCommands.lean ====
section
/-! DEFINITION. The meanings of the resets, the link events and the frames. -/

namespace Sys2Proof.Machine

/-- POWER_ON: every block as after power-on, the straps latched (R194, R200). -/
def execPowerOn (straps : Straps) (s : State) : Host.Outcome State Fault Refusal :=
  .next (resetWith straps s)

/-- RESET_PIN: a pulse on the reset pin, its release latching the straps (R194, R200; log 18). -/
def execResetPin (straps : Straps) (s : State) : Host.Outcome State Fault Refusal :=
  .next (resetWith straps s)

/-- LINK_UP: a port's link is established (R138, R132). -/
def execLinkUp (p : Port) (speed : Speed) (s : State) : Host.Outcome State Fault Refusal :=
  .next (linkUpStep p speed s)

/-- LINK_DOWN: a port's link is lost (R138, R164, R132). -/
def execLinkDown (p : Port) (receiving : Bool) (s : State) : Host.Outcome State Fault Refusal :=
  .next (linkDownStep p receiving s)

/-- DAMAGED_FRAME: a received frame fails the port gate (R139). -/
def execDamagedFrame (p : Port) (s : State) : Host.Outcome State Fault Refusal :=
  .next (receiveDamaged p s)

/-- ORDINARY_FRAME: a frame received in full (R139 to R152). -/
def execOrdinaryFrame (arrival : FrameArrival) (s : State) : Host.Outcome State Fault Refusal :=
  .next (receiveFrame arrival s)

/-- PRICE_ASK (R27, R146): the message is received in full. -/
def execPriceAsk (m : BranchArrival) (s : State) : Host.Outcome State Fault Refusal :=
  .next (receiveBranch .priceAsk m s)

/-- SALE_RECORD (R27, R146): the message is received in full. -/
def execSaleRecord (m : BranchArrival) (s : State) : Host.Outcome State Fault Refusal :=
  .next (receiveBranch .saleRecord m s)

/-- ITEM_REPLY (R34, R35, R146): the message is received in full. -/
def execItemReply (m : BranchArrival) (s : State) : Host.Outcome State Fault Refusal :=
  .next (receiveBranch .itemReply m s)

/-- JOURNAL_ACK (R56, R146): the message is received in full. -/
def execJournalAck (m : BranchArrival) (s : State) : Host.Outcome State Fault Refusal :=
  .next (receiveBranch .journalAck m s)

/-- LABEL_RESULT (R76, R146): the message is received in full. -/
def execLabelResult (m : BranchArrival) (s : State) : Host.Outcome State Fault Refusal :=
  .next (receiveBranch .labelResult m s)

/-- EXCH_OPEN (R100 to R102, R146): the message is received in full. -/
def execExchOpen (m : BranchArrival) (s : State) : Host.Outcome State Fault Refusal :=
  .next (receiveBranch .exchOpen m s)

/-- PRICE_CHANGE (R103 to R106, R146): the message is received in full. -/
def execPriceChange (m : BranchArrival) (s : State) : Host.Outcome State Fault Refusal :=
  .next (receiveBranch .priceChange m s)

/-- EXCH_CLOSE (R109, R110, R146): the message is received in full. -/
def execExchClose (m : BranchArrival) (s : State) : Host.Outcome State Fault Refusal :=
  .next (receiveBranch .exchClose m s)

/-- LINK_ECHO (R126, R146): the message is received in full. -/
def execLinkEcho (m : BranchArrival) (s : State) : Host.Outcome State Fault Refusal :=
  .next (receiveBranch .linkEcho m s)

/-- MGMT_REQ (R190, R146): the message is received in full. -/
def execMgmtReq (m : BranchArrival) (s : State) : Host.Outcome State Fault Refusal :=
  .next (receiveBranch .mgmtReq m s)

end Sys2Proof.Machine
end

