-- ==== Sys2Proof/Machine/RequestCommands.lean ====
section
/-! DEFINITION. The meanings of the management requests: the head request is taken when it is of the row's command, and nothing is done
otherwise (R190, log 16). -/

namespace Sys2Proof.Machine

/-- ITEM_READ (R192). -/
def execItemRead (s : State) : Host.Outcome State Fault Refusal :=
  .next (runHead (isCode 0x01) readItem s)

/-- ITEM_WRITE (R7). -/
def execItemWrite (s : State) : Host.Outcome State Fault Refusal :=
  .next (runHead (isCode 0x02) writeItemRequest s)

/-- ITEM_DELETE (R12). -/
def execItemDelete (s : State) : Host.Outcome State Fault Refusal :=
  .next (runHead (isCode 0x03) deleteItemRequest s)

/-- LABEL_READ (R82). -/
def execLabelRead (s : State) : Host.Outcome State Fault Refusal :=
  .next (runHead (isCode 0x10) readLabelRequest s)

/-- LABEL_WRITE (R71, R72). -/
def execLabelWrite (s : State) : Host.Outcome State Fault Refusal :=
  .next (runHead (isCode 0x11) writeLabelRequest s)

/-- LABEL_REPUSH (R73). -/
def execLabelRepush (s : State) : Host.Outcome State Fault Refusal :=
  .next (runHead (isCode 0x12) repushRequest s)

/-- STATION_READ (R145, R179). -/
def execStationRead (s : State) : Host.Outcome State Fault Refusal :=
  .next (runHead (isCode 0x20) readStationRequest s)

/-- STATION_WRITE (R145). -/
def execStationWrite (s : State) : Host.Outcome State Fault Refusal :=
  .next (runHead (isCode 0x21) writeStationRequest s)

/-- STATION_DELETE (R145). -/
def execStationDelete (s : State) : Host.Outcome State Fault Refusal :=
  .next (runHead (isCode 0x22) deleteStationRequest s)

/-- PENDING_READ (R97). -/
def execPendingRead (s : State) : Host.Outcome State Fault Refusal :=
  .next (runHead (isCode 0x30) readPendingRequest s)

/-- PENDING_CANCEL (R96). -/
def execPendingCancel (s : State) : Host.Outcome State Fault Refusal :=
  .next (runHead (isCode 0x31) cancelRequest s)

/-- SETTING_READ (R193). -/
def execSettingRead (s : State) : Host.Outcome State Fault Refusal :=
  .next (runHead (isCode 0x40) readSettingRequest s)

/-- SETTING_WRITE (R193). -/
def execSettingWrite (s : State) : Host.Outcome State Fault Refusal :=
  .next (runHead (isCode 0x41) writeSettingRequest s)

/-- CLOCK_SET (R86). -/
def execClockSet (s : State) : Host.Outcome State Fault Refusal :=
  .next (runHead (isCode 0x42) setClockRequest s)

/-- UPLINK_FORCE (R133). -/
def execUplinkForce (s : State) : Host.Outcome State Fault Refusal :=
  .next (runHead (isCode 0x43) forceRequest s)

/-- COUNTER_PROGRAM (R186). -/
def execCounterProgram (s : State) : Host.Outcome State Fault Refusal :=
  .next (runHead (isCode 0x50) programRequest s)

/-- COUNTER_SNAPSHOT (R187): the answer waits for the copy. -/
def execCounterSnapshot (s : State) : Host.Outcome State Fault Refusal :=
  .next (runHead (isCode 0x51) markSnapshot s)

/-- COUNTER_READ (R188). -/
def execCounterRead (s : State) : Host.Outcome State Fault Refusal :=
  .next (runHead (isCode 0x52) readCountersRequest s)

/-- STATE_READ (R192). -/
def execStateRead (s : State) : Host.Outcome State Fault Refusal :=
  .next (runHead (isCode 0x60) readStateRequest s)

/-- NOTICE_CLEAR (R195). -/
def execNoticeClear (s : State) : Host.Outcome State Fault Refusal :=
  .next (runHead (isCode 0x61) clearRequest s)

/-- RESET_FULL (R199); a RESET of no listed kind is answered BAD-FIELD (log 16). -/
def execResetFull (s : State) : Host.Outcome State Fault Refusal :=
  .next (runHead isOtherReset resetFullRequest s)

/-- RESET_TRAFFIC (R199). -/
def execResetTraffic (s : State) : Host.Outcome State Fault Refusal :=
  .next (runHead isTrafficReset resetTrafficRequest s)

/-- A request of no listed code (R192). -/
def execUnknownCommand (s : State) : Host.Outcome State Fault Refusal :=
  .next (runHead isUnknown (fun r t => answer r .unknownCommand [] t) s)

end Sys2Proof.Machine
end

