-- ==== Sys2Proof/Machine/TimerCommands.lean ====
section
/-! DEFINITION. The meanings of the part's own pumps and timers. -/

namespace Sys2Proof.Machine

/-- TAKE_INTAKE_ENTRY: the head of the intake queue is taken (R28). -/
def execTakeIntakeEntry (s : State) : Host.Outcome State Fault Refusal :=
  .next (takeIntakeStep s)

/-- ASK_TIMEOUT: a referral times out (R36). -/
def execAskTimeout (entry : Nat) (s : State) : Host.Outcome State Fault Refusal :=
  .next (askTimeoutStep entry s)

/-- JOURNAL_SEND: the record at next-to-send is sent (R53). -/
def execJournalSend (s : State) : Host.Outcome State Fault Refusal :=
  .next (journalSendStep s)

/-- PACING_REFILL: the pacing credit rises at a tick (R55). -/
def execPacingRefill (s : State) : Host.Outcome State Fault Refusal :=
  .next (pacingRefillStep s)

/-- ACK_TIMEOUT: the ack timer expires (R58). -/
def execAckTimeout (s : State) : Host.Outcome State Fault Refusal :=
  .next (ackTimeoutStep s)

/-- PUSH_TIMEOUT: a push timer expires, and the dispatcher tries to dispatch (R74, R80); one not yet due does nothing (log 2). -/
def execPushTimeout (tag : Nat) (s : State) : Host.Outcome State Fault Refusal :=
  .next (dispatchOn s (expirePush tag s))

/-- CLOCK_SECOND: the store clock reaches a new second (R85, R88). -/
def execClockSecond (s : State) : Host.Outcome State Fault Refusal :=
  .next (clockSecondStep s)

/-- ACTIVATION: one due entry of the pending list is applied (R91, R92). -/
def execActivation (s : State) : Host.Outcome State Fault Refusal :=
  .next (activationStep s)

/-- QUIET_TIMEOUT: the quiet timer expires (R107). -/
def execQuietTimeout (s : State) : Host.Outcome State Fault Refusal :=
  .next (quietTimeoutStep s)

/-- COMMIT_CHANGE: the head of the commit queue is handed to the schedule (R111, R112). -/
def execCommitChange (s : State) : Host.Outcome State Fault Refusal :=
  .next (commitChangeStep s)

/-- PROBE_TIMER: the probe timer falls due (R124, R125). -/
def execProbeTimer (s : State) : Host.Outcome State Fault Refusal :=
  .next (probeTimerStep s)

/-- AGEING_STEP: every station ages by a second (R144). -/
def execAgeingStep (s : State) : Host.Outcome State Fault Refusal :=
  .next (ageingStepBody s)

/-- GUEST_SECOND_STEP: leases and cool-offs count down (R170, R171). -/
def execGuestSecondStep (s : State) : Host.Outcome State Fault Refusal :=
  .next (guestSecondStepBody s)

/-- BUCKET_REFILL: the guest buckets are refilled at a tick (R173, R175). -/
def execBucketRefill (s : State) : Host.Outcome State Fault Refusal :=
  .next (bucketRefillStep s)

/-- TRANSMIT_END: the last byte of a port's frame has been sent (R162; log 14). -/
def execTransmitEnd (p : Port) (s : State) : Host.Outcome State Fault Refusal :=
  .next (transmitEndStep p s)

/-- HELD_MESSAGE_REOFFER: the generators offer what they hold again (R161). -/
def execHeldMessageReoffer (order : List Generator) (s : State) : Host.Outcome State Fault Refusal :=
  .next (reofferAll order s)

/-- OCCUPANCY_SAMPLE: a sample instant (R184, R185, R187). -/
def execOccupancySample (s : State) : Host.Outcome State Fault Refusal :=
  .next (occupancySampleStep s)

/-- ALERT_PULSE_END: a pulse or gap of the alert line ends (R197). -/
def execAlertPulseEnd (s : State) : Host.Outcome State Fault Refusal :=
  .next (alertPulseEndStep s)

/-- PORT_LAMP_EXPIRY: a port's activity ends (R198). -/
def execPortLampExpiry (p : Port) (s : State) : Host.Outcome State Fault Refusal :=
  .next (portLampExpiryStep p s)

end Sys2Proof.Machine
end

