-- ==== Sys2Proof/Machine/Dispatch.lean ====
section
/-! DEFINITION. The meaning of every command: one arm per row of spec/opcode_table.json. -/

namespace Sys2Proof.Machine

def exec (i : Instr) (s : State) : Host.Outcome State Fault Refusal :=
  match i with
  | .powerOn straps => Sys2Proof.Machine.execPowerOn straps s
  | .resetPin straps => Sys2Proof.Machine.execResetPin straps s
  | .linkUp p speed => Sys2Proof.Machine.execLinkUp p speed s
  | .linkDown p receiving => Sys2Proof.Machine.execLinkDown p receiving s
  | .damagedFrame p => Sys2Proof.Machine.execDamagedFrame p s
  | .ordinaryFrame arrival => Sys2Proof.Machine.execOrdinaryFrame arrival s
  | .priceAsk m => Sys2Proof.Machine.execPriceAsk m s
  | .saleRecord m => Sys2Proof.Machine.execSaleRecord m s
  | .takeIntakeEntry => Sys2Proof.Machine.execTakeIntakeEntry s
  | .itemReply m => Sys2Proof.Machine.execItemReply m s
  | .askTimeout entry => Sys2Proof.Machine.execAskTimeout entry s
  | .journalSend => Sys2Proof.Machine.execJournalSend s
  | .pacingRefill => Sys2Proof.Machine.execPacingRefill s
  | .journalAck m => Sys2Proof.Machine.execJournalAck m s
  | .ackTimeout => Sys2Proof.Machine.execAckTimeout s
  | .labelResult m => Sys2Proof.Machine.execLabelResult m s
  | .pushTimeout tag => Sys2Proof.Machine.execPushTimeout tag s
  | .clockSecond => Sys2Proof.Machine.execClockSecond s
  | .activation => Sys2Proof.Machine.execActivation s
  | .exchOpen m => Sys2Proof.Machine.execExchOpen m s
  | .priceChange m => Sys2Proof.Machine.execPriceChange m s
  | .exchClose m => Sys2Proof.Machine.execExchClose m s
  | .quietTimeout => Sys2Proof.Machine.execQuietTimeout s
  | .commitChange => Sys2Proof.Machine.execCommitChange s
  | .probeTimer => Sys2Proof.Machine.execProbeTimer s
  | .linkEcho m => Sys2Proof.Machine.execLinkEcho m s
  | .ageingStep => Sys2Proof.Machine.execAgeingStep s
  | .guestSecondStep => Sys2Proof.Machine.execGuestSecondStep s
  | .bucketRefill => Sys2Proof.Machine.execBucketRefill s
  | .transmitEnd p => Sys2Proof.Machine.execTransmitEnd p s
  | .heldMessageReoffer order => Sys2Proof.Machine.execHeldMessageReoffer order s
  | .occupancySample => Sys2Proof.Machine.execOccupancySample s
  | .mgmtReq m => Sys2Proof.Machine.execMgmtReq m s
  | .itemRead => Sys2Proof.Machine.execItemRead s
  | .itemWrite => Sys2Proof.Machine.execItemWrite s
  | .itemDelete => Sys2Proof.Machine.execItemDelete s
  | .labelRead => Sys2Proof.Machine.execLabelRead s
  | .labelWrite => Sys2Proof.Machine.execLabelWrite s
  | .labelRepush => Sys2Proof.Machine.execLabelRepush s
  | .stationRead => Sys2Proof.Machine.execStationRead s
  | .stationWrite => Sys2Proof.Machine.execStationWrite s
  | .stationDelete => Sys2Proof.Machine.execStationDelete s
  | .pendingRead => Sys2Proof.Machine.execPendingRead s
  | .pendingCancel => Sys2Proof.Machine.execPendingCancel s
  | .settingRead => Sys2Proof.Machine.execSettingRead s
  | .settingWrite => Sys2Proof.Machine.execSettingWrite s
  | .clockSet => Sys2Proof.Machine.execClockSet s
  | .uplinkForce => Sys2Proof.Machine.execUplinkForce s
  | .counterProgram => Sys2Proof.Machine.execCounterProgram s
  | .counterSnapshot => Sys2Proof.Machine.execCounterSnapshot s
  | .counterRead => Sys2Proof.Machine.execCounterRead s
  | .stateRead => Sys2Proof.Machine.execStateRead s
  | .noticeClear => Sys2Proof.Machine.execNoticeClear s
  | .resetFull => Sys2Proof.Machine.execResetFull s
  | .resetTraffic => Sys2Proof.Machine.execResetTraffic s
  | .unknownCommand => Sys2Proof.Machine.execUnknownCommand s
  | .alertPulseEnd => Sys2Proof.Machine.execAlertPulseEnd s
  | .portLampExpiry p => Sys2Proof.Machine.execPortLampExpiry p s

end Sys2Proof.Machine
end

