-- ==== Sys2Proof/Machine/Idle.lean ====
section
/-! DEFINITION. What the part does by itself when no command waits: its due commands, and the passing of a millisecond
(log 1, log 3). -/

namespace Sys2Proof.Machine

/-- The row of a request's command (13.6; log 16). -/
def rowOf (r : Request) : Instr :=
  match r.code with
  | 0x01 => .itemRead
  | 0x02 => .itemWrite
  | 0x03 => .itemDelete
  | 0x10 => .labelRead
  | 0x11 => .labelWrite
  | 0x12 => .labelRepush
  | 0x20 => .stationRead
  | 0x21 => .stationWrite
  | 0x22 => .stationDelete
  | 0x30 => .pendingRead
  | 0x31 => .pendingCancel
  | 0x40 => .settingRead
  | 0x41 => .settingWrite
  | 0x42 => .clockSet
  | 0x43 => .uplinkForce
  | 0x50 => .counterProgram
  | 0x51 => .counterSnapshot
  | 0x52 => .counterRead
  | 0x60 => .stateRead
  | 0x61 => .noticeClear
  | 0x62 => if isTrafficReset r then .resetTraffic else .resetFull
  | _ => .unknownCommand

/-- A command when its condition holds. -/
def dueIf (b : Bool) (i : Instr) : List Instr := if b then [i] else []

/-- A span of running time since `start` has passed. -/
def State.passed (s : State) (start span : Nat) : Bool := span ≤ elapsed s.now start

/-- The till service's due commands (R28, R36). -/
def State.tillDue (s : State) : List Instr :=
  dueIf (s.till.backlog.isEmpty && !s.till.intake.isEmpty) .takeIntakeEntry
    ++ (s.till.asks.filter (fun p => s.passed p.2.sent (s.settings.askTimeout * 1000))).map (fun p => Instr.askTimeout p.1)

/-- The journal's due commands (R53, R57). -/
def State.journalDue (s : State) : List Instr :=
  dueIf s.sendReady .journalSend ++ dueIf (s.journal.ackTimer.any (fun t => s.passed t (s.settings.ackTimeout * 1000))) .ackTimeout

/-- The label dispatcher's due commands (R80). -/
def State.labelDue (s : State) : List Instr :=
  (s.flightsInOrder.filter (fun p => s.passed p.2.sent (s.settings.pushTimeout * 1000))).map (fun p => Instr.pushTimeout p.2.tag)

/-- The schedule's and the exchange unit's due commands (R91, R107, R111). -/
def State.exchDue (s : State) : List Instr :=
  dueIf s.headDue .activation ++
    (match s.exch.state with
     | .idle => []
     | .staging c => dueIf (s.passed c.quiet 60000) .quietTimeout
     | .committing _ => [.commitChange])

/-- The management unit's due commands (R190, R197, R198). -/
def State.mgmtDue (s : State) : List Instr :=
  (if s.answerWaits then [] else (s.mgmt.requests.take 1).map rowOf)
    ++ (match s.mgmt.alert with
        | .idle => []
        | .pulsing t w => dueIf (s.passed t w) .alertPulseEnd
        | .gap t w => dueIf (s.passed t w) .alertPulseEnd)
    ++ (allSegs.filter (fun p => (s.port p).activity.any (fun t => s.passed t 30))).map Instr.portLampExpiry

/-- Every command that is due now, in an order chosen by the free value (log 3). -/
def State.dueNow (s : State) : List Instr :=
  shuffle Config.order (s.choices + 6)
    (dueIf s.pool.reoffer (.heldMessageReoffer (shuffle Config.order s.choices allGenerators))
      ++ s.tillDue ++ s.journalDue ++ s.labelDue ++ s.exchDue
      ++ dueIf (s.uplink.timer.any (fun t => s.passed t s.settings.probeInterval)) .probeTimer ++ s.mgmtDue)

/-- The clock's phase after a millisecond, and whether its second ends (R85). -/
def Clock.tick (c : Clock) : Clock × Bool :=
  if c.isSet && !c.isHeld then (if c.phase ≥ 999 then (c, true) else ({ c with phase := c.phase + 1 }, false)) else (c, false)

/-- One millisecond on a count of 1,000 (R144, R170). -/
def nextMs (n : Nat) : Nat := if n ≥ 999 then 0 else n + 1

/-- One millisecond passes: the refills of the tick first (R178), the rest in an order chosen by the free value (log 3). -/
def tick (s : State) : State :=
  { s with
    now := (s.now + 1) % wordModulus
    choices := s.choices + 4
    clock := s.clock.tick.1
    stations := { s.stations with sinceStep := nextMs s.stations.sinceStep }
    guest := { s.guest with sinceStep := nextMs s.guest.sinceStep }
    pending := [.pacingRefill, .bucketRefill] ++ shuffle Config.order s.choices
      ([.occupancySample] ++ dueIf s.clock.tick.2 .clockSecond ++ dueIf (s.stations.sinceStep ≥ 999) .ageingStep
        ++ dueIf (s.guest.sinceStep ≥ 999) .guestSecondStep) }

/-- The step on an empty queue: the due commands are queued, or, when there are none, a millisecond passes (log 1). -/
def idle (s : State) : State :=
  match s.dueNow with
  | [] => tick s
  | i :: rest => { s with pending := i :: rest, choices := s.choices + 6 + (i :: rest).length }

end Sys2Proof.Machine
end

