-- ==== Sys2Proof/Safety.lean ====
section
/-! DEFINITION. The words in which statements about the part are made: which blocks a command changes, when a message or a request
reaches its owner, and the invariants the manual promises. -/

namespace Sys2Proof.Machine

/-- The blocks of the state, the command queue aside. -/
inductive Block where
  | time
  | straps
  | settings
  | items
  | labels
  | dispatcher
  | till
  | journal
  | clock
  | window
  | schedule
  | exchange
  | uplink
  | pool
  | stations
  | guest
  | monitor
  | management
deriving DecidableEq, Repr

/-- A block stands in `t` as it stands in `s`. -/
def Block.same (b : Block) (s t : State) : Prop :=
  match b with
  | .time => t.now = s.now
  | .straps => t.straps = s.straps
  | .settings => t.settings = s.settings
  | .items => t.items = s.items
  | .labels => t.labels = s.labels
  | .dispatcher => t.disp = s.disp
  | .till => t.till = s.till
  | .journal => t.journal = s.journal
  | .clock => t.clock = s.clock
  | .window => t.windowIn = s.windowIn
  | .schedule => t.sched = s.sched
  | .exchange => t.exch = s.exch
  | .uplink => t.uplink = s.uplink
  | .pool => t.pool = s.pool
  | .stations => t.stations = s.stations
  | .guest => t.guest = s.guest
  | .monitor => t.mon = s.mon
  | .management => t.mgmt = s.mgmt

/-- The frame of a change: the command queue, the order choices, and every block not listed stand as they stood. -/
def OnlyChanges (bs : List Block) (s t : State) : Prop :=
  t.pending = s.pending ∧ t.choices = s.choices ∧ ∀ b : Block, b ∉ bs → b.same s t

/-- The head request is `r`, of command code `code`, and no MGMT-ANS waits, so that it is taken (R190). -/
def Takes (s : State) (r : Request) (code : Nat) : Prop :=
  s.answerWaits = false ∧ s.mgmt.requests.head? = some r ∧ r.code = code

/-- A port receives: its link is up, or the reception ended before the link was lost (R138, log 15). -/
def Receives (p : Port) (beforeLoss : Bool) (s : State) : Prop := s.linkIsUp p = true ∨ beforeLoss = true

/-- A source address that is individual, not zero and not the part's own (R141). -/
def GoodSource (a : Addr) (s : State) : Prop := isGroup a = false ∧ a ≠ 0 ∧ a ≠ s.settings.stationAddr

/-- A branch message that passes the port gate and the length check of its kind (R139, R146). -/
def Arrives (m : BranchArrival) (k : MsgKind) (s : State) : Prop :=
  Receives m.port m.beforeLoss s ∧ 64 ≤ arrivalLength m ∧ arrivalLength m ≤ 1522 ∧ GoodSource m.src s ∧
    (∃ least, minBody k = some least ∧ least ≤ m.bodyLength.toNat) ∧ m.bodyLength.toNat ≤ m.bytes.length

/-- A branch message of head office, taken while the head-office address is set (R147). -/
def FromHeadOffice (m : BranchArrival) (k : MsgKind) (s : State) : Prop :=
  Arrives m k s ∧ m.port = .uplink ∧ s.settings.headOffice ≠ 0

/-- The source is a station known on the segment it sent from. -/
def Known (p : Port) (a : Addr) (e : Station) (s : State) : Prop :=
  Tbl.get s.stations.table a.toNat = some e ∧ e.addr = a ∧ e.seg = p

/-- The state after the port gate: the frame counted and its port lit (R139, R198). -/
def gated (p : Port) (s : State) : State := lightPort p (count (occPort .framesReceived p) s)

/-- The state after a known source's age is set to 0 (R141). -/
def heard (p : Port) (e : Station) (s : State) : State := putStation { e with age := 0 } (gated p s)

/-! ### Invariants -/

/-- The cells (R155 to R159, R161, R164): the free and the held ones make 8,192, GUEST frames hold at most 1,024, a port's STORE
frames at most 2,048, and a port whose link is down holds no frame and has no message held for it by any generator. -/
def CellsHold (s : State) : Prop :=
  s.pool.free + s.pool.held = 8192 ∧ s.pool.guestCells ≤ 1024 ∧
    (∀ p : Port, (s.port p).classCells .store ≤ 2048 ∧ ((s.port p).link = none → (s.port p).frames = [])) ∧
    ∀ m ∈ s.heldMessages, s.linkIsUp m.port = true

/-- The label queue (R64, R66, R68, R69, R75): at most 4,096 entries, one for a label, none for a label whose overflow mark is set,
full while any mark is set; the push tags in flight differ from one another and lie in 0 .. 65,535, as the push-tag counter does;
and no base station has more entries IN-FLIGHT than the window. -/
def LabelQueueHolds (s : State) : Prop :=
  Tbl.wf s.labels ∧ s.disp.queue.length ≤ 4096 ∧ (s.disp.queue.map (·.label)).Nodup ∧
    (∀ e ∈ s.disp.queue, (s.label e.label).overflow = false) ∧
    (s.overflowed ≠ [] → s.disp.queue.length = 4096) ∧
    s.tagsInFlight.Nodup ∧ (∀ tag ∈ s.tagsInFlight, tag < 65536) ∧ s.disp.nextTag < 65536 ∧
    ∀ b, b < 8 → (s.inFlight b).length ≤ s.settings.baseWindow

/-- The pending list (R89, R90): at most 8,192 entries in order of effective time and commit stamp, no two alike, every stamp
below the commit counter. -/
def PendingHolds (s : State) : Prop :=
  s.sched.entries.length ≤ 8192 ∧
    s.sched.entries.Pairwise (fun a b =>
      (a.change.time < b.change.time ∨ a.change.time = b.change.time ∧ a.stamp < b.stamp) ∧ a.change.alike b.change = false) ∧
    ∀ e ∈ s.sched.entries, e.stamp < s.sched.commitCounter

/-- Stations and guests (R140, R168): tables keyed by address, no LOADED guest, and a guest record for exactly the GUEST-CLIENT
entries. -/
def GuestsHold (s : State) : Prop :=
  Tbl.wf s.stations.table ∧ Tbl.wf s.guest.table ∧
    (∀ p ∈ s.stations.table, p.1 = p.2.addr.toNat ∧ (p.2.loaded = true → p.2.cls ≠ .guestClient)) ∧
    (∀ p ∈ s.guest.table, p.1 = p.2.addr.toNat) ∧
    ∀ k, (∃ e, Tbl.get s.stations.table k = some e ∧ e.cls = .guestClient) ↔ (Tbl.get s.guest.table k).isSome

/-- Items and labels (R4, R5, R13, R63): every record stands in a way of its code's bucket with at most four labels, none twice; no
code has two records; and a label is bound to an item exactly when the item's label list holds it. -/
def BindingsHold (s : State) : Prop :=
  Tbl.wf s.items ∧
    (∀ p ∈ s.items, validCode p.2.code = true ∧ (∃ w, w < 4 ∧ p.1 = slotOf p.2.code w) ∧
      p.2.labels.Nodup ∧ p.2.labels.length ≤ 4) ∧
    (s.items.map (fun p => p.2.code)).Nodup ∧
    ∀ n c, (s.label n).bound = some c ↔ ∃ r, lookupItem s.items c = some r ∧ n ∈ r.labels

/-- The sizes of the queues and figures that the manual bounds (R27, R55, R85, R120, R127, R171, R181, R190, R195, R197). The
exchange outbox holds at most 8 messages, and at most 7 while a batch is open or committing, whose report is still to come. -/
def SizesHold (s : State) : Prop :=
  s.till.intake.length ≤ 64 ∧ s.journal.credit ≤ 4000 ∧ s.clock.second < 86400 ∧ s.uplink.history.length ≤ 8 ∧
    s.guest.coolOff.length ≤ 64 ∧ s.mon.counters.length = 8 ∧ s.mgmt.requests.length ≤ 8 ∧ s.mgmt.overflow ≤ 65535 ∧
    s.mgmt.notices.length ≤ 32 ∧ s.mgmt.owed ≤ 32 ∧ s.exch.outbox.length ≤ 8 ∧
    (s.exch.state.active = true → s.exch.outbox.length ≤ 7)

end Sys2Proof.Machine
end

