-- ==== Sys2Proof/WellFormed.lean ====
section
/-! DEFINITION. Which commands are well formed: operands inside the ranges the manual gives them. The meanings are total and take
other operands too; a well-formed command is one the part can meet. -/

namespace Sys2Proof

/-- A length that passes the port gate (R139). -/
def gateLength (n : Nat) : Bool := 64 ≤ n && n ≤ 1522

/-- The operands of a command are in range: frames of 64 to 1,522 bytes (R139), an ask-table entry number 0 .. 255 (R32), a
push tag 0 .. 65,535 (R66), every generator named once (R161). -/
def Instr.wf : Instr → Bool
  | .ordinaryFrame a => gateLength (Machine.frameLength a.frame)
  | .priceAsk m | .saleRecord m | .itemReply m | .journalAck m | .labelResult m | .exchOpen m | .priceChange m | .exchClose m
  | .linkEcho m | .mgmtReq m => gateLength (Machine.arrivalLength m)
  | .askTimeout entry => entry < 256
  | .pushTimeout tag => tag < 65536
  | .heldMessageReoffer order => order.length == 6 && decide order.Nodup
  | .powerOn _ | .resetPin _ | .linkUp _ _ | .linkDown _ _ | .damagedFrame _ | .takeIntakeEntry | .journalSend | .pacingRefill
  | .ackTimeout | .clockSecond | .activation | .quietTimeout | .commitChange | .probeTimer | .ageingStep | .guestSecondStep
  | .bucketRefill | .transmitEnd _ | .occupancySample | .itemRead | .itemWrite | .itemDelete | .labelRead | .labelWrite
  | .labelRepush | .stationRead | .stationWrite | .stationDelete | .pendingRead | .pendingCancel | .settingRead | .settingWrite
  | .clockSet | .uplinkForce | .counterProgram | .counterSnapshot | .counterRead | .stateRead | .noticeClear | .resetFull
  | .resetTraffic | .unknownCommand | .alertPulseEnd | .portLampExpiry _ => true

/-- The length of the frame a command brings, if it brings one (R139, 13.1). -/
def Instr.carried : Instr → Option Nat
  | .ordinaryFrame a => some (Machine.frameLength a.frame)
  | .priceAsk m | .saleRecord m | .itemReply m | .journalAck m | .labelResult m | .exchOpen m | .priceChange m | .exchClose m
  | .linkEcho m | .mgmtReq m => some (Machine.arrivalLength m)
  | .askTimeout _ | .pushTimeout _ | .heldMessageReoffer _
  | .powerOn _ | .resetPin _ | .linkUp _ _ | .linkDown _ _ | .damagedFrame _ | .takeIntakeEntry | .journalSend | .pacingRefill
  | .ackTimeout | .clockSecond | .activation | .quietTimeout | .commitChange | .probeTimer | .ageingStep | .guestSecondStep
  | .bucketRefill | .transmitEnd _ | .occupancySample | .itemRead | .itemWrite | .itemDelete | .labelRead | .labelWrite
  | .labelRepush | .stationRead | .stationWrite | .stationDelete | .pendingRead | .pendingCancel | .settingRead | .settingWrite
  | .clockSet | .uplinkForce | .counterProgram | .counterSnapshot | .counterRead | .stateRead | .noticeClear | .resetFull
  | .resetTraffic | .unknownCommand | .alertPulseEnd | .portLampExpiry _ => none

end Sys2Proof
end

