-- ==== Sys2Proof/Certificates/Slice0/Obligations.lean ====
section
/-! DEFINITION. The statements for the provers. -/

section Obligations

open Sys2Proof Sys2Proof.Machine

/-! ### The machine as a whole -/

/-- The command at the front of the queue is the one a step carries out, with the rest of the queue behind it. -/
def Obligations.StepTakesTheFrontCommand : Prop :=
  ∀ (c : Instr) (rest : List Instr) (s : State),
    Sys2Proof.Machine.step { s with pending := c :: rest } = Sys2Proof.Machine.exec c { s with pending := rest }

/-- With no command waiting, the part queues what is due; with nothing due a millisecond passes and queues the tick's work. The
form of the tick is the model's choice (log 1, log 3). -/
def Obligations.EmptyQueueStep : Prop :=
  ∀ s : State, s.pending = [] →
    (s.dueNow ≠ [] → ∃ t, Sys2Proof.Machine.step s = .next t ∧ t.pending = s.dueNow ∧ ∀ b : Block, b.same s t) ∧
    (s.dueNow = [] → ∃ t, Sys2Proof.Machine.step s = .next t ∧ t.now = (s.now + 1) % 4294967296 ∧
      t.pending.take 2 = [.pacingRefill, .bucketRefill] ∧ Instr.occupancySample ∈ t.pending ∧
      (Instr.ageingStep ∈ t.pending ↔ 999 ≤ s.stations.sinceStep) ∧
      (Instr.guestSecondStep ∈ t.pending ↔ 999 ≤ s.guest.sinceStep) ∧
      (Instr.clockSecond ∈ t.pending ↔ s.clock.isSet = true ∧ s.clock.isHeld = false ∧ 999 ≤ s.clock.phase) ∧
      t.stations.table = s.stations.table ∧ t.guest.table = s.guest.table ∧ t.guest.level = s.guest.level ∧
      t.clock.day = s.clock.day ∧ t.clock.second = s.clock.second ∧
      ∀ b : Block, b ≠ .time → b ≠ .clock → b ≠ .stations → b ≠ .guest → b.same s t)

/-- Every command, in every state, leaves a next state, and leaves the command queue to the step. -/
def Obligations.EveryCommandCompletes : Prop :=
  ∀ (c : Instr) (s : State), ∃ t, Sys2Proof.Machine.exec c s = .next t ∧ t.pending = s.pending ∧ t.choices = s.choices

/-- The settings are written by SETTING_WRITE and the resets that give reset values alone; the straps are latched by POWER_ON and
RESET_PIN alone; the running time is set by the resets alone. And who changes the item table, the pending list and the store
clock. -/
def Obligations.WhoWritesWhat : Prop :=
  (∀ (c : Instr) (s t : State), Sys2Proof.Machine.exec c s = .next t →
      ((∀ x, c ≠ .powerOn x) → (∀ x, c ≠ .resetPin x) →
        t.straps = s.straps ∧ (c ≠ .resetFull → t.now = s.now ∧ (c ≠ .settingWrite → t.settings = s.settings)))) ∧
  (∀ (c : Instr) (s t : State), Sys2Proof.Machine.exec c s = .next t →
      ((∀ x, c ≠ .powerOn x) → (∀ x, c ≠ .resetPin x) → c ≠ .resetFull →
        (c ≠ .activation → c ≠ .commitChange → c ≠ .pendingCancel → t.sched = s.sched) ∧
        ((∀ a, c ≠ .ordinaryFrame a) →
          (c ≠ .activation → c ≠ .itemWrite → c ≠ .itemDelete → c ≠ .labelWrite → (∀ m, c ≠ .itemReply m) → t.items = s.items) ∧
          (c ≠ .clockSecond → c ≠ .clockSet → (∀ m, c ≠ .exchOpen m) → t.clock = s.clock))))

/-- No step breaks the count of cells, or leaves a frame or a held message for a port whose link is down (R155, R157 to R159, R161,
R164). -/
def Obligations.EveryStepKeepsTheCells : Prop :=
  ∀ s t : State, CellsHold s → Sys2Proof.Machine.step s = .next t → CellsHold t

/-- No step breaks the order, the uniqueness or the bound of the pending list (R89, R90). -/
def Obligations.EveryStepKeepsThePendingList : Prop :=
  ∀ s t : State, PendingHolds s → Sys2Proof.Machine.step s = .next t → PendingHolds t

/-- No step parts a guest record from its station entry (R140, R168). -/
def Obligations.EveryStepKeepsGuestsAndStations : Prop :=
  ∀ s t : State, GuestsHold s → Sys2Proof.Machine.step s = .next t → GuestsHold t

/-- No step parts a label's bound item from the label list of the item (R13, R14, R63), or an item from its bucket (R4, R5). -/
def Obligations.EveryStepKeepsTheBindings : Prop :=
  ∀ s t : State, BindingsHold s → Sys2Proof.Machine.step s = .next t → BindingsHold t

/-- No step breaks the bound of the label queue, its one entry for a label, its overflow marks, its push tags or its windows (R64,
R66, R68, R69, R75). -/
def Obligations.EveryStepKeepsTheLabelQueue : Prop :=
  ∀ s t : State, LabelQueueHolds s → Sys2Proof.Machine.step s = .next t → LabelQueueHolds t

/-- No step overfills a queue the manual bounds. -/
def Obligations.EveryStepKeepsTheSizes : Prop :=
  ∀ s t : State, SizesHold s → Sys2Proof.Machine.step s = .next t → SizesHold t

/-- The invariants hold right after reset. -/
def Obligations.ResetMeetsTheInvariants : Prop :=
  CellsHold State.reset ∧ PendingHolds State.reset ∧ GuestsHold State.reset ∧ BindingsHold State.reset ∧
    LabelQueueHolds State.reset ∧ SizesHold State.reset

/-! ### Prices -/

/-- Stages 1 and 2 (R17, R18): the shelf unit price and the compare price of a valid record. -/
def Obligations.ShelfPrices : Prop :=
  ∀ f : ItemFields,
    (∀ p, f.promo = .percent p → unitPrice f = f.base - (f.base * p + 5000) / 10000) ∧
    (∀ v, f.promo = .fixed v → unitPrice f = min v f.base) ∧
    (f.promo = .absent → unitPrice f = f.base) ∧
    (∀ n t, f.promo = .multibuy n t → unitPrice f = f.base) ∧
    (f.promo = .percent 10000 → unitPrice f = 0) ∧
    unitPrice f ≤ f.base ∧ (∀ p, f.promo = .percent p → p ≤ 10000 → (f.base * p + 5000) / 10000 ≤ f.base) ∧
    (f.mode = .each → comparePrice f = min 9999999 ((unitPrice f * f.refQuantity + f.packQuantity / 2) / f.packQuantity)) ∧
    (f.mode = .weighed → f.refQuantity = 1000 ∨ f.refQuantity = 1 → comparePrice f = min 9999999 (unitPrice f)) ∧
    (f.mode = .weighed → f.refQuantity = 100 → comparePrice f = min 9999999 ((unitPrice f * 100 + 500) / 1000))

/-- Shelf-price honour (R19, R20): the quoted price is the least of E and the prices the honour set shows, with its two flags; the
terms a lagging label shows are flagged and not priced. -/
def Obligations.HonouredQuote : Prop :=
  ∀ (labels : SMap LabelRec) (r : ItemRec) (k : QtyKind) (q : Nat),
    let quote := quoteItem labels r k q
    let inSet : Nat → Content → Prop := fun l c =>
      r.fields.honour = true ∧ l ∈ r.labels ∧ (labelAt labels l).display = .showing c ∧ c.version ≠ r.version ∧ c.mode = r.fields.mode
    quote.price ≤ unitPrice r.fields ∧ (∀ l c, inSet l c → quote.price ≤ c.unitPrice) ∧
      (quote.price = unitPrice r.fields ∨ ∃ l c, inSet l c ∧ quote.price = c.unitPrice) ∧
      (quote.flags.honoured = true ↔ quote.price < unitPrice r.fields) ∧
      (quote.flags.dealDiffers = true ↔ ∃ l c n t, inSet l c ∧ c.promo = .multibuy n t ∧ r.fields.promo ≠ .multibuy n t) ∧
      ∀ n t, r.fields.promo = .multibuy n t → r.fields.mode = .each → k = .count →
        let c := if q = 0 then 1 else min q 9999
        quote.extended = min 99999999 (min (c / n * t + c % n * quote.price) (c * quote.price))

/-- Stage 4 (R22 to R24): quantity, extended price, saturation and the CLAMPED flag. -/
def Obligations.ExtendedPrice : Prop :=
  ∀ (labels : SMap LabelRec) (r : ItemRec) (k : QtyKind) (quantity : Nat),
    let quote := quoteItem labels r k quantity
    let most := match k with
      | .count => 9999
      | .grams => 99999
    let q := if quantity = 0 then 1 else min quantity most
    let fits := (r.fields.mode = .each ∧ k = .count) ∨ (r.fields.mode = .weighed ∧ k = .grams)
    let x := match r.fields.mode, r.fields.promo with
      | .weighed, _ => (quote.price * q + 500) / 1000
      | .each, .multibuy n t => min (q / n * t + q % n * quote.price) (q * quote.price)
      | .each, _ => q * quote.price
    (fits → quote.outcome = .found ∧ quote.extended = min 99999999 x ∧
      (quote.flags.clamped = true ↔ most < quantity ∨ 99999999 < x)) ∧
    (¬fits → quote.outcome = .modeMismatch ∧ quote.extended = 0 ∧ quote.flags.clamped = false) ∧
    quote.version = r.version ∧ quote.tax = r.fields.tax ∧ quote.promo = r.fields.promo ∧ quote.flags.noLink = false

/-! ### Resets -/

/-- POWER_ON and RESET_PIN leave the reset values (R15, R48, R62, R83, R89, R98, R122, R137, R154, R166, R180, R189, R193, R194,
R200). The running time and the counts of 1,000 ms at 0 are the model's reading (log 5), the first order stamp and push serial its
choice (log 20). -/
def Obligations.PowerOnAndResetPin : Prop :=
  ∀ (straps : Straps) (s : State), ∃ t,
    Sys2Proof.Machine.exec (.powerOn straps) s = .next t ∧ Sys2Proof.Machine.exec (.resetPin straps) s = .next t ∧
      t.pending = s.pending ∧ t.choices = s.choices ∧ t.now = 0 ∧ t.straps = straps ∧ t.settings = resetSettings straps ∧
      t.settings.stationAddr = BitVec.ofNat 48 (0x020000000000 + straps.address.toNat) ∧
      t.settings.trustUplink = straps.trustUplink ∧ t.settings.headOffice = 0 ∧ t.settings.noticeAddr = 0 ∧
      (∀ x ∈ [(0x02, 0x88B6), (0x06, 1), (0x07, 1), (0x08, 1), (0x09, 2), (0x0A, 7), (0x0B, 5), (0x10, 3), (0x11, 20), (0x12, 400),
          (0x13, 30), (0x14, 12288), (0x18, 4), (0x19, 20), (0x1A, 3), (0x20, 3600), (0x21, 18000), (0x22, 0), (0x28, 1000),
          (0x29, 40), (0x2A, 3), (0x30, 300), (0x31, 1), (0x32, 0), (0x33, 1), (0x34, 1), (0x35, 1), (0x36, 0), (0x37, 0), (0x38, 1),
          (0x39, 0), (0x3A, 0), (0x3B, 0), (0x3C, 1), (0x3D, 2), (0x3E, 0), (0x3F, 0), (0x40, 0), (0x41, 1), (0x42, 1), (0x43, 1),
          (0x44, 0), (0x48, 3600), (0x49, 600), (0x4A, 250000), (0x4B, 65536), (0x4C, 2500000), (0x4D, 25), (0x4E, 131072)],
        t.settings.value x.1 = some x.2) ∧
      t.items = [] ∧ t.labels = [] ∧ t.disp = ⟨[], 0, 0, 0, none⟩ ∧
      t.till = ⟨[], [], [], [], []⟩ ∧ t.journal = ⟨[], 1, 1, 1, true, 0, none, none, true, true⟩ ∧
      t.clock = ⟨false, 0, 0, 0⟩ ∧ t.windowIn = false ∧ t.sched = ⟨[], 1⟩ ∧ t.exch = ⟨.idle, 0, []⟩ ∧
      t.uplink = ⟨.fallback, false, 1, none, none, none, 0, 0, 0, none, []⟩ ∧
      t.pool.free = 8192 ∧ t.pool.reoffer = false ∧ (∀ p : Port, t.port p = ⟨none, [], [], [], none, none⟩) ∧
      t.stations = ⟨[], 0⟩ ∧ t.guest = ⟨[], [], 131072, 0, 0, 0⟩ ∧
      t.mon = ⟨List.replicate 8 ⟨.none, 0, false, false⟩, ⟨List.replicate 8 (0, false), List.replicate 6 0, 0, 0⟩, false, []⟩ ∧
      t.mgmt = ⟨[], 0, [], [], 1, none, 0, .idle⟩ ∧ t.alertAsserted = false

/-- RESET_FULL (R199, R200): the state a power-on with the latched straps leaves, but for the station address and the links, and the
answer DONE, which is admitted on the arrival port when its link is up, and discarded when it is down. A RESET of neither kind, or
with no kind at all, is this row's too (log 16), and is answered BAD-FIELD with nothing reset. -/
def Obligations.FullReset : Prop :=
  ∀ (s : State) (r : Request), Takes s r 0x62 →
    (field r.fields 0 1 = 1 → r.fields ≠ [] → ∃ base t,
      Sys2Proof.Machine.exec (.powerOn s.straps) s = .next base ∧ Sys2Proof.Machine.exec .resetFull s = .next t ∧
        (let kept : Port → PortUnit := fun p => ⟨(s.port p).link, [], [], [], none, none⟩
         t = answer r .done [] { base with
           settings := { base.settings with stationAddr := s.settings.stationAddr }
           pool := { base.pool with ports := ⟨kept .uplink, kept .till, kept .label, kept .guest, kept .office⟩ } }) ∧
        t.pending = s.pending ∧ t.straps = s.straps ∧
        t.settings = { resetSettings s.straps with stationAddr := s.settings.stationAddr } ∧
        (∀ p : Port, (t.port p).link = (s.port p).link) ∧ t.items = [] ∧ t.labels = [] ∧ t.disp.queue = [] ∧ t.till.register = [] ∧
        t.journal.records = [] ∧ t.clock.isSet = false ∧ t.sched.entries = [] ∧ t.exch.state = .idle ∧ t.exch.lastBatch = 0 ∧
        t.uplink.state = .fallback ∧ t.stations.table = [] ∧ t.guest.table = [] ∧ t.mgmt.requests = [] ∧ t.mgmt.outbox = [] ∧
        t.mgmt.notices = [] ∧ t.mgmt.firstSender = none ∧
        (s.linkIsUp r.port = true → t.pool.free = 8191 ∧ ((t.port r.port).tx.map (·.frame)) =
          some (Msg.frame ⟨r.port, r.src, s.settings.stationAddr, 0x88B6, .mgmtAns, be 2 r.tag ++ be 1 r.code ++ be 1 1⟩)) ∧
        (s.linkIsUp r.port = false → t.pool.free = 8192)) ∧
    (r.fields = [] ∨ (field r.fields 0 1 ≠ 1 ∧ field r.fields 0 1 ≠ 2) →
      Sys2Proof.Machine.exec .resetFull s = .next (answer r .badField [] (takeRequest r s)))

/-- RESET_TRAFFIC (R48, R62, R84, R122, R137, R154, R166, R180, R189, R199, R200): what is kept, what is emptied, what begins again.
`emptied` is the part with every block's own share of the reset done, and nothing counted: the label table as it stands, the WAITING
entries as they stand, the IN-FLIGHT ones behind them in order of sending with new order stamps, every cell free, the notice queue
with each notice whose message was discarded unsent again. Then the part goes on from there, in an order that is the model's (log
13): pushes, unsent notices, the batch discarded, the journal's levels tested, FALLBACK entered and probing begun, the guest rate
formed, and the answer DONE. -/
def Obligations.TrafficReset : Prop :=
  ∀ (s : State) (r : Request), Takes s r 0x62 → field r.fields 0 1 = 2 → r.fields ≠ [] → ∃ t,
    Sys2Proof.Machine.exec .resetTraffic s = .next t ∧
      OnlyChanges [.labels, .dispatcher, .till, .journal, .exchange, .uplink, .pool, .stations, .guest, .monitor, .management] s t ∧
      (∀ p : Port, (t.port p).link = (s.port p).link) ∧
      t.till.intake = [] ∧ t.till.asks = [] ∧ t.till.register = s.till.register ∧ t.till.generations = s.till.generations ∧
      t.journal.records = s.journal.records ∧ t.journal.release = s.journal.release ∧ t.journal.free = s.journal.free ∧
      t.journal.next = s.journal.release ∧ t.journal.fresh = s.journal.fresh ∧ t.journal.credit = 0 ∧ t.journal.ackTimer = none ∧
      t.exch.lastBatch = s.exch.lastBatch ∧ (∀ c, t.exch.state ≠ .staging c) ∧
      (∀ k, s.exch.state = .committing k → t.exch.state = .committing k) ∧
      t.uplink.state = .fallback ∧ t.uplink.lostRun = 0 ∧
      t.stations.table = s.stations.table.filter (fun p => p.2.loaded) ∧
      t.guest.table = [] ∧ t.guest.coolOff = [] ∧ t.guest.level = s.settings.aggDepth ∧ t.guest.rate = 0 ∧
      t.mon.hold = s.mon.hold ∧ t.mon.due = s.mon.due ∧ t.mon.counters.map (·.source) = s.mon.counters.map (·.source) ∧
      t.mgmt.requests = [] ∧ t.mgmt.overflow = s.mgmt.overflow ∧
      ((s.disp.queue.map (·.label)).Nodup →
        let taken := takeRequest r s
        let port : Port → PortUnit := fun p => ⟨(s.port p).link, [], [], [], none, (taken.port p).activity⟩
        let requeued := s.flightsInOrder.mapIdx (fun i p =>
          (⟨p.1.label, wantsPrice s p.1.label, wantsHigh s p.1.label, p.1.attempts, s.disp.nextStamp + i, none⟩ : LabelEntry))
        let emptied : State := { s with
          disp := { s.disp with
            queue := s.disp.queue.filter (fun e => e.flight.isNone) ++ requeued
            nextStamp := s.disp.nextStamp + requeued.length
            held := none }
          till := { s.till with intake := [], asks := [], backlog := [] }
          journal := { s.journal with
            next := s.journal.release, credit := 0, ackTimer := none, held := none, highArmed := true, fullArmed := true }
          exch := { s.exch with outbox := [] }
          pool := ⟨⟨port .uplink, port .till, port .label, port .guest, port .office⟩, 8192, false⟩
          stations := ⟨s.stations.table.filter (fun p => p.2.loaded), 0⟩
          guest := ⟨[], [], s.settings.aggDepth, 0, 0, 0⟩
          mon := taken.mon
          mgmt := { taken.mgmt with
            requests := []
            outbox := []
            notices := taken.mgmt.notices.map (fun n =>
              if taken.mgmt.outbox.any (fun i => i.notice == some n.number) then { n with sent := false } else n) } }
        t = answer r .done [] (formRate (uplinkResetTraffic (testLevels (discardBatch .reset (sendUnsent (dispatch emptied)))))) ∧
          ((∀ e ∈ s.disp.queue, (s.label e.label).radio ≠ 0) → t.labels = s.labels ∧
            t.disp.queue.map (fun e => (e.label, e.attempts)) = emptied.disp.queue.map (fun e => (e.label, e.attempts))))

/-! ### Links, frames and cells -/

/-- LINK_UP (R138): the port takes its link; on P0 probing begins at once when the head-office address is set (R124, R132).
DAMAGED_FRAME (R139): discarded with reason FCS on a port whose link is up; a port whose link is down receives nothing. -/
def Obligations.LinkUpAndDamagedFrame : Prop :=
  (∀ (p : Port) (speed : Speed) (s : State), s.linkIsUp p = false → ∃ t,
    Sys2Proof.Machine.exec (.linkUp p speed) s = .next t ∧ (t.port p).link = some speed ∧ (∀ q : Port, q ≠ p → t.port q = s.port q) ∧
      OnlyChanges [.pool, .uplink, .monitor] s t ∧
      (p ≠ .uplink → t.uplink = s.uplink ∧ t.mon = s.mon ∧ t.pool.free = s.pool.free ∧ t.port p = { s.port p with link := some speed }) ∧
      (p = .uplink → s.settings.headOffice = 0 → t.uplink.probe = none ∧ t.uplink.timer = none) ∧
      (p = .uplink → s.settings.headOffice ≠ 0 → t.uplink.probe = some ⟨s.uplink.seq, s.now, false⟩ ∧ t.uplink.timer = some s.now) ∧
      t.uplink.state = s.uplink.state ∧ t.uplink.lostRun = s.uplink.lostRun) ∧
  (∀ (p : Port) (s : State), ∃ t, Sys2Proof.Machine.exec (.damagedFrame p) s = .next t ∧ OnlyChanges [.monitor] s t ∧
    (s.linkIsUp p = true → t.mon.counters = s.mon.counters.map (fun c =>
      if c.admits ⟨.framesDiscarded, some 0, some p, none⟩ then c.add 1 else c)) ∧
    (s.linkIsUp p = false → t = s))

/-- LINK_DOWN (R138, R161, R164, R132): every frame of the port leaves and its cells return, and every message held for it is gone; on
P0 the uplink is in FALLBACK with an empty probe record. That the held messages are discarded when the link is lost, and that the
dispatcher, done with its push, tries again, is the model's reading (log 38). -/
def Obligations.LinkDown : Prop :=
  ∀ (p : Port) (receiving : Bool) (s : State), s.linkIsUp p = true → ∃ t,
    Sys2Proof.Machine.exec (.linkDown p receiving) s = .next t ∧ t.linkIsUp p = false ∧ (t.port p).frames = [] ∧
      (∀ m ∈ t.heldMessages, m.port ≠ p) ∧
      (p ≠ .uplink → OnlyChanges [.labels, .dispatcher, .till, .journal, .exchange, .uplink, .pool, .monitor, .management] s t ∧
        t.till = { s.till with backlog := s.till.backlog.filter (fun m => m.port != p) } ∧
        t.journal = { s.journal with held := s.journal.held.filter (fun m => m.port != p) } ∧
        t.exch = { s.exch with outbox := s.exch.outbox.filter (fun m => m.port != p) } ∧
        t.uplink = { s.uplink with held := s.uplink.held.filter (fun m => m.port != p) } ∧
        t.mgmt = { s.mgmt with outbox := s.mgmt.outbox.filter (fun i => i.msg.port != p) } ∧
        ((∀ h, s.disp.held = some h → h.2.port ≠ p) → t.disp = s.disp ∧ t.labels = s.labels) ∧
        ((∀ h, s.disp.held = some h → h.2.port ≠ p) ∨ p = .label →
          t.pool.free = s.pool.free + cellsOf (s.port p).frames ∧ ∀ q : Port, q ≠ p → t.port q = s.port q)) ∧
      (p = .uplink → t.uplink.state = .fallback ∧ t.uplink.probe = none ∧ t.uplink.timer = none ∧
        OnlyChanges [.labels, .dispatcher, .till, .journal, .exchange, .uplink, .pool, .guest, .monitor, .management] s t)

/-- TRANSMIT_END (R155, R162): the frame is counted as sent, its cells return, and the head of the first queue that is not empty,
URGENT, STORE, GUEST, is sent next. -/
def Obligations.TransmitEnd : Prop :=
  ∀ (p : Port) (f : QFrame) (s : State), (s.port p).tx = some f → s.linkIsUp p = true → ∃ t,
    Sys2Proof.Machine.exec (.transmitEnd p) s = .next t ∧ OnlyChanges [.pool, .monitor] s t ∧
      t.pool.free = s.pool.free + f.cells ∧ t.pool.reoffer = true ∧ (∀ q : Port, q ≠ p → t.port q = s.port q) ∧
      (t.port p).tx = ((s.port p).urgent ++ ((s.port p).store ++ (s.port p).guest)).head? ∧
      (t.port p).urgent.length + (t.port p).store.length + (t.port p).guest.length =
        (s.port p).urgent.length + (s.port p).store.length + (s.port p).guest.length - 1 ∧
      t.mon.counters = s.mon.counters.map (fun c => if c.admits ⟨.framesSent, none, some p, some f.cls⟩ then c.add 1 else c)

/-- Admission of a forwarded frame (R157 to R160): by class, against the free cells, the port's STORE share and the GUEST cells. A
generated message at its port (R157, R161): discarded and done with when the link is down; admitted in class URGENT when its cells
suffice; else refused, with nothing changed. -/
def Obligations.AdmissionAndOffers : Prop :=
  (∀ (q : Port) (f : QFrame) (s : State),
    let t := offerForwarded q f s
    let fits := match f.cls with
      | .urgent => f.cells ≤ s.pool.free
      | .store => f.cells + 512 ≤ s.pool.free ∧ (s.port q).classCells .store + f.cells ≤ 2048
      | .guest => f.cells + 512 ≤ s.pool.free ∧ s.pool.guestCells + f.cells ≤ 1024
    (s.linkIsUp q = true ∧ fits →
      t.pool.free + f.cells = s.pool.free ∧ f ∈ (t.port q).frames ∧
        cellsOf (t.port q).frames = cellsOf (s.port q).frames + f.cells ∧
        (∀ p : Port, p ≠ q → t.port p = s.port p) ∧ t.mon = s.mon ∧ OnlyChanges [.pool] s t) ∧
    (¬(s.linkIsUp q = true ∧ fits) →
      t.pool = s.pool ∧ OnlyChanges [.monitor] s t ∧
        t.mon.counters = s.mon.counters.map (fun c => if c.admits ⟨.framesDiscarded, some 5, some q, some f.cls⟩ then c.add 1 else c))) ∧
  (∀ (g : Generator) (m : Msg) (s : State),
    let t := (offer g m s).2
    let f : QFrame := ⟨m.frame, .urgent, .generated g m.kind, false⟩
    (s.linkIsUp m.port = false → (offer g m s).1 = true ∧ t.pool = s.pool ∧ t.mon.counters =
      s.mon.counters.map (fun c => if c.admits ⟨.framesDiscarded, some 5, some m.port, some .urgent⟩ then c.add 1 else c)) ∧
    (s.linkIsUp m.port = true → f.cells ≤ s.pool.free →
      (offer g m s).1 = true ∧ t.pool.free + f.cells = s.pool.free ∧ f ∈ (t.port m.port).frames ∧ t.mon = s.mon) ∧
    (s.linkIsUp m.port = true → s.pool.free < f.cells → offer g m s = (false, s)) ∧
    OnlyChanges [.pool, .monitor] s t)

/-- An ordinary unicast frame between two known stations of different segments, neither UPLINK (R141, R150 to R152): the policy
cell decides between a discard and an offer in the egress class. -/
def Obligations.OrdinaryFrameForwarded : Prop :=
  ∀ (p q : Port) (f : Frame) (e d : Station) (s : State),
    Receives p false s → 64 ≤ frameLength f → frameLength f ≤ 1522 → GoodSource f.src s → Known p f.src e s →
    isGroup f.dst = false → f.dst ≠ s.settings.stationAddr → Known q f.dst d s → p ≠ q → p ≠ .uplink → q ≠ .uplink →
    ∃ t, Sys2Proof.Machine.exec (.ordinaryFrame ⟨p, f, false⟩) s = .next t ∧
      OnlyChanges [.pool, .stations, .monitor] s t ∧ t.stations = (heard p e s).stations ∧
      (policyCell s.settings.policy p q = .deny → t = count ⟨.framesDiscarded, some 2, some p, none⟩ (heard p e s)) ∧
      (policyCell s.settings.policy p q ≠ .deny → t = offerForwarded q ⟨f,
        if e.cls = .tillStation ∨ d.cls = .tillStation then .urgent
        else if e.cls = .guestClient ∨ d.cls = .guestClient then .guest else .store, .forwarded, false⟩ (heard p e s))

/-- The payment gate (R43): a till's frame to UPLINK is offered, marked as a payment, while the uplink is UP or DEGRADED, and
discarded as held back otherwise. An upstream guest frame (R176): charged to the client's and the aggregate bucket and
offered as GUEST, or discarded uncharged and counted with reason GUEST-SHAPING in class GUEST on P0. -/
def Obligations.GatesToUplink : Prop :=
  (∀ (f : Frame) (e : Station) (s : State),
      Receives .till false s → 64 ≤ frameLength f → frameLength f ≤ 1522 → GoodSource f.src s → Known .till f.src e s →
      e.cls = .tillStation → isGroup f.dst = false → f.dst ≠ s.settings.stationAddr → Tbl.get s.stations.table f.dst.toNat = none →
      policyCell s.settings.policy .till .uplink ≠ .deny →
      ∃ t, Sys2Proof.Machine.exec (.ordinaryFrame ⟨.till, f, false⟩) s = .next t ∧ OnlyChanges [.pool, .stations, .monitor] s t ∧
        (s.uplink.state = .up ∨ s.uplink.state = .degraded →
          t = offerForwarded .uplink ⟨f, .urgent, .forwarded, true⟩ (heard .till e s)) ∧
        (s.uplink.state = .fallback ∨ s.uplink.state = .recovering →
          t = count ⟨.framesDiscarded, some 3, some .uplink, none⟩ (heard .till e s))) ∧
  (∀ (f : Frame) (e : Station) (g : GuestRec) (s : State),
      Receives .guest false s → 64 ≤ frameLength f → frameLength f ≤ 1522 → GoodSource f.src s → Known .guest f.src e s →
      e.cls = .guestClient → Tbl.get s.guest.table f.src.toNat = some g → g.addr = f.src →
      isGroup f.dst = false → f.dst ≠ s.settings.stationAddr → Tbl.get s.stations.table f.dst.toNat = none →
      policyCell s.settings.policy .guest .uplink ≠ .deny →
      ∃ t, Sys2Proof.Machine.exec (.ordinaryFrame ⟨.guest, f, false⟩) s = .next t ∧
        OnlyChanges [.pool, .stations, .guest, .monitor] s t ∧
        (let n := frameLength f
         let passes := s.guest.rate ≠ 0 ∧ n ≤ g.level ∧ n ≤ s.guest.level
         let after : Nat → GuestRec → State := fun level g => { heard .guest e s with
           guest := { s.guest with level := level, table := Tbl.put s.guest.table f.src.toNat g } }
         (passes → t = offerForwarded .uplink ⟨f, .guest, .forwarded, false⟩
           (after (s.guest.level - n) { g with level := g.level - n, bytesUp := min 281474976710655 (g.bytesUp + n) })) ∧
         (¬passes → t = count ⟨.framesDiscarded, some 6, some .uplink, some .guest⟩
           (after s.guest.level { g with discarded := min 4294967295 (g.discarded + 1) }))) ∧
        (s.guest.rate ≠ 0 ∧ frameLength f ≤ g.level ∧ frameLength f ≤ s.guest.level →
          t.guest.level = s.guest.level - frameLength f ∧
          Tbl.get t.guest.table f.src.toNat = some { g with
            level := g.level - frameLength f, bytesUp := min 281474976710655 (g.bytesUp + frameLength f) }) ∧
        (¬(s.guest.rate ≠ 0 ∧ frameLength f ≤ g.level ∧ frameLength f ≤ s.guest.level) →
          t.guest.level = s.guest.level ∧ (∀ q : Port, q ≠ .guest → t.port q = s.port q) ∧
          Tbl.get t.guest.table f.src.toNat = some { g with discarded := min 4294967295 (g.discarded + 1) }))

/-- A frame of a known station that no gate holds (R148 to R152), with an individual destination: filtered when its destination is on
the segment it came from, discarded by a DENY cell, else offered to the destination's port, UPLINK for one that is not known; and
with a group destination: one copy offered to each permitted segment but UPLINK and its own, in ascending port number. -/
def Obligations.FilteredSentAndCopied : Prop :=
  ∀ (p : Port) (f : Frame) (e : Station) (s : State),
    Receives p false s → 64 ≤ frameLength f → frameLength f ≤ 1522 → GoodSource f.src s → Known p f.src e s → p ≠ .uplink →
    f.dst ≠ s.settings.stationAddr →
    (∀ (d : Option Station), isGroup f.dst = false → Tbl.get s.stations.table f.dst.toNat = d →
      e.cls ≠ .tillStation → e.cls ≠ .guestClient →
      let q := match d with
        | some x => x.seg
        | none => .uplink
      ∃ t, Sys2Proof.Machine.exec (.ordinaryFrame ⟨p, f, false⟩) s = .next t ∧ OnlyChanges [.pool, .stations, .monitor] s t ∧
        (q = p → t = count ⟨.framesFiltered, none, some p, none⟩ (heard p e s)) ∧
        (q ≠ p → policyCell s.settings.policy p q = .deny →
          t = count ⟨.framesDiscarded, some 2, some p, none⟩ (heard p e s)) ∧
        (q ≠ p → policyCell s.settings.policy p q ≠ .deny → t = offerForwarded q ⟨f,
          if d.map (·.cls) = some .tillStation then .urgent else if d.map (·.cls) = some .guestClient then .guest else .store,
          .forwarded, false⟩ (heard p e s))) ∧
    (isGroup f.dst = true →
      let cls : Cls := if e.cls = .tillStation then .urgent else if e.cls = .guestClient then .guest else .store
      ∃ t, Sys2Proof.Machine.exec (.ordinaryFrame ⟨p, f, false⟩) s = .next t ∧ OnlyChanges [.pool, .stations, .monitor] s t ∧
        t = ([Seg.till, .label, .guest, .office].filter (fun q => q != p && policyCell s.settings.policy p q == .permit)).foldl
          (fun v q => offerForwarded q ⟨f, cls, .forwarded, false⟩ v) (heard p e s))

/-- A frame from UPLINK (R141, R148 to R152, R177): its source is never learned. One for an address not known, or known beyond P0, is
filtered; a DENY cell discards it; one for a guest is charged to the guest's bucket and offered, or discarded uncharged; any other
is offered; a group frame is copied to the permitted segments. -/
def Obligations.FramesFromUplink : Prop :=
  ∀ (f : Frame) (s : State), Receives .uplink false s → 64 ≤ frameLength f → frameLength f ≤ 1522 → GoodSource f.src s →
    f.dst ≠ s.settings.stationAddr → ∃ t, Sys2Proof.Machine.exec (.ordinaryFrame ⟨.uplink, f, false⟩) s = .next t ∧
      OnlyChanges [.pool, .guest, .monitor] s t ∧
      (isGroup f.dst = true → t = ([Seg.till, .label, .guest, .office].filter
          (fun q => policyCell s.settings.policy .uplink q == .permit)).foldl
        (fun v q => offerForwarded q ⟨f, .store, .forwarded, false⟩ v) (gated .uplink s)) ∧
      (isGroup f.dst = false → Tbl.get s.stations.table f.dst.toNat = none →
        t = count ⟨.framesFiltered, none, some .uplink, none⟩ (gated .uplink s)) ∧
      (∀ (q : Port) (d : Station), isGroup f.dst = false → Known q f.dst d s →
        (q = .uplink → t = count ⟨.framesFiltered, none, some .uplink, none⟩ (gated .uplink s)) ∧
        (q ≠ .uplink → policyCell s.settings.policy .uplink q = .deny →
          t = count ⟨.framesDiscarded, some 2, some .uplink, none⟩ (gated .uplink s)) ∧
        (q ≠ .uplink → policyCell s.settings.policy .uplink q ≠ .deny → d.cls ≠ .guestClient →
          t = offerForwarded q ⟨f, if d.cls = .tillStation then .urgent else .store, .forwarded, false⟩ (gated .uplink s)) ∧
        (∀ g, q ≠ .uplink → policyCell s.settings.policy .uplink q ≠ .deny → d.cls = .guestClient →
          Tbl.get s.guest.table f.dst.toNat = some g → g.addr = f.dst →
          let n := frameLength f
          let charged : GuestRec → State := fun g => { gated .uplink s with
            guest := { s.guest with table := Tbl.put s.guest.table f.dst.toNat g } }
          (n ≤ g.level → t = offerForwarded q ⟨f, .guest, .forwarded, false⟩
            (charged { g with level := g.level - n, bytesDown := min 281474976710655 (g.bytesDown + n) })) ∧
          (g.level < n → t = count ⟨.framesDiscarded, some 6, some .guest, some .guest⟩
            (charged { g with discarded := min 4294967295 (g.discarded + 1) }))))

/-- Sources that move (R142): a LEARNED entry follows its station to TILL, LABEL or OFFICE, a guest's record going without cool-off,
and the frame is decided with the entry so left; one that comes to GUEST is admitted or turned away as a new address. A LOADED source
on another segment is misplaced (R143): the frame is discarded, with one notice. A source that is a group address, zero or the
part's own is malformed (R141). -/
def Obligations.MovedAndMisplacedSources : Prop :=
  (∀ (p : Port) (f : Frame) (e : Station) (s : State), p = .till ∨ p = .label ∨ p = .office →
      Receives p false s → 64 ≤ frameLength f → frameLength f ≤ 1522 → GoodSource f.src s → Known e.seg f.src e s → e.seg ≠ p →
      e.loaded = false → f.dst ≠ s.settings.stationAddr →
      let moved : Station := { e with
        seg := p, cls := if p = .till then .tillStation else if p = .office then .officeStation else .other, age := 0 }
      let counted := count ⟨.stationMoves, none, none, none⟩ (gated p s)
      let u := putStation moved { counted with guest := { s.guest with
        table := if e.cls = .guestClient then Tbl.del s.guest.table f.src.toNat else s.guest.table } }
      ∃ t, Sys2Proof.Machine.exec (.ordinaryFrame ⟨p, f, false⟩) s = .next t ∧ OnlyChanges [.pool, .stations, .guest, .monitor] s t ∧
        t.stations = u.stations ∧ t.guest = u.guest ∧ Tbl.get t.stations.table f.src.toNat = some moved ∧
        (∀ k, k ≠ f.src.toNat → Tbl.get t.stations.table k = Tbl.get s.stations.table k) ∧
        t = if isGroup f.dst then copyGroup p (some moved.cls) f u else forwardUnicast p (some moved) f u) ∧
  (∀ (f : Frame) (e : Station) (s : State),
      Receives .guest false s → 64 ≤ frameLength f → frameLength f ≤ 1522 → GoodSource f.src s → Known e.seg f.src e s →
      e.seg ≠ .guest → e.cls ≠ .guestClient → e.loaded = false → isGroup f.dst = true → f.dst ≠ s.settings.stationAddr →
      s.stations.table.length ≤ 2048 →
      let cool := s.guest.coolOff.any (fun c => c.1 == f.src)
      let fresh : GuestRec := ⟨f.src, s.settings.lease, s.settings.clientDepth, 0, 0, 0, 0⟩
      ∃ t, Sys2Proof.Machine.exec (.ordinaryFrame ⟨.guest, f, false⟩) s = .next t ∧
        OnlyChanges [.pool, .stations, .guest, .monitor] s t ∧
        (cool = true ∨ 512 ≤ s.guest.table.length →
          t.stations = { s.stations with table := Tbl.del s.stations.table f.src.toNat } ∧ t.guest = s.guest ∧
          (∀ q : Port, q ≠ .guest → t.port q = s.port q)) ∧
        (cool = false → s.guest.table.length < 512 →
          Tbl.get t.stations.table f.src.toNat = some ⟨f.src, .guest, .guestClient, false, 0, false⟩ ∧
          t.guest = { s.guest with table := Tbl.put s.guest.table f.src.toNat fresh })) ∧
  (∀ (p : Port) (f : Frame) (e : Station) (s : State),
      Receives p false s → 64 ≤ frameLength f → frameLength f ≤ 1522 → GoodSource f.src s → Known e.seg f.src e s →
      p ≠ .uplink → e.seg ≠ p → e.loaded = true →
      let u := count ⟨.framesDiscarded, some 4, some p, none⟩ (gated p s)
      ∃ t, Sys2Proof.Machine.exec (.ordinaryFrame ⟨p, f, false⟩) s = .next t ∧
        OnlyChanges [.pool, .stations, .monitor, .management] s t ∧
        (e.misplaced = true → t = u) ∧
        (e.misplaced = false →
          t = raiseNotice (.stationMisplaced f.src e.seg e.cls p) (putStation { e with misplaced := true } u))) ∧
  (∀ (p : Port) (f : Frame) (s : State), Receives p false s → 64 ≤ frameLength f → frameLength f ≤ 1522 → ¬GoodSource f.src s →
      Sys2Proof.Machine.exec (.ordinaryFrame ⟨p, f, false⟩) s =
        .next (count ⟨.framesDiscarded, some 1, some p, none⟩ (gated p s)))

/-- A new source on TILL, LABEL or OFFICE is learned while the table has room (R141). A new address on GUEST (R169): turned away in
cool-off or when a table is full, else admitted with a full lease; a group frame then charges nothing. -/
def Obligations.NewSources : Prop :=
  (∀ (p : Port) (f : Frame) (s : State),
    p = .till ∨ p = .label ∨ p = .office → Receives p false s → 64 ≤ frameLength f → frameLength f ≤ 1522 →
    GoodSource f.src s → Tbl.get s.stations.table f.src.toNat = none → f.dst ≠ s.settings.stationAddr →
    s.stations.table.length < 2048 →
    ∃ t, Sys2Proof.Machine.exec (.ordinaryFrame ⟨p, f, false⟩) s = .next t ∧ OnlyChanges [.pool, .stations, .monitor] s t ∧
      Tbl.get t.stations.table f.src.toNat = some ⟨f.src, p,
        if p = .till then .tillStation else if p = .office then .officeStation else .other, false, 0, false⟩ ∧
      ∀ k, k ≠ f.src.toNat → Tbl.get t.stations.table k = Tbl.get s.stations.table k) ∧
  (∀ (f : Frame) (s : State),
    Receives .guest false s → 64 ≤ frameLength f → frameLength f ≤ 1522 → GoodSource f.src s →
    Tbl.get s.stations.table f.src.toNat = none → isGroup f.dst = true → f.dst ≠ s.settings.stationAddr →
    ∃ t, Sys2Proof.Machine.exec (.ordinaryFrame ⟨.guest, f, false⟩) s = .next t ∧
      OnlyChanges [.pool, .stations, .guest, .monitor] s t ∧
      (s.guest.coolOff.any (fun c => c.1 == f.src) = true →
        t = count ⟨.framesDiscarded, some 7, some .guest, none⟩ (gated .guest s)) ∧
      (s.guest.coolOff.any (fun c => c.1 == f.src) = false → 512 ≤ s.guest.table.length ∨ 2048 ≤ s.stations.table.length →
        t.guest = s.guest ∧ t.stations = s.stations) ∧
      (s.guest.coolOff.any (fun c => c.1 == f.src) = false → s.guest.table.length < 512 → s.stations.table.length < 2048 →
        Tbl.get t.stations.table f.src.toNat = some ⟨f.src, .guest, .guestClient, false, 0, false⟩ ∧
        Tbl.get t.guest.table f.src.toNat = some ⟨f.src, s.settings.lease, s.settings.clientDepth, 0, 0, 0, 0⟩))

/-! ### Branch messages -/

/-- PRICE_ASK and SALE_RECORD from a known till (R27): one entry at the tail of the intake queue, or an intake overflow. MGMT_REQ from
a known OFFICE station (R147, R190): queued with its source and port, or, with 8 waiting, dropped into the overflow figure. -/
def Obligations.TillAndManagementIntake : Prop :=
  (∀ (m : BranchArrival) (e : Station) (s : State), m.port = .till → Known .till m.src e s → e.cls = .tillStation →
    (∀ k : QtyKind, Arrives m .priceAsk s → qtyKindOf (field (bodyOf m) 9 1) = some k → ∃ t,
      Sys2Proof.Machine.exec (.priceAsk m) s = .next t ∧ OnlyChanges [.till, .pool, .stations, .monitor] s t ∧
        t.till = { s.till with intake :=
          if s.till.intake.length < 64 then s.till.intake ++ [⟨m.src, .ask (field (bodyOf m) 0 1) (field (bodyOf m) 1 2)
            (field (bodyOf m) 3 6) k (field (bodyOf m) 10 4)⟩]
          else s.till.intake }) ∧
    (Arrives m .saleRecord s → m.bodyLength.toNat ≤ 245 → ∃ t,
      Sys2Proof.Machine.exec (.saleRecord m) s = .next t ∧ OnlyChanges [.till, .pool, .stations, .monitor] s t ∧
        t.till = { s.till with intake :=
          if s.till.intake.length < 64 then
            s.till.intake ++ [⟨m.src, .sale (field (bodyOf m) 0 1) (field (bodyOf m) 1 4) ((bodyOf m).drop 5)⟩]
          else s.till.intake })) ∧
  (∀ (m : BranchArrival) (e : Station) (s : State), Arrives m .mgmtReq s → m.port = .office → Known .office m.src e s →
    ∃ t, Sys2Proof.Machine.exec (.mgmtReq m) s = .next t ∧ OnlyChanges [.pool, .stations, .monitor, .management] s t ∧
      (s.mgmt.requests.length < 8 → t.mgmt = { s.mgmt with requests := s.mgmt.requests ++
        [⟨m.src, .office, field (bodyOf m) 0 2, field (bodyOf m) 2 1, (bodyOf m).drop 3⟩] }) ∧
      (8 ≤ s.mgmt.requests.length → t.mgmt = { s.mgmt with overflow := min 65535 (s.mgmt.overflow + 1) }))

/-- ITEM_REPLY (R34, R35): a matching reply ends its referral, whatever it says; one that does not match is late. A valid
description with the adopt flag on becomes an item at version 1 when the code is absent and its bucket has room (R9). -/
def Obligations.ItemReplyEndsReferral : Prop :=
  ∀ (m : BranchArrival) (s : State), FromHeadOffice m .itemReply s →
    let n := field (bodyOf m) 0 1
    let isMatch : LiveAsk → Prop := fun a => Tbl.get s.till.asks n = some a ∧ s.till.generation n = field (bodyOf m) 1 1 ∧
      a.code = field (bodyOf m) 2 6
    ∃ t, Sys2Proof.Machine.exec (.itemReply m) s = .next t ∧
      OnlyChanges [.items, .till, .pool, .monitor, .management] s t ∧
      (∀ a, isMatch a → t.till.asks = Tbl.del s.till.asks n ∧ t.till.generations = s.till.generations ∧
        (∀ r, lookupItem s.items a.code = some r →
          t = endAsk n a (quoteItem s.labels r a.kind a.quantity) (gated .uplink s)) ∧
        (lookupItem s.items a.code = none → replyContent (bodyOf m) = .unknown → t.items = s.items ∧
          t = endAsk n a ⟨.unknown, 0, 0, ⟨false, false, false, false⟩, .absent, 0, 0⟩ (gated .uplink s)) ∧
        (∀ f w, lookupItem s.items a.code = none → replyContent (bodyOf m) = .known f true → freeWay s.items a.code = some w →
          validCode a.code = true → f.valid = true →
          t.items = Tbl.put s.items (slotOf a.code w) ⟨a.code, f, 1, []⟩)) ∧
      ((∀ a, ¬isMatch a) → t.till = s.till ∧ t.items = s.items ∧ t.mgmt = s.mgmt)

/-- JOURNAL_ACK (R50, R56, R57): a sequence in the SENT range releases every record up to it; any other changes no record and no
mark. -/
def Obligations.JournalAck : Prop :=
  ∀ (m : BranchArrival) (s : State), FromHeadOffice m .journalAck s →
    let n := field (bodyOf m) 0 4
    let d := seqDistance s.journal.release n
    let valid := n ≠ 0 ∧ d < s.journal.sentCount
    ∃ t, Sys2Proof.Machine.exec (.journalAck m) s = .next t ∧ OnlyChanges [.journal, .pool, .monitor, .management] s t ∧
      (valid → t.journal.release = (if n = 4294967295 then 1 else n + 1) ∧ t.journal.records = s.journal.records.drop (d + 1) ∧
        t.journal.fresh = false ∧ t.journal.next = s.journal.next ∧ t.journal.free = s.journal.free ∧
        t.journal.credit = s.journal.credit ∧ t.journal.held = s.journal.held ∧
        t.journal.ackTimer = if s.journal.sentCount = d + 1 then none else some s.now) ∧
      (¬valid → t.journal = s.journal ∧ t.mgmt = s.mgmt ∧ t.pool = (gated .uplink s).pool)

/-- LABEL_RESULT with outcome SHOWN (R76, R77): the label shows what was pushed and is REACHABLE, unless its radio identity has
changed; no other label's display moves. -/
def Obligations.LabelShown : Prop :=
  ∀ (m : BranchArrival) (b : Station) (e : LabelEntry) (f : Flight) (s : State),
    Arrives m .labelResult s → m.port = .label → Known .label m.src b s → b.cls.isBase = true →
    s.flightOf (field (bodyOf m) 0 2) = some (e, f) → field (bodyOf m) 2 1 = 1 →
    ∃ t, Sys2Proof.Machine.exec (.labelResult m) s = .next t ∧
      OnlyChanges [.labels, .dispatcher, .pool, .stations, .monitor] s t ∧
      ((s.label e.label).radio = f.radio → (t.label e.label).reachable = true ∧ (t.label e.label).display =
        (match f.snapshot with
         | .blank => .blankShown
         | .price c => .showing (if f.rebound then { c with version := 0 } else c))) ∧
      ((s.label e.label).radio ≠ f.radio → (t.label e.label).display = (s.label e.label).display) ∧
      ∀ n, n ≠ e.label → (t.label n).display = (s.label n).display ∧ (t.label n).reachable = (s.label n).reachable

/-- LABEL_RESULT with RADIO-BUSY or NO-REPLY (R76, R78): one attempt used, or, at the retry limit, the label given up; with REFUSED
(R79): given up at once; each with LABEL-GAVE-UP as R81 states, its identity, base station and bound item the record's (log 30). A
foreign, a bad and a late result are counted and nothing else (R76, R202). -/
def Obligations.LabelFailures : Prop :=
  ∀ (m : BranchArrival) (b : Station) (s : State),
    Arrives m .labelResult s → m.port = .label → Known .label m.src b s →
    let tag := field (bodyOf m) 0 2
    let outcome := field (bodyOf m) 2 1
    let odd : Nat → State := fun k => count ⟨.oddResults, some k, none, none⟩ (heard .label b s)
    ∃ t, Sys2Proof.Machine.exec (.labelResult m) s = .next t ∧
      OnlyChanges [.labels, .dispatcher, .pool, .stations, .monitor, .management] s t ∧
      (b.cls.isBase = false → t = odd 1) ∧
      (b.cls.isBase = true → outcome = 0 ∨ 4 < outcome → t = odd 2) ∧
      (b.cls.isBase = true → 1 ≤ outcome → outcome ≤ 4 → s.flightOf tag = none → t = odd 0) ∧
      (∀ e f, b.cls.isBase = true → s.flightOf tag = some (e, f) → 2 ≤ outcome → outcome ≤ 4 →
        let attempts := if f.superseded then 0 else e.attempts + 1
        let l := s.label e.label
        (outcome ≤ 3 → attempts < s.settings.retryLimit → t.mgmt = s.mgmt ∧ (t.label e.label).reachable = l.reachable ∧
          (l.radio ≠ 0 → ∃ x ∈ t.disp.queue, x.label = e.label ∧ x.attempts = attempts)) ∧
        (outcome = 4 ∨ s.settings.retryLimit ≤ attempts → (t.label e.label).reachable = false ∧
          t.mgmt.nextNotice = (if s.mgmt.nextNotice = 65535 then 1 else s.mgmt.nextNotice + 1) ∧
          ∃ x ∈ t.mgmt.notices, x.number = s.mgmt.nextNotice ∧ x.body = .labelGaveUp e.label l.radio l.base l.bound
            (if outcome = 4 then none else if outcome = 2 then some .radioBusy else some .noReply)) ∧
        ∀ n, (t.label n).display = (s.label n).display ∧ (t.label n).radio = (s.label n).radio ∧
          (t.label n).bound = (s.label n).bound ∧ (n ≠ e.label → (t.label n).reachable = (s.label n).reachable))

/-- EXCH_OPEN (R86, R88, R100, R102, R120): with 7 messages or more in the outbox it is discarded before anything else and counted;
with fewer the clock is set from head office's time, the answer's conditions are judged in order, READY opens a batch, and the
EXCH-ANSWER goes out behind whatever waits. A batch open or committing answers BUSY and goes on, unless the clock setting closes the
window on an open one. The state against which BUSY is judged, and that batch's report before the answer, are the model's reading
(log 12). -/
def Obligations.ExchangeOpen : Prop :=
  ∀ (m : BranchArrival) (s : State), FromHeadOffice m .exchOpen s →
    let batch := field (bodyOf m) 0 4
    let announced := field (bodyOf m) 4 2
    let time := min (field (bodyOf m) 6 6) 5662310399
    let inNow := windowAt s.settings.openSecond s.settings.closeSecond (time % 86400)
    let ready := s.exch.state = .idle ∧ (s.uplink.state = .up ∨ s.uplink.state = .degraded) ∧ s.exch.lastBatch < batch ∧
      (inNow = true ∨ s.settings.anyTime = true) ∧ announced ≤ 8192 - s.sched.entries.length
    let code : Nat :=
      if s.exch.state ≠ .idle then 2
      else if s.uplink.state = .fallback ∨ s.uplink.state = .recovering then 3
      else if batch ≤ s.exch.lastBatch then 4
      else if inNow = false ∧ s.settings.anyTime = false then 5
      else if 8192 - s.sched.entries.length < announced then 6
      else 1
    let closes := s.windowIn = true ∧ inNow = false ∧ s.settings.anyTime = false
    ∃ t, Sys2Proof.Machine.exec (.exchOpen m) s = .next t ∧
      OnlyChanges [.clock, .window, .exchange, .guest, .pool, .monitor, .management] s t ∧
      (7 ≤ s.exch.outbox.length → t = count ⟨.strayMessages, none, none, none⟩ (gated .uplink s)) ∧
      (s.exch.outbox.length < 7 →
        t.clock = ⟨true, time / 86400, time % 86400, 0⟩ ∧ t.windowIn = inNow ∧ t.exch.lastBatch = s.exch.lastBatch ∧
        (ready ↔ code = 1) ∧
        (ready → t.exch.state = .staging ⟨batch, announced, 1, 0, 0, none, 0, [], s.now, []⟩) ∧
        (s.exch.state = .idle → ¬ready → t.exch.state = .idle) ∧
        (∀ k, s.exch.state = .committing k → t.exch.state = .committing k) ∧
        (∀ c, s.exch.state = .staging c → ¬closes → t.exch.state = .staging c) ∧
        (∀ c, s.exch.state = .staging c → closes → t.exch.state = .idle) ∧
        let stateCode : Nat := match t.exch.state with
          | .idle => 1
          | .staging _ => 2
          | .committing _ => 3
        let clockSet := recomputeWindow { gated .uplink s with clock := ⟨true, time / 86400, time % 86400, 0⟩ }
        let opened : State := { clockSet with exch := { clockSet.exch with state := t.exch.state } }
        let message : Msg := ⟨.uplink, s.settings.headOffice, s.settings.stationAddr, s.settings.branchType, .exchAnswer,
          be 4 batch ++ be 1 code ++ be 2 (8192 - s.sched.entries.length) ++ be 4 s.exch.lastBatch ++ be 1 stateCode⟩
        t = sendExch message opened)

/-- PRICE_CHANGE of the open batch (R103 to R106): the next record in sequence is summed, counted, and staged or refused; a wrong
sequence breaks the batch. -/
def Obligations.PriceChangeRecord : Prop :=
  ∀ (m : BranchArrival) (c : StagingCtx) (s : State), FromHeadOffice m .priceChange s → s.exch.state = .staging c →
    field (bodyOf m) 0 4 = c.batch → c.broken = none →
    let seq := field (bodyOf m) 4 2
    let next : StagingCtx := { c with
      quiet := s.now, sum := (c.sum + wordSum (bodyOf m)) % 4294967296, expected := c.expected + 1, received := c.received + 1 }
    ∃ t, Sys2Proof.Machine.exec (.priceChange m) s = .next t ∧ OnlyChanges [.exchange, .pool, .monitor] s t ∧
      t.exch.lastBatch = s.exch.lastBatch ∧ t.exch.outbox = s.exch.outbox ∧
      (seq ≠ c.expected ∨ c.received = 8192 →
        t.exch.state = .staging { c with quiet := s.now, broken := some (c.expected, seq) }) ∧
      (seq = c.expected → c.received ≠ 8192 → ∀ x, changeOf (bodyOf m) = some x →
        t.exch.state = .staging { next with staging := c.staging.filter (fun y => !y.alike x) ++ [x] }) ∧
      (seq = c.expected → c.received ≠ 8192 → changeOf (bodyOf m) = none →
        t.exch.state = .staging { next with
          refused := c.refused + 1, refusedList := if c.refusedList.length < 16 then c.refusedList ++ [seq] else c.refusedList })

/-- EXCH_CLOSE of the open batch (R109, R110): every check passed, the batch begins to commit with its staging list as the queue;
a check failed, the batch is gone and the schedule untouched. -/
def Obligations.ExchangeClose : Prop :=
  ∀ (m : BranchArrival) (c : StagingCtx) (s : State), FromHeadOffice m .exchClose s → s.exch.state = .staging c →
    field (bodyOf m) 0 4 = c.batch →
    let whole := c.broken = none ∧ field (bodyOf m) 4 2 = c.received ∧ field (bodyOf m) 6 4 = c.sum ∧
      c.staging.length ≤ 8192 - s.sched.entries.length
    ∃ t, Sys2Proof.Machine.exec (.exchClose m) s = .next t ∧ OnlyChanges [.exchange, .pool, .monitor, .management] s t ∧
      (whole → c.staging ≠ [] →
        t.exch.state = .committing ⟨c.batch, c.received, c.refused, 0, c.refusedList, c.staging⟩ ∧ t.exch.lastBatch = s.exch.lastBatch) ∧
      (whole → c.staging = [] → t.exch.state = .idle ∧ t.exch.lastBatch = c.batch) ∧
      (¬whole → t.exch.state = .idle ∧ t.exch.lastBatch = s.exch.lastBatch)

/-- LINK_ECHO of the latest, unanswered probe (R126, R128, R129, R131): the round trip is noted, and the state moves by the runs. -/
def Obligations.LinkEcho : Prop :=
  ∀ (m : BranchArrival) (p : Probe) (s : State), FromHeadOffice m .linkEcho s → s.uplink.probe = some p → p.answered = false →
    p.seq = field (bodyOf m) 0 4 → p.sent = field (bodyOf m) 4 4 →
    let rtt := elapsed s.now p.sent
    let good := s.goodEcho rtt
    ∃ t, Sys2Proof.Machine.exec (.linkEcho m) s = .next t ∧
      OnlyChanges [.till, .journal, .exchange, .uplink, .pool, .guest, .monitor, .management] s t ∧
      t.uplink.lastRtt = some rtt ∧ t.uplink.lostRun = 0 ∧ t.uplink.probe = some { p with answered := true } ∧
      t.uplink.force = s.uplink.force ∧
      t.uplink.state =
        (match s.uplink.state with
         | .up => if good then .up else if s.uplink.slowRun + 1 = 2 then .degraded else .up
         | .degraded => if good && s.uplink.goodRun + 1 == 3 then .up else .degraded
         | .fallback => if s.uplink.force then .fallback else .recovering
         | .recovering => if good && s.uplink.goodRun + 1 == 5 then .up else .recovering)

/-! ### The part's own pumps and timers -/

/-- TAKE_INTAKE_ENTRY of an ask that hits (R28, R29, R31): one PRICE-ANS with the engine's figures; of one that misses (R30, R32,
R33): referred, BUSY, or UNKNOWN with NO-LINK. -/
def Obligations.AskTaken : Prop :=
  (∀ (src : Addr) (tillNumber tag code q : Nat) (k : QtyKind) (rest : List IntakeEntry) (r : ItemRec) (s : State),
      s.till.backlog = [] → s.till.intake = ⟨src, .ask tillNumber tag code k q⟩ :: rest →
      s.till.asks.any (fun p => p.2.src == src && p.2.tag == tag) = false → lookupItem s.items code = some r →
      ∃ t, Sys2Proof.Machine.exec .takeIntakeEntry s = .next t ∧ OnlyChanges [.till, .pool, .monitor] s t ∧
        t = answerAsk src tag code (quoteItem s.labels r k q) { s with till := { s.till with intake := rest } } ∧
        t.till.intake = rest ∧ t.till.asks = s.till.asks ∧ t.till.register = s.till.register) ∧
  (∀ (src : Addr) (tillNumber tag code q : Nat) (k : QtyKind) (rest : List IntakeEntry) (s : State),
      s.till.backlog = [] → s.till.intake = ⟨src, .ask tillNumber tag code k q⟩ :: rest →
      s.till.asks.any (fun p => p.2.src == src && p.2.tag == tag) = false → validCode code = true → lookupItem s.items code = none →
      let taken : State := { s with till := { s.till with intake := rest } }
      let canRefer := (s.uplink.state = .up ∨ s.uplink.state = .degraded) ∧ s.settings.headOffice ≠ 0
      ∃ t, Sys2Proof.Machine.exec .takeIntakeEntry s = .next t ∧ OnlyChanges [.till, .pool, .monitor] s t ∧ t.till.intake = rest ∧
        (¬canRefer → t = answerAsk src tag code ⟨.unknown, 0, 0, ⟨false, false, true, false⟩, .absent, 0, 0⟩ taken) ∧
        (canRefer → freeAsk s.till.asks = none →
          t = answerAsk src tag code ⟨.busy, 0, 0, ⟨false, false, false, false⟩, .absent, 0, 0⟩ taken) ∧
        (∀ n, canRefer → freeAsk s.till.asks = some n →
          n < 256 ∧ Tbl.get s.till.asks n = none ∧ (∀ j, j < n → Tbl.get s.till.asks j ≠ none) ∧
          Tbl.get t.till.asks n = some ⟨src, tag, code, k, q, s.now⟩ ∧
          t.till.generation n = (s.till.generation n + 1) % 256 ∧
          ∀ j, j ≠ n → Tbl.get t.till.asks j = Tbl.get s.till.asks j ∧ t.till.generation j = s.till.generation j))

/-- TAKE_INTAKE_ENTRY of a sale record (R39, R40, R41, R49, R52): a duplicate is answered from the register; a new one is journaled
and registered, or refused when the journal is full. Which of a level's notice and the answer is built first is left open here (log 41). -/
def Obligations.SaleTaken : Prop :=
  ∀ (src : Addr) (n saleSeq : Nat) (body : List Byte) (rest : List IntakeEntry) (s : State),
    s.till.backlog = [] → s.till.intake = ⟨src, .sale n saleSeq body⟩ :: rest →
    ∃ t, Sys2Proof.Machine.exec .takeIntakeEntry s = .next t ∧ OnlyChanges [.till, .journal, .pool, .monitor, .management] s t ∧
      t.till.intake = rest ∧
      (∀ row, Tbl.get s.till.register n = some row → row.saleSeq = saleSeq → t.journal = s.journal ∧
        t.till.register = s.till.register ∧
        t = answerSale src n saleSeq true row.journalSeq { s with till := { s.till with intake := rest } }) ∧
      ((∀ row, Tbl.get s.till.register n = some row → row.saleSeq ≠ saleSeq) →
        (s.journal.count < 16384 →
          t.journal.records = s.journal.records ++ [⟨s.journal.free, n, saleSeq, s.clock.time, body⟩] ∧
          t.journal.free = seqAfter s.journal.free ∧ t.journal.release = s.journal.release ∧ t.journal.next = s.journal.next ∧
          Tbl.get t.till.register n = some ⟨saleSeq, s.journal.free⟩) ∧
        (16384 ≤ s.journal.count → t.journal = s.journal ∧ t.till.register = s.till.register ∧
          t = answerSale src n saleSeq false 0 { s with till := { s.till with intake := rest } }))

/-- ASK_TIMEOUT (R32, R36): an entry as old as the ask timeout is answered UNKNOWN with NO-LINK and freed, its generation kept; a
younger or free one is left alone (log 2). The answer goes behind the waiting ones, or, with the link of P1 down, is discarded
(R161). ACK_TIMEOUT (R57, R58): an ack timer that has run the ack timeout rewinds the upload to the release point; before that
nothing happens (log 2). -/
def Obligations.AskAndAckTimeouts : Prop :=
  (∀ (n : Nat) (s : State), ∃ t, Sys2Proof.Machine.exec (.askTimeout n) s = .next t ∧ OnlyChanges [.till, .pool, .monitor] s t ∧
    (∀ a, Tbl.get s.till.asks n = some a → s.settings.askTimeout * 1000 ≤ elapsed s.now a.sent →
      t.till.asks = Tbl.del s.till.asks n ∧ t.till.generations = s.till.generations ∧ t.till.intake = s.till.intake ∧
      (s.linkIsUp .till = false → t.till.backlog = s.till.backlog) ∧
      (s.till.backlog ≠ [] → s.linkIsUp .till = true → t.till.backlog = s.till.backlog ++ [build s .till a.src .priceAns
        (be 2 a.tag ++ be 6 a.code ++ be 1 3 ++ be 1 4 ++ be 4 0 ++ be 4 0 ++ be 1 0 ++ be 1 0 ++ be 4 0 ++ be 1 0 ++ be 2 0)])) ∧
    (∀ a, Tbl.get s.till.asks n = some a → elapsed s.now a.sent < s.settings.askTimeout * 1000 → t = s) ∧
    (Tbl.get s.till.asks n = none → t = s)) ∧
  (∀ (start : Nat) (s : State), s.journal.ackTimer = some start →
    (s.settings.ackTimeout * 1000 ≤ elapsed s.now start → ∃ t, Sys2Proof.Machine.exec .ackTimeout s = .next t ∧
      OnlyChanges [.journal, .monitor] s t ∧
      t.journal = { s.journal with next := s.journal.release, ackTimer := none, held := none } ∧
      t.mon.counters = s.mon.counters.map (fun c => if c.admits ⟨.ackTimeouts, none, none, none⟩ then c.add 1 else c)) ∧
    (elapsed s.now start < s.settings.ackTimeout * 1000 → Sys2Proof.Machine.exec .ackTimeout s = .next s))

/-- JOURNAL_SEND (R53, R54, R57): the record at next-to-send is built and the marks move; one refused by the pool is held. -/
def Obligations.JournalSend : Prop :=
  ∀ (r : SaleRec) (s : State), s.uplink.state = .up ∨ s.uplink.state = .degraded → s.settings.headOffice ≠ 0 →
    0 < s.journal.heldCount → s.journal.sentCount < 64 → 1000 ≤ s.journal.credit → s.journal.held = none →
    s.journal.records.find? (fun x => x.seq == s.journal.next) = some r →
    let fresh := s.journal.fresh && s.journal.next == s.journal.release
    let m := build s .uplink s.settings.headOffice .journalSend
      (be 4 r.seq ++ be 1 (if fresh then 1 else 0) ++ be 1 r.till ++ be 4 r.saleSeq ++ be 6 r.time ++ r.body)
    ∃ t, Sys2Proof.Machine.exec .journalSend s = .next t ∧ OnlyChanges [.journal, .pool, .monitor] s t ∧
      t.journal.next = seqAfter s.journal.next ∧ t.journal.credit = s.journal.credit - 1000 ∧
      t.journal.release = s.journal.release ∧ t.journal.free = s.journal.free ∧ t.journal.records = s.journal.records ∧
      t.journal.fresh = s.journal.fresh ∧
      t.journal.ackTimer = (if s.journal.sentCount = 0 then some s.now else s.journal.ackTimer) ∧
      (s.linkIsUp .uplink = true → s.pool.free < cellsFor (frameLength m.frame) →
        t.journal.held = some m ∧ t.pool = s.pool ∧ t.mon.counters =
          s.mon.counters.map (fun c => if c.admits ⟨.journalRecords, some 1, none, none⟩ then c.add 1 else c)) ∧
      (s.linkIsUp .uplink = false ∨ cellsFor (frameLength m.frame) ≤ s.pool.free → t.journal.held = none)

/-- PACING_REFILL and BUCKET_REFILL (R55, R173, R175): the refills of one tick, whenever they are taken (log 37). -/
def Obligations.TickRefills : Prop :=
  ∀ s : State,
    let rate := if s.windowIn then s.settings.windowRate else s.settings.trickleRate
    let fill : Nat → Nat → Nat → Nat → Nat × Nat := fun r depth level rem =>
      if depth ≤ level + (r + rem) / 1000 then (depth, 0) else (level + (r + rem) / 1000, (r + rem) % 1000)
    Sys2Proof.Machine.exec .pacingRefill s = .next { s with journal := { s.journal with credit := min 4000 (s.journal.credit + rate) } } ∧
    ∃ t, Sys2Proof.Machine.exec .bucketRefill s = .next t ∧ OnlyChanges [.guest] s t ∧ t.guest.coolOff = s.guest.coolOff ∧
      t.guest.rate = s.guest.rate ∧ t.guest.sinceStep = s.guest.sinceStep ∧
      (t.guest.level, t.guest.rem) =
        (if s.guest.rate = 0 then (s.guest.level, s.guest.rem)
         else fill s.guest.rate s.settings.aggDepth s.guest.level s.guest.rem) ∧
      (∀ k, Tbl.get t.guest.table k = (Tbl.get s.guest.table k).map (fun g => { g with
        level := (fill s.settings.clientRate s.settings.clientDepth g.level g.rem).1,
        rem := (fill s.settings.clientRate s.settings.clientDepth g.level g.rem).2 }))

/-- PUSH_TIMEOUT (R78, R80, R81): the update returns with one more attempt used, or, at the retry limit, the label is given up:
UNREACHABLE, with a notice. Of a tag not in flight, or before the timeout, nothing happens, nor a dispatch attempt (R74, log 2). -/
def Obligations.PushTimeout : Prop :=
  (∀ (tag : Nat) (s : State), (∀ e f, s.flightOf tag = some (e, f) → elapsed s.now f.sent < s.settings.pushTimeout * 1000) →
    Sys2Proof.Machine.exec (.pushTimeout tag) s = .next s) ∧
  ∀ (tag : Nat) (e : LabelEntry) (f : Flight) (s : State), s.flightOf tag = some (e, f) →
    s.settings.pushTimeout * 1000 ≤ elapsed s.now f.sent → (s.label e.label).radio ≠ 0 →
    let attempts := if f.superseded then 0 else e.attempts + 1
    ∃ t, Sys2Proof.Machine.exec (.pushTimeout tag) s = .next t ∧
      OnlyChanges [.labels, .dispatcher, .pool, .monitor, .management] s t ∧
      (attempts < s.settings.retryLimit → (∃ x ∈ t.disp.queue, x.label = e.label ∧ x.attempts = attempts) ∧
        t.mgmt = s.mgmt ∧ (t.label e.label).reachable = (s.label e.label).reachable) ∧
      (s.settings.retryLimit ≤ attempts → (t.label e.label).reachable = false ∧
        t.mgmt.nextNotice = (if s.mgmt.nextNotice = 65535 then 1 else s.mgmt.nextNotice + 1) ∧
        ∃ x ∈ t.mgmt.notices, x.number = s.mgmt.nextNotice ∧ x.body = .labelGaveUp e.label (s.label e.label).radio
          (s.label e.label).base (s.label e.label).bound (some .timeout)) ∧
      ∀ n, (t.label n).display = (s.label n).display ∧ (t.label n).radio = (s.label n).radio ∧
        (t.label n).bound = (s.label n).bound ∧ (n ≠ e.label → (t.label n).reachable = (s.label n).reachable)

/-- CLOCK_SECOND (R85, R87, R88): the next second, midnight included, and the window state it gives. It acts whenever it is taken,
whatever the phase (log 37). -/
def Obligations.ClockSecond : Prop :=
  ∀ s : State, s.clock.isSet = true → ¬(s.clock.day = 65535 ∧ s.clock.second = 86399) →
    ∃ t, Sys2Proof.Machine.exec .clockSecond s = .next t ∧
      OnlyChanges [.clock, .window, .exchange, .guest, .pool, .monitor, .management] s t ∧
      t.clock.isSet = true ∧ t.clock.phase = 0 ∧
      (s.clock.second = 86399 → t.clock.day = s.clock.day + 1 ∧ t.clock.second = 0) ∧
      (s.clock.second ≠ 86399 → t.clock.day = s.clock.day ∧ t.clock.second = s.clock.second + 1) ∧
      (t.windowIn = true ↔
        (s.settings.openSecond < s.settings.closeSecond ∧ s.settings.openSecond ≤ t.clock.second ∧ t.clock.second < s.settings.closeSecond) ∨
        (s.settings.closeSecond < s.settings.openSecond ∧ (s.settings.openSecond ≤ t.clock.second ∨ t.clock.second < s.settings.closeSecond))) ∧
      (∀ c, s.exch.state = .staging c → s.windowIn = true → t.windowIn = false → s.settings.anyTime = false → t.exch.state = .idle)

/-- ACTIVATION (R91 to R93): the due head leaves the list, is counted, and its one request is made. A SET writes the merged fields, or
creates the item in the lowest free way; a DELETE removes the item; a BIND puts the label at the end of the item's list and takes it
from the item it was bound to; an UNBIND takes it out of the list. What finds nothing to do changes nothing more. Each failure changes
nothing more either, but that it raises its ACTIVATION-FAILED: BUCKET-FULL, BAD-FIELD, NO-ITEM, LABELS-FULL. -/
def Obligations.Activation : Prop :=
  ∀ (e : PendingEntry) (rest : List PendingEntry) (s : State), s.sched.entries = e :: rest → s.clock.isSet = true →
    e.change.time ≤ s.clock.day * 86400 + s.clock.second →
    let code := e.change.code
    let item := lookupItem s.items code
    let counted := count ⟨.activations, none, none, none⟩ { s with sched := { s.sched with entries := rest } }
    ∃ t, Sys2Proof.Machine.exec .activation s = .next t ∧
      OnlyChanges [.items, .labels, .dispatcher, .schedule, .pool, .monitor, .management] s t ∧
      t.sched.entries = rest ∧ t.sched.commitCounter = s.sched.commitCounter ∧
      (∀ p slot r, e.change.action = .set p → findItem s.items code = some (slot, r) →
        (r.fields.apply p).valid = true → t.items = Tbl.put s.items slot (r.write (r.fields.apply p)) ∧ t.mgmt = s.mgmt) ∧
      (∀ p w, e.change.action = .set p → validCode code = true → item = none →
        (creationDefaults.apply p).valid = true → freeWay s.items code = some w →
        t.items = Tbl.put s.items (slotOf code w) ⟨code, creationDefaults.apply p, 1, []⟩ ∧ t.mgmt = s.mgmt) ∧
      (∀ slot r, e.change.action = .delete → findItem s.items code = some (slot, r) →
        t.items = Tbl.del s.items slot ∧ (∀ n ∈ r.labels, (t.label n).bound = none) ∧ t.mgmt = s.mgmt) ∧
      (∀ l r, e.change.action = .bind l → item = some r → l ∉ r.labels → r.labels.length < 4 →
        lookupItem t.items code = some { r with labels := r.labels ++ [l] } ∧ (t.label l).bound = some code ∧ t.mgmt = s.mgmt ∧
        (∀ other o, (s.label l).bound = some other → other ≠ code → lookupItem s.items other = some o →
          lookupItem t.items other = some { o with labels := o.labels.filter (fun m => m ≠ l) }) ∧
        ∀ other, other ≠ code → (s.label l).bound ≠ some other → lookupItem t.items other = lookupItem s.items other) ∧
      (∀ l r, e.change.action = .unbind l → item = some r → l ∈ r.labels →
        lookupItem t.items code = some { r with labels := r.labels.filter (fun m => m ≠ l) } ∧ (t.label l).bound = none ∧
        t.mgmt = s.mgmt ∧ ∀ other, other ≠ code → lookupItem t.items other = lookupItem s.items other) ∧
      (∀ l, (e.change.action = .delete ∧ item = none) ∨ (e.change.action = .unbind l ∧ ∀ r, item = some r → l ∉ r.labels) ∨
        (e.change.action = .bind l ∧ ∃ r, item = some r ∧ l ∈ r.labels) → t = counted) ∧
      (let fails := fun (reason : ActFailReason) (label : Option Nat) =>
         t = raiseNotice (.activationFailed code e.change.action.kind e.change.time e.batch e.change.seq reason label) counted ∧
           t.items = s.items
       (∀ p, e.change.action = .set p → validCode code = true → item = none → (creationDefaults.apply p).valid = true →
         freeWay s.items code = none → fails .bucketFull none) ∧
       (∀ p, e.change.action = .set p →
         validCode code = false ∨ (((item.map (·.fields)).getD creationDefaults).apply p).valid = false → fails .badField none) ∧
       (∀ l, e.change.action = .bind l → item = none → fails .noItem (some l)) ∧
       (∀ l r, e.change.action = .bind l → item = some r → l ∉ r.labels → 4 ≤ r.labels.length → fails .labelsFull (some l))) ∧
      (∀ l, e.change.action = .bind l → item = none →
        ∃ x ∈ t.mgmt.notices, x.number = s.mgmt.nextNotice ∧
          x.body = .activationFailed code .bind e.change.time e.batch e.change.seq .noItem (some l))

/-- QUIET_TIMEOUT (R107, R108, R114): after 60 s without a record the open batch is discarded with one notice; before that nothing
happens (log 2). COMMIT_CHANGE (R90,
R111, R112): the head of the commit queue is put in, in place of an entry alike or in its place in time; the last one ends the
commit. -/
def Obligations.QuietTimeoutAndCommitChange : Prop :=
  (∀ (c : StagingCtx) (s : State), s.exch.state = .staging c →
      (60000 ≤ elapsed s.now c.quiet → ∃ t, Sys2Proof.Machine.exec .quietTimeout s = .next t ∧
        OnlyChanges [.exchange, .pool, .monitor, .management] s t ∧ t.exch.state = .idle ∧ t.exch.lastBatch = s.exch.lastBatch ∧
        ∃ x ∈ t.mgmt.notices, x.number = s.mgmt.nextNotice ∧
          x.body = .batchResult c.batch (some .quiet) c.received 0 c.refused s.exch.lastBatch) ∧
      (elapsed s.now c.quiet < 60000 → Sys2Proof.Machine.exec .quietTimeout s = .next s)) ∧
  (∀ (k : CommitCtx) (c : Change) (rest : List Change) (s : State), s.exch.state = .committing k → k.queue = c :: rest →
      let present := ∃ x ∈ s.sched.entries, x.change.alike c = true
      ∃ t, Sys2Proof.Machine.exec .commitChange s = .next t ∧
        OnlyChanges [.schedule, .exchange, .pool, .monitor, .management] s t ∧
        (present → t.sched.entries = s.sched.entries.map (fun x => if x.change.alike c then { x with batch := k.batch, change := c } else x) ∧
          t.sched.commitCounter = s.sched.commitCounter) ∧
        (¬present → s.sched.entries.length < 8192 → t.sched.commitCounter = s.sched.commitCounter + 1 ∧
          t.sched.entries = s.sched.entries.takeWhile (fun x => x.change.time ≤ c.time) ++
            ⟨c, k.batch, s.sched.commitCounter⟩ :: s.sched.entries.dropWhile (fun x => x.change.time ≤ c.time)) ∧
        (¬present → 8192 ≤ s.sched.entries.length → t.sched = s.sched) ∧
        (rest = [] → t.exch.state = .idle ∧ t.exch.lastBatch = k.batch) ∧
        (rest ≠ [] → ∃ k', t.exch.state = .committing k' ∧ k'.queue = rest ∧ k'.batch = k.batch ∧
          t.exch.lastBatch = s.exch.lastBatch ∧ t.mgmt = s.mgmt ∧
          (present ∨ s.sched.entries.length < 8192 → k'.committed = k.committed + 1 ∧ k'.refused = k.refused) ∧
          (¬present → 8192 ≤ s.sched.entries.length → k'.committed = k.committed ∧ k'.refused = k.refused + 1)))

/-- PROBE_TIMER (R124, R125, R129 to R131): at the interval an unanswered probe is lost, with three lost in a row, or one in
RECOVERING, leading to FALLBACK; then the next probe is built. -/
def Obligations.ProbeTimer : Prop :=
  ∀ (start : Nat) (p : Probe) (s : State), s.uplink.timer = some start → s.settings.probeInterval ≤ elapsed s.now start →
    s.uplink.probe = some p →
    let lost := p.answered = false
    ∃ t, Sys2Proof.Machine.exec .probeTimer s = .next t ∧
      OnlyChanges [.till, .journal, .exchange, .uplink, .pool, .guest, .monitor, .management] s t ∧
      t.uplink.probe = some ⟨s.uplink.seq, s.now, false⟩ ∧ t.uplink.timer = some s.now ∧
      t.uplink.seq = (if s.uplink.seq = 4294967295 then 1 else s.uplink.seq + 1) ∧
      (¬lost → t.uplink.state = s.uplink.state ∧ t.uplink.lostRun = s.uplink.lostRun) ∧
      (lost → t.uplink.goodRun = 0 ∧ t.uplink.slowRun = 0) ∧
      (lost → s.uplink.state = .fallback → t.uplink.state = .fallback ∧ t.uplink.lostRun = min 3 (s.uplink.lostRun + 1)) ∧
      (lost → s.uplink.state = .recovering → t.uplink.state = .fallback) ∧
      (lost → s.uplink.state = .up ∨ s.uplink.state = .degraded →
        t.uplink.state = if 2 ≤ s.uplink.lostRun then .fallback else s.uplink.state)

/-- AGEING_STEP (R144): every entry ages by a second, up to 65,535; a LEARNED entry past the age limit goes, a guest with its record.
GUEST_SECOND_STEP (R170, R171): leases and cool-offs count down; an expired guest leaves both tables and joins the cool-off list.
Both act whenever they are taken (log 37). -/
def Obligations.SecondSteps : Prop :=
  (∀ s : State, GuestsHold s → ∃ t, Sys2Proof.Machine.exec .ageingStep s = .next t ∧ OnlyChanges [.stations, .guest] s t ∧
    t.guest.coolOff = s.guest.coolOff ∧ t.guest.level = s.guest.level ∧ t.guest.rem = s.guest.rem ∧ t.guest.rate = s.guest.rate ∧
    t.guest.sinceStep = s.guest.sinceStep ∧ t.stations.sinceStep = s.stations.sinceStep ∧
    (∀ k, Tbl.get t.stations.table k = (Tbl.get s.stations.table k).bind (fun e =>
      if e.loaded = false ∧ s.settings.ageLimit < min 65535 (e.age + 1) then none
      else some { e with age := min 65535 (e.age + 1) })) ∧
    ∀ k, Tbl.get t.guest.table k =
      if (Tbl.get t.stations.table k).isSome then Tbl.get s.guest.table k else none) ∧
  (∀ s : State, GuestsHold s → ∃ t, Sys2Proof.Machine.exec .guestSecondStep s = .next t ∧ OnlyChanges [.stations, .guest] s t ∧
    t.guest.level = s.guest.level ∧ t.guest.rem = s.guest.rem ∧ t.guest.rate = s.guest.rate ∧
    t.guest.sinceStep = s.guest.sinceStep ∧ t.stations.sinceStep = s.stations.sinceStep ∧
    (∀ k g, Tbl.get s.guest.table k = some g → g.lease ≤ 1 →
      Tbl.get t.guest.table k = none ∧ Tbl.get t.stations.table k = none) ∧
    (∀ k g, Tbl.get s.guest.table k = some g → 1 < g.lease →
      Tbl.get t.guest.table k = some { g with lease := g.lease - 1 } ∧
      Tbl.get t.stations.table k = Tbl.get s.stations.table k) ∧
    (∀ k, Tbl.get s.guest.table k = none → Tbl.get t.guest.table k = none ∧
      Tbl.get t.stations.table k = Tbl.get s.stations.table k) ∧
    (s.guest.expiring = [] → t.guest.coolOff =
      (s.guest.coolOff.map (fun c => (c.1, c.2 - 1))).filter (fun c => c.2 != 0)) ∧
    (∀ a, s.guest.expiring = [a] → s.guest.coolOff.length < 64 → t.guest.coolOff =
      (s.guest.coolOff.map (fun c => (c.1, c.2 - 1))).filter (fun c => c.2 != 0) ++ [(a, s.settings.coolOff)]))

/-- HELD_MESSAGE_REOFFER (R161): each generator offers again what it holds, those of the order first; nothing is given back to the pool
by it. A generator with a list (R45, R120, R191) sends its first messages in turn until one has too few cells; one with a single
message (R53, R75, R124) sends it when its cells suffice and holds it on otherwise; a message for a port whose link is down is done
with. The command acts with or without the mark that cells were returned, and clears it (log 23). -/
def Obligations.HeldMessagesOffered : Prop :=
  let cells : Msg → Nat := fun m => cellsFor (frameLength m.frame)
  let passes : Msg → State → Prop := fun m u => u.linkIsUp m.port = false ∨ cells m ≤ u.pool.free
  let inTurn : List Msg → List Msg → State → State → Prop := fun before after u v =>
    ∃ sent, before = sent ++ after ∧ (∀ m, after.head? = some m → ¬passes m v) ∧
      v.pool.free + ((sent.filter (fun m => u.linkIsUp m.port)).map cells).sum = u.pool.free
  (∀ (order : List Generator) (s : State), ∃ t, Sys2Proof.Machine.exec (.heldMessageReoffer order) s = .next t ∧
    OnlyChanges [.labels, .dispatcher, .till, .journal, .exchange, .uplink, .pool, .monitor, .management] s t ∧
    t.pool.reoffer = false ∧ t.pool.free ≤ s.pool.free ∧ (∀ p : Port, t.linkIsUp p = s.linkIsUp p) ∧
    t = (order ++ [Generator.tillService, .journalUpload, .labelDispatcher, .uplinkMonitor, .exchangeUnit, .managementUnit].filter
      (fun g => !order.contains g)).foldl reofferFor { s with pool := { s.pool with reoffer := false } } ∧
    (∀ m, s.journal.held = some m → s.till.backlog = [] → s.disp.held = none → s.uplink.held = none → s.exch.outbox = [] →
      s.mgmt.outbox = [] → s.linkIsUp m.port = true →
      (cells m ≤ s.pool.free → t.journal.held = none ∧ t.pool.free + cells m = s.pool.free) ∧
      (s.pool.free < cells m → t.journal.held = some m ∧ t.pool.free = s.pool.free))) ∧
  (∀ u : State,
    inTurn u.till.backlog (reofferFor u .tillService).till.backlog u (reofferFor u .tillService) ∧
    inTurn u.exch.outbox (reofferFor u .exchangeUnit).exch.outbox u (reofferFor u .exchangeUnit) ∧
    inTurn (u.mgmt.outbox.map (·.msg)) ((reofferFor u .managementUnit).mgmt.outbox.map (·.msg)) u (reofferFor u .managementUnit) ∧
    (u.journal.held = none → reofferFor u .journalUpload = u) ∧
    (∀ m, u.journal.held = some m → (passes m u → (reofferFor u .journalUpload).journal = { u.journal with held := none }) ∧
      (¬passes m u → reofferFor u .journalUpload = u)) ∧
    (u.uplink.held = none → reofferFor u .uplinkMonitor = u) ∧
    (∀ m, u.uplink.held = some m → (passes m u → (reofferFor u .uplinkMonitor).uplink = { u.uplink with held := none }) ∧
      (¬passes m u → reofferFor u .uplinkMonitor = u)) ∧
    (u.disp.held = none → reofferFor u .labelDispatcher = u) ∧
    (∀ x, u.disp.held = some x →
      (passes x.2 u → reofferFor u .labelDispatcher =
        dispatch { (offer .labelDispatcher x.2 u).2 with disp := { u.disp with held := none } }) ∧
      (¬passes x.2 u → reofferFor u .labelDispatcher = u)))

/-- OCCUPANCY_SAMPLE (R184, R185, R187): the occupancy counters act on the samples of the instant; with no snapshot due nothing else
happens, with one due the counters and samples are copied under the next number, and every COUNTER-SNAPSHOT that waits is answered
DONE with that number (several answers may then stand in the outbox: log 31). That the number is sent in two bytes is the model's
choice, chapter 13 giving that answer no layout (log 9). The command is the sample instant (log 37). -/
def Obligations.OccupancySample : Prop :=
  ∀ s : State, ∃ t, Sys2Proof.Machine.exec .occupancySample s = .next t ∧ OnlyChanges [.pool, .monitor, .management] s t ∧
    (s.mon.due = false → OnlyChanges [.monitor] s t ∧ t.mon.hold = s.mon.hold ∧ t.mon.counters = s.mon.counters.map (fun c =>
      match c.source with
      | .occupancy o .plain => c.add (s.occupancy o)
      | .occupancy o (.level th inv) => if (s.occupancy o < th) = (inv = true) then c.add 1 else c
      | .occupancy o (.edge th inv) =>
        { (if (s.occupancy o < th) = (inv = true) ∧ c.lastMet = false then c.add 1 else c) with
          lastMet := decide ((s.occupancy o < th) = (inv = true)) }
      | _ => c)) ∧
    (s.mon.due = true → t.mon.due = false ∧ t.mon.waiting = [] ∧
      t.mon.hold.number = (if s.mon.hold.number = 65535 then 1 else s.mon.hold.number + 1) ∧ t.mon.hold.time = s.now ∧
      t.mon.hold.occupancies = [s.till.asks.length, s.disp.queue.length, s.journal.count, s.sched.entries.length,
        8192 - s.pool.free, s.pool.guestCells] ∧
      t.mon.hold.values = (s.mon.counters.map (Counter.sample s)).map (fun c => (c.value, c.wrapped)) ∧
      let number := if s.mon.hold.number = 65535 then 1 else s.mon.hold.number + 1
      let copied : State := { s with mon := ⟨s.mon.counters.map (Counter.sample s), t.mon.hold, false, []⟩ }
      t = s.mon.waiting.foldl (fun v r => answer r .done (be 2 number) v) copied)

/-- ALERT_PULSE_END and PORT_LAMP_EXPIRY (R197, R198): a pulse that has lasted its width is followed by a gap as long; a port's
lamp goes dark 30 ms after its last frame. -/
def Obligations.PulseAndLampEnd : Prop :=
  ∀ (s : State),
    (∀ start w, s.mgmt.alert = .pulsing start w → w ≤ elapsed s.now start →
      Sys2Proof.Machine.exec .alertPulseEnd s = .next { s with mgmt := { s.mgmt with alert := .gap s.now w } }) ∧
    (∀ start w, s.mgmt.alert = .gap start w → w ≤ elapsed s.now start →
      ∃ t, Sys2Proof.Machine.exec .alertPulseEnd s = .next t ∧ OnlyChanges [.management] s t ∧
        t.mgmt.alert = (if s.settings.alertMode = .pulse ∧ 0 < s.mgmt.owed then .pulsing s.now s.settings.pulseWidth else .idle) ∧
        t.mgmt.owed = (if s.settings.alertMode = .pulse ∧ 0 < s.mgmt.owed then s.mgmt.owed - 1 else s.mgmt.owed) ∧
        t.mgmt.notices = s.mgmt.notices) ∧
    (∀ (p : Port) start, (s.port p).activity = some start → 30 ≤ elapsed s.now start →
      ∃ t, Sys2Proof.Machine.exec (.portLampExpiry p) s = .next t ∧ OnlyChanges [.pool] s t ∧ t.lit (.port p) = false ∧
        (∀ q : Port, q ≠ p → t.port q = s.port q) ∧ t.port p = { s.port p with activity := none } ∧ t.pool.free = s.pool.free)

/-! ### Management requests -/

/-- Taking the head request (R190, R196): it leaves the queue; the first one names the notice destination, and then, with no notice
address set, no notice is left unsent. Its answer (R191): one MGMT-ANS with tag, code, result and data on the arrival port,
offered when the outbox is empty, behind the waiting messages otherwise, discarded when the port's link is down (R161). -/
def Obligations.RequestTakenAndAnswered : Prop :=
  (∀ (r : Request) (s : State),
      let t := takeRequest r s
      OnlyChanges [.pool, .monitor, .management] s t ∧ t.mgmt.requests = s.mgmt.requests.drop 1 ∧
        t.mgmt.overflow = s.mgmt.overflow ∧ t.mgmt.nextNotice = s.mgmt.nextNotice ∧
        t.mgmt.notices.map (·.number) = s.mgmt.notices.map (·.number) ∧
        (s.mgmt.firstSender = none → t.mgmt.firstSender = some (r.src, r.port)) ∧
        (s.mgmt.firstSender ≠ none → t = { s with mgmt := { s.mgmt with requests := s.mgmt.requests.drop 1 } }) ∧
        (s.mgmt.firstSender = none → s.settings.noticeAddr = 0 → ∀ n ∈ t.mgmt.notices, n.sent = true)) ∧
  (∀ (r : Request) (result : MgmtResult) (data : List Byte) (s : State),
      let t := answer r result data s
      let item : OutItem := ⟨⟨r.port, r.src, s.settings.stationAddr, s.settings.branchType, .mgmtAns,
        be 2 r.tag ++ be 1 r.code ++ be 1 result.code ++ data⟩, none⟩
      OnlyChanges [.pool, .monitor, .management] s t ∧ t.mgmt = { s.mgmt with outbox := t.mgmt.outbox } ∧
        (s.mgmt.outbox ≠ [] → s.linkIsUp r.port = true → t = { s with mgmt := { s.mgmt with outbox := s.mgmt.outbox ++ [item] } }) ∧
        (s.mgmt.outbox = [] → s.linkIsUp r.port = true → s.pool.free < cellsFor (frameLength item.msg.frame) →
          t.mgmt.outbox = [item] ∧ t.pool = s.pool) ∧
        (s.mgmt.outbox = [] → s.linkIsUp r.port = true → cellsFor (frameLength item.msg.frame) ≤ s.pool.free →
          t.mgmt.outbox = [] ∧ t.pool.free + cellsFor (frameLength item.msg.frame) = s.pool.free ∧
          ∃ f ∈ (t.port r.port).frames, f.frame = item.msg.frame ∧ f.cls = .urgent) ∧
        (s.linkIsUp r.port = false → t = count ⟨.framesDiscarded, some 5, some r.port, some .urgent⟩ s))

/-- A notice raised (R195, R196, R197): numbered, stamped, at the tail of the queue, the oldest of 32 dropped; sent at once exactly
when there is a destination. -/
def Obligations.NoticeRaised : Prop :=
  ∀ (b : NoticeBody) (s : State),
    let t := raiseNotice b s
    let full := 32 ≤ s.mgmt.notices.length
    OnlyChanges [.pool, .monitor, .management] s t ∧
      t.mgmt.nextNotice = (if s.mgmt.nextNotice = 65535 then 1 else s.mgmt.nextNotice + 1) ∧
      t.mgmt.notices.map (·.number) =
        (if full then s.mgmt.notices.drop 1 else s.mgmt.notices).map (·.number) ++ [s.mgmt.nextNotice] ∧
      t.mgmt.notices.getLast? =
        some ⟨s.mgmt.nextNotice, b, s.clock.time, s.now, decide full, s.destination.isSome⟩ ∧
      (s.settings.alertMode = .level → t.mgmt.owed = s.mgmt.owed ∧ t.alertAsserted = true) ∧
      (s.settings.alertMode = .pulse → s.mgmt.alert = .idle → s.mgmt.owed = 0 →
        t.mgmt.alert = .pulsing s.now s.settings.pulseWidth ∧ t.mgmt.owed = 0 ∧ t.alertAsserted = true) ∧
      (s.settings.alertMode = .pulse → s.mgmt.alert ≠ .idle →
        t.mgmt.alert = s.mgmt.alert ∧ t.mgmt.owed = min 32 (s.mgmt.owed + 1))

/-- The reads (R82, R97, R145, R188, R192, R193): each answers with the data named and changes nothing else. -/
def Obligations.ReadsAnswer : Prop :=
  ∀ (s : State) (r : Request),
    let u := takeRequest r s
    let b := r.fields
    (Takes s r 0x01 → 6 ≤ b.length → ∃ t, Sys2Proof.Machine.exec .itemRead s = .next t ∧ OnlyChanges [.pool, .monitor, .management] s t ∧
      (validCode (field b 0 6) = false → t = answer r .badField [] u) ∧
      (validCode (field b 0 6) = true → lookupItem s.items (field b 0 6) = none → t = answer r .notFound [] u) ∧
      (∀ i, lookupItem s.items (field b 0 6) = some i → t = answer r .done (itemBytes i) u)) ∧
    (Takes s r 0x10 → 2 ≤ b.length → ∃ t, Sys2Proof.Machine.exec .labelRead s = .next t ∧ OnlyChanges [.pool, .monitor, .management] s t ∧
      (32767 < field b 0 2 → t = answer r .badField [] u) ∧
      (field b 0 2 ≤ 32767 → t = answer r .done (labelBytes (field b 0 2) s) u)) ∧
    (Takes s r 0x20 → 6 ≤ b.length → ∃ t, Sys2Proof.Machine.exec .stationRead s = .next t ∧ OnlyChanges [.pool, .monitor, .management] s t ∧
      (Tbl.get s.stations.table (field b 0 6) = none → t = answer r .notFound [] u) ∧
      (∀ e, Tbl.get s.stations.table (field b 0 6) = some e → t = answer r .done (stationBytes e s) u)) ∧
    (Takes s r 0x30 → 2 ≤ b.length → ∃ t, Sys2Proof.Machine.exec .pendingRead s = .next t ∧ OnlyChanges [.pool, .monitor, .management] s t ∧
      t = answer r .done (be 2 s.sched.entries.length ++ ((s.sched.entries.drop (field b 0 2)).take 16).flatMap pendingBytes) u) ∧
    (Takes s r 0x40 → 1 ≤ b.length → ∃ t, Sys2Proof.Machine.exec .settingRead s = .next t ∧ OnlyChanges [.pool, .monitor, .management] s t ∧
      (∀ v, s.settings.value (field b 0 1) = some v → t = answer r .done (be 6 v) u) ∧
      (s.settings.value (field b 0 1) = none → t = answer r .badField [] u)) ∧
    (Takes s r 0x52 → ∃ t, Sys2Proof.Machine.exec .counterRead s = .next t ∧ OnlyChanges [.pool, .monitor, .management] s t ∧
      t.mon.hold = s.mon.hold ∧ t.mon.due = s.mon.due ∧
      t = answer r .done (holdBytes s.mon.hold ++ s.mon.counters.flatMap (fun c => sourceBytes c.source)) u) ∧
    (Takes s r 0x60 → 1 ≤ b.length → ∃ t, Sys2Proof.Machine.exec .stateRead s = .next t ∧ OnlyChanges [.pool, .monitor, .management] s t ∧
      (∀ d, sectionBytes (field b 0 1) u = some d → t = answer r .done d u) ∧
      (field b 0 1 = 0 ∨ 10 < field b 0 1 → t = answer r .badField [] u))

/-- ITEM_WRITE and ITEM_DELETE (R5, R7, R10, R12): the record the table holds afterwards. A write or delete that owes no label an update
leaves the label table and the dispatcher alone, with no dispatch attempt (R11, R12, R74). -/
def Obligations.ItemsWritten : Prop :=
  ∀ (s : State) (r : Request),
    let code := field r.fields 0 6
    let frame : State → Prop := OnlyChanges [.items, .labels, .dispatcher, .pool, .monitor, .management] s
    (∀ f, Takes s r 0x02 → 24 ≤ r.fields.length → itemFieldsOf r.fields 6 = some f →
      ∃ t, Sys2Proof.Machine.exec .itemWrite s = .next t ∧ frame t ∧
        (validCode code = true → f.valid = true → ∀ old, lookupItem s.items code = some old →
          lookupItem t.items code = some ⟨old.code, f,
            if f.mode = old.fields.mode ∧ f.base = old.fields.base ∧ f.promo = old.fields.promo ∧
              f.packQuantity = old.fields.packQuantity ∧ f.measure = old.fields.measure ∧ f.refQuantity = old.fields.refQuantity
            then old.version else min 65535 (old.version + 1), old.labels⟩) ∧
        ((∀ old, lookupItem s.items code = some old → sameOnLabels old.fields f = true ∨ old.labels = []) →
          t.labels = s.labels ∧ t.disp = s.disp) ∧
        (validCode code = true → f.valid = true → lookupItem s.items code = none → freeWay s.items code ≠ none →
          lookupItem t.items code = some ⟨code, f, 1, []⟩) ∧
        (validCode code = false ∨ f.valid = false ∨ lookupItem s.items code = none ∧ freeWay s.items code = none →
          t.items = s.items)) ∧
    (Takes s r 0x03 → 6 ≤ r.fields.length → ∃ t, Sys2Proof.Machine.exec .itemDelete s = .next t ∧ frame t ∧
      (∀ slot old, findItem s.items code = some (slot, old) →
        t.items = Tbl.del s.items slot ∧ (∀ n ∈ old.labels, (t.label n).bound = none) ∧
        (old.labels = [] → t.labels = s.labels ∧ t.disp = s.disp)) ∧
      (findItem s.items code = none → t.items = s.items ∧ t.labels = s.labels ∧ t.disp = s.disp))

/-- LABEL_WRITE and LABEL_REPUSH (R71 to R74): what a valid write leaves in the label's record while the bindings hold, what a refused
one leaves, and the reach a repush gives. A write that keeps the binding and owes no update tries no dispatch, unless it changes the
base station of a label with a WAITING entry: with identity 0 alone a WAITING entry stays, and one in flight is superseded. -/
def Obligations.LabelsWritten : Prop :=
  ∀ (s : State) (r : Request),
    let n := field r.fields 0 2
    let radio := field r.fields 2 3
    (∀ bound, BindingsHold s → Takes s r 0x11 → 13 ≤ r.fields.length → boundOf r.fields = some bound →
      ∃ t, Sys2Proof.Machine.exec .labelWrite s = .next t ∧
        OnlyChanges [.items, .labels, .dispatcher, .pool, .monitor, .management] s t ∧
        (n ≤ 32767 → field r.fields 5 1 ≤ 7 → radioTaken n radio s = false → (rebind n bound s).1 = .done →
          (t.label n).radio = radio ∧ (t.label n).base = field r.fields 5 1 ∧ (t.label n).bound = bound ∧
          (radio ≠ (s.label n).radio → (t.label n).display = .neverShown ∧ (t.label n).reachable = false) ∧
          (radio = (s.label n).radio → (t.label n).reachable = (s.label n).reachable) ∧
          (radio = (s.label n).radio → bound = (s.label n).bound → (t.label n).display = (s.label n).display)) ∧
        (n ≤ 32767 → field r.fields 5 1 ≤ 7 → radioTaken n radio s = false → bound = (s.label n).bound →
          radio = 0 ∨ radio = (s.label n).radio →
          let waits := ∃ e ∈ s.disp.queue, e.label = n ∧ e.flight = none
          let base := field r.fields 5 1
          let superseded : LabelEntry → LabelEntry := fun e =>
            if e.label = n ∧ radio ≠ (s.label n).radio then { e with flight := e.flight.map (fun f => { f with superseded := true }) } else e
          (base = (s.label n).base ∨ ¬waits →
            t.disp = { s.disp with queue := s.disp.queue.map superseded } ∧ ∀ k, k ≠ n → t.label k = s.label k) ∧
          (base ≠ (s.label n).base → radio = (s.label n).radio → waits →
            t = answer r .done [] (dispatch (setLabel n { s.label n with base := base } (takeRequest r s))))) ∧
        (32767 < n ∨ 7 < field r.fields 5 1 ∨ radioTaken n radio s = true ∨ (rebind n bound s).1 ≠ .done →
          t.items = s.items ∧ t.labels = s.labels ∧ t.disp = s.disp)) ∧
    (Takes s r 0x12 → 2 ≤ r.fields.length → ∃ t, Sys2Proof.Machine.exec .labelRepush s = .next t ∧
      OnlyChanges [.labels, .dispatcher, .pool, .monitor, .management] s t ∧
      (n ≤ 32767 → (s.label n).radio ≠ 0 → (t.label n).reachable = true ∧ (t.label n).display = (s.label n).display ∧
        ((t.label n).overflow = true ∨ ∃ e ∈ t.disp.queue, e.label = n)) ∧
      (32767 < n → t = answer r .badField [] (takeRequest r s)) ∧
      (n ≤ 32767 → (s.label n).radio = 0 → t = answer r .notFound [] (takeRequest r s)))

/-- STATION_WRITE and STATION_DELETE (R145): a LOADED entry of age 0 with the fields carried, in the place of a guest's entry and
record without cool-off, and its refusals, class GUEST-CLIENT among them; an entry removed. -/
def Obligations.StationsWritten : Prop :=
  ∀ (s : State) (r : Request),
    let k := field r.fields 0 6
    let frame : State → Prop := OnlyChanges [.labels, .dispatcher, .pool, .stations, .guest, .monitor, .management] s
    (Takes s r 0x21 → 9 ≤ r.fields.length → ∃ t, Sys2Proof.Machine.exec .stationWrite s = .next t ∧ frame t ∧
      (∀ e, stationOf r.fields s = some e →
        (e.addr = addrField r.fields 0 ∧ e.loaded = true ∧ e.age = 0 ∧ e.misplaced = false ∧ e.cls ≠ .guestClient ∧
          segIndex e.seg = field r.fields 6 1 ∧ e.cls.code = field r.fields 7 1 ∧ e.cls.number = field r.fields 8 1 ∧
          (e.cls = .tillStation → e.seg = .till) ∧ (e.cls.isBase = true → e.seg = .label ∧ e.cls.number ≤ 7)) ∧
        (∀ old, Tbl.get s.stations.table e.addr.toNat = some old → old.addr = e.addr →
          t.guest = { s.guest with
            table := if old.cls = .guestClient then Tbl.del s.guest.table e.addr.toNat else s.guest.table }) ∧
        (Tbl.get s.stations.table e.addr.toNat = none → t.guest = s.guest) ∧
        (Tbl.get s.stations.table e.addr.toNat ≠ none ∨ s.stations.table.length < 2048 →
          Tbl.get t.stations.table e.addr.toNat = some e) ∧
        (Tbl.get s.stations.table e.addr.toNat = none → 2048 ≤ s.stations.table.length →
          t = answer r .full [] (takeRequest r s))) ∧
      (stationOf r.fields s = none → t = answer r .badField [] (takeRequest r s)) ∧
      (isGroup (addrField r.fields 0) = true ∨ addrField r.fields 0 = 0 ∨ addrField r.fields 0 = s.settings.stationAddr ∨
        field r.fields 7 1 = 3 → stationOf r.fields s = none)) ∧
    (Takes s r 0x22 → 6 ≤ r.fields.length → ∃ t, Sys2Proof.Machine.exec .stationDelete s = .next t ∧ frame t ∧
      (∀ e, Tbl.get s.stations.table k = some e → e.addr.toNat = k →
        Tbl.get t.stations.table k = none ∧ (∀ j, j ≠ k → Tbl.get t.stations.table j = Tbl.get s.stations.table j) ∧
        t.guest.coolOff = s.guest.coolOff ∧ (e.cls = .guestClient → Tbl.get t.guest.table k = none)) ∧
      (Tbl.get s.stations.table k = none → t = answer r .notFound [] (takeRequest r s)))

/-- PENDING_CANCEL (R96): BUSY while COMMITTING, which for a command with too few fields is the model's reading (log 34), else the
entry named is removed; CLOCK_SET (R86, R88); UPLINK_FORCE (R133). -/
def Obligations.CancelClockAndForce : Prop :=
  (∀ (s : State) (r : Request), Takes s r 0x31 →
      ∃ t, Sys2Proof.Machine.exec .pendingCancel s = .next t ∧ OnlyChanges [.schedule, .pool, .monitor, .management] s t ∧
        t.sched.commitCounter = s.sched.commitCounter ∧
        (∀ c, s.exch.state = .committing c → t = answer r .busy [] (takeRequest r s)) ∧
        (∀ k, (∀ c, s.exch.state ≠ .committing c) → 13 ≤ r.fields.length → changeKindOf (field r.fields 12 1) = some k →
          validCode (field r.fields 0 6) = true → field r.fields 6 6 ≤ 5662310399 →
          t.sched.entries = s.sched.entries.filter (fun e => !(e.change.code == field r.fields 0 6 &&
            e.change.time == field r.fields 6 6 && e.change.action.kind == k))) ∧
        ((∀ c, s.exch.state ≠ .committing c) → 13 ≤ r.fields.length →
          changeKindOf (field r.fields 12 1) = none ∨ validCode (field r.fields 0 6) = false ∨ 5662310399 < field r.fields 6 6 →
          t = answer r .badField [] (takeRequest r s))) ∧
  (∀ (s : State) (r : Request),
      (Takes s r 0x42 → 6 ≤ r.fields.length → ∃ t, Sys2Proof.Machine.exec .clockSet s = .next t ∧
        OnlyChanges [.clock, .window, .exchange, .guest, .pool, .monitor, .management] s t ∧
        (field r.fields 2 4 < 86400 → t.clock = ⟨true, field r.fields 0 2, field r.fields 2 4, 0⟩ ∧
          t.windowIn = windowAt s.settings.openSecond s.settings.closeSecond (field r.fields 2 4)) ∧
        (86400 ≤ field r.fields 2 4 → t = answer r .badField [] (takeRequest r s))) ∧
      (Takes s r 0x43 → 1 ≤ r.fields.length → ∃ t, Sys2Proof.Machine.exec .uplinkForce s = .next t ∧
        OnlyChanges [.till, .journal, .exchange, .uplink, .pool, .guest, .monitor, .management] s t ∧
        (field r.fields 0 1 = 1 → t.uplink.force = true ∧ t.uplink.state = .fallback) ∧
        (field r.fields 0 1 = 0 → t.uplink = { s.uplink with force := false } ∧
          t = answer r .done [] { takeRequest r s with uplink := { s.uplink with force := false } }) ∧
        (1 < field r.fields 0 1 → t = answer r .badField [] (takeRequest r s))))

/-- SETTING_WRITE (R150, R193, R194): a numeric value is brought into its range; an enumerated value that is listed is written and one
that is not is refused, and so are a number that names no setting and a group address; the policy cells are clamped; a station
address must be individual, not zero and of no LOADED entry, and a LEARNED entry of it goes; no other setting moves. The head-office
address cleared brings FALLBACK and ends the probing (R134); whether the SENT records and the live asks then stand (R59, R38) is
free, and stated for either value (log 36). -/
def Obligations.SettingWritten : Prop :=
  ∀ (s : State) (r : Request), Takes s r 0x41 → 7 ≤ r.fields.length →
    let n := field r.fields 0 1
    let v := field r.fields 1 6
    ∃ t, Sys2Proof.Machine.exec .settingWrite s = .next t ∧
      OnlyChanges [.settings, .labels, .dispatcher, .till, .journal, .window, .exchange, .uplink, .pool, .stations, .guest,
        .monitor, .management] s t ∧
      (∀ lo hi, numericRange n = some (lo, hi) → t.settings.value n = some (if v < lo then lo else if hi < v then hi else v)) ∧
      (∀ j, j ≠ n → s.settings.policy.length = 20 → t.settings.value j = s.settings.value j) ∧
      (n = 3 ∨ n = 4 → isGroup (BitVec.ofNat 48 v) = false → t.settings.value n = some v) ∧
      (n = 3 → v = 0 → s.settings.headOffice ≠ 0 →
        t.uplink.state = .fallback ∧ t.uplink.probe = none ∧ t.uplink.held = none ∧ t.uplink.timer = none ∧
        (s.uplink.state = .fallback → t.journal = s.journal ∧ t.till = s.till) ∧
        (s.uplink.state ≠ .fallback →
          t.journal.records = s.journal.records ∧ t.journal.release = s.journal.release ∧ t.journal.held = none ∧
          (Config.clearedKeepsSent = true → t.journal.next = s.journal.next ∧ t.journal.ackTimer = s.journal.ackTimer) ∧
          (Config.clearedKeepsSent = false → t.journal.next = s.journal.release ∧ t.journal.ackTimer = none) ∧
          (Config.clearedKeepsAsks = true → t.till.asks = s.till.asks) ∧ (Config.clearedKeepsAsks = false → t.till.asks = []))) ∧
      (n = 1 ∨ n = 3 ∨ n = 4 → isGroup (BitVec.ofNat 48 v) = true → t = answer r .badField [] (takeRequest r s)) ∧
      (n = 0x3D → v = 1 → s.settings.policy.length = 20 → t.settings.value n = some 2) ∧
      (∀ i, i < 20 → n = 0x31 + i → i ≠ 12 → v = 2 → s.settings.policy.length = 20 → t.settings.value n = some 0) ∧
      (∀ i, i < 20 → n = 0x31 + i → v = 0 → s.settings.policy.length = 20 → t.settings.value n = some 0) ∧
      (∀ i, i < 20 → n = 0x31 + i → i ≠ 12 → v = 1 → s.settings.policy.length = 20 → t.settings.value n = some 1) ∧
      (n = 0x3D → v = 2 → s.settings.policy.length = 20 → t.settings.value n = some 2) ∧
      (∀ i, i < 20 → n = 0x31 + i → 2 < v → t = answer r .badField [] (takeRequest r s)) ∧
      (let listed := if n = 0x05 ∨ n = 0x22 then [0, 1] else if n = 0x06 then [1, 2] else if n = 0x07 then [1, 2, 4, 8]
         else if 0x08 ≤ n ∧ n ≤ 0x0B then [1, 2, 3, 4, 5, 6, 7, 8, 9, 10, 11, 12] else []
       listed ≠ [] → (v ∈ listed → t.settings.value n = some v) ∧ (v ∉ listed → t = answer r .badField [] (takeRequest r s))) ∧
      (n = 1 → isGroup (BitVec.ofNat 48 v) = false → v ≠ 0 → (Tbl.get s.stations.table v).any (·.loaded) = false →
        t.settings.value 1 = some v ∧
        (v ≠ s.settings.stationAddr.toNat → (∀ e, Tbl.get s.stations.table v = some e → e.addr.toNat = v) →
          Tbl.get t.stations.table v = none)) ∧
      (n = 1 → v = 0 ∨ (Tbl.get s.stations.table v).any (·.loaded) = true → t = answer r .badField [] (takeRequest r s)) ∧
      (s.settings.value n = none → t = answer r .badField [] (takeRequest r s))

/-- COUNTER_PROGRAM and COUNTER_SNAPSHOT (R186, R187): the programmed counter starts at 0, the others are untouched; what the fields
must hold, where they are not used as log 33 reads them and with codes outside their lists refused (R202); a snapshot is marked as
due and answered later. -/
def Obligations.CountersProgrammed : Prop :=
  ∀ (s : State) (r : Request),
    (Takes s r 0x50 → 10 ≤ r.fields.length → s.mgmt.firstSender ≠ none → s.linkIsUp r.port = true → ∃ t,
      Sys2Proof.Machine.exec .counterProgram s = .next t ∧ OnlyChanges [.pool, .monitor, .management] s t ∧
      (∀ src, counterSourceOf r.fields = some src → field r.fields 0 1 ≤ 7 →
        t.mon.counters = s.mon.counters.set (field r.fields 0 1) ⟨src, 0, false, false⟩ ∧ t.mon.hold = s.mon.hold) ∧
      (counterSourceOf r.fields = none ∨ 7 < field r.fields 0 1 →
        t = answer r .badField [] (takeRequest r s) ∧ t.mon = s.mon)) ∧
    (let src := field r.fields 1 1
     let sets := field r.fields 2 2 ≠ 0 ∨ field r.fields 4 1 ≠ 0 ∨ field r.fields 5 1 ≠ 0
     let mode := field r.fields 6 1
     let threshold := field r.fields 7 2
     let invert := field r.fields 9 1
     (30 < src ∧ src < 0x41 ∨ 0x46 < src → counterSourceOf r.fields = none) ∧
     (3 < mode ∨ 1 < invert → counterSourceOf r.fields = none) ∧
     (src = 0 → mode ≤ 3 → invert ≤ 1 → counterSourceOf r.fields = if sets then none else some .none) ∧
     (1 ≤ src → src ≤ 30 → mode ≠ 0 → counterSourceOf r.fields = none) ∧
     (∀ o, occupancies[src - 0x41]? = some o → 0x41 ≤ src → invert ≤ 1 → counterSourceOf r.fields =
       if sets ∨ mode = 0 ∨ 3 < mode then none
       else if mode = 1 then some (.occupancy o .plain)
       else if threshold = 0 then none
       else if mode = 2 then some (.occupancy o (.level threshold (invert == 1)))
       else some (.occupancy o (.edge threshold (invert == 1)))) ∧
     (∀ e, countEvents[src - 1]? = some e → 1 ≤ src → mode = 0 → invert ≤ 1 →
       let fits : Nat → Nat → Prop := fun values set => if values = 0 then set = 0 else 0 < set ∧ set < 2 ^ values
       counterSourceOf r.fields =
         if fits e.quals (field r.fields 2 2) ∧ fits (if e.byPort then 5 else 0) (field r.fields 4 1) ∧
             fits (if e.byClass then 3 else 0) (field r.fields 5 1) then
           some (.event e (BitVec.ofNat 16 (field r.fields 2 2)) (BitVec.ofNat 8 (field r.fields 4 1))
             (BitVec.ofNat 8 (field r.fields 5 1)))
         else none)) ∧
    (Takes s r 0x51 → ∃ t, Sys2Proof.Machine.exec .counterSnapshot s = .next t ∧ OnlyChanges [.pool, .monitor, .management] s t ∧
      t.mon.due = true ∧ t.mon.waiting = s.mon.waiting ++ [r] ∧ t.mon.hold = s.mon.hold ∧ t.mgmt = (takeRequest r s).mgmt)

/-- NOTICE_CLEAR (R195, R197) and a request of no listed code (R192). The two bytes of the number removed are the model's width (log
9); where the clear is the first request taken, the unsent notices are sent before it (log 22). -/
def Obligations.ClearAndUnknown : Prop :=
  ∀ (s : State) (r : Request),
    (Takes s r 0x61 → ∃ t, Sys2Proof.Machine.exec .noticeClear s = .next t ∧ OnlyChanges [.pool, .monitor, .management] s t ∧
      t.mgmt.notices = [] ∧ t.mgmt.owed = 0 ∧ t.mgmt.nextNotice = s.mgmt.nextNotice ∧ (∀ i ∈ t.mgmt.outbox, i.notice = none) ∧
      t = answer r .done (be 2 s.mgmt.notices.length) (clearNotices (takeRequest r s))) ∧
    (∀ c, Takes s r c → commandCodes.contains c = false →
      Sys2Proof.Machine.exec .unknownCommand s = .next (answer r .unknownCommand [] (takeRequest r s)))

end Obligations
end

