-- ==== Sys2Proof/Laws/State.lean ====
section
/-! SUPPORT. One lemma per field per update: what each plain update of the state leaves as it was, and what it writes. -/

namespace Sys2Proof.Machine

@[simp] theorem setPort_pending (p : Port) (u : PortUnit) (s : State) : (setPort p u s).pending = s.pending := rfl
@[simp] theorem setPort_choices (p : Port) (u : PortUnit) (s : State) : (setPort p u s).choices = s.choices := rfl
@[simp] theorem setPort_now (p : Port) (u : PortUnit) (s : State) : (setPort p u s).now = s.now := rfl
@[simp] theorem setPort_straps (p : Port) (u : PortUnit) (s : State) : (setPort p u s).straps = s.straps := rfl
@[simp] theorem setPort_settings (p : Port) (u : PortUnit) (s : State) : (setPort p u s).settings = s.settings := rfl
@[simp] theorem setPort_items (p : Port) (u : PortUnit) (s : State) : (setPort p u s).items = s.items := rfl
@[simp] theorem setPort_labels (p : Port) (u : PortUnit) (s : State) : (setPort p u s).labels = s.labels := rfl
@[simp] theorem setPort_disp (p : Port) (u : PortUnit) (s : State) : (setPort p u s).disp = s.disp := rfl
@[simp] theorem setPort_till (p : Port) (u : PortUnit) (s : State) : (setPort p u s).till = s.till := rfl
@[simp] theorem setPort_journal (p : Port) (u : PortUnit) (s : State) : (setPort p u s).journal = s.journal := rfl
@[simp] theorem setPort_clock (p : Port) (u : PortUnit) (s : State) : (setPort p u s).clock = s.clock := rfl
@[simp] theorem setPort_windowIn (p : Port) (u : PortUnit) (s : State) : (setPort p u s).windowIn = s.windowIn := rfl
@[simp] theorem setPort_sched (p : Port) (u : PortUnit) (s : State) : (setPort p u s).sched = s.sched := rfl
@[simp] theorem setPort_exch (p : Port) (u : PortUnit) (s : State) : (setPort p u s).exch = s.exch := rfl
@[simp] theorem setPort_uplink (p : Port) (u : PortUnit) (s : State) : (setPort p u s).uplink = s.uplink := rfl
@[simp] theorem setPort_stations (p : Port) (u : PortUnit) (s : State) : (setPort p u s).stations = s.stations := rfl
@[simp] theorem setPort_guest (p : Port) (u : PortUnit) (s : State) : (setPort p u s).guest = s.guest := rfl
@[simp] theorem setPort_mon (p : Port) (u : PortUnit) (s : State) : (setPort p u s).mon = s.mon := rfl
@[simp] theorem setPort_mgmt (p : Port) (u : PortUnit) (s : State) : (setPort p u s).mgmt = s.mgmt := rfl

@[simp] theorem count_pending (o : Occ) (s : State) : (count o s).pending = s.pending := rfl
@[simp] theorem count_choices (o : Occ) (s : State) : (count o s).choices = s.choices := rfl
@[simp] theorem count_now (o : Occ) (s : State) : (count o s).now = s.now := rfl
@[simp] theorem count_straps (o : Occ) (s : State) : (count o s).straps = s.straps := rfl
@[simp] theorem count_settings (o : Occ) (s : State) : (count o s).settings = s.settings := rfl
@[simp] theorem count_items (o : Occ) (s : State) : (count o s).items = s.items := rfl
@[simp] theorem count_labels (o : Occ) (s : State) : (count o s).labels = s.labels := rfl
@[simp] theorem count_disp (o : Occ) (s : State) : (count o s).disp = s.disp := rfl
@[simp] theorem count_till (o : Occ) (s : State) : (count o s).till = s.till := rfl
@[simp] theorem count_journal (o : Occ) (s : State) : (count o s).journal = s.journal := rfl
@[simp] theorem count_clock (o : Occ) (s : State) : (count o s).clock = s.clock := rfl
@[simp] theorem count_windowIn (o : Occ) (s : State) : (count o s).windowIn = s.windowIn := rfl
@[simp] theorem count_sched (o : Occ) (s : State) : (count o s).sched = s.sched := rfl
@[simp] theorem count_exch (o : Occ) (s : State) : (count o s).exch = s.exch := rfl
@[simp] theorem count_uplink (o : Occ) (s : State) : (count o s).uplink = s.uplink := rfl
@[simp] theorem count_pool (o : Occ) (s : State) : (count o s).pool = s.pool := rfl
@[simp] theorem count_stations (o : Occ) (s : State) : (count o s).stations = s.stations := rfl
@[simp] theorem count_guest (o : Occ) (s : State) : (count o s).guest = s.guest := rfl
@[simp] theorem count_mgmt (o : Occ) (s : State) : (count o s).mgmt = s.mgmt := rfl

@[simp] theorem returnCells_pending (n : Nat) (s : State) : (returnCells n s).pending = s.pending := rfl
@[simp] theorem returnCells_choices (n : Nat) (s : State) : (returnCells n s).choices = s.choices := rfl
@[simp] theorem returnCells_now (n : Nat) (s : State) : (returnCells n s).now = s.now := rfl
@[simp] theorem returnCells_straps (n : Nat) (s : State) : (returnCells n s).straps = s.straps := rfl
@[simp] theorem returnCells_settings (n : Nat) (s : State) : (returnCells n s).settings = s.settings := rfl
@[simp] theorem returnCells_items (n : Nat) (s : State) : (returnCells n s).items = s.items := rfl
@[simp] theorem returnCells_labels (n : Nat) (s : State) : (returnCells n s).labels = s.labels := rfl
@[simp] theorem returnCells_disp (n : Nat) (s : State) : (returnCells n s).disp = s.disp := rfl
@[simp] theorem returnCells_till (n : Nat) (s : State) : (returnCells n s).till = s.till := rfl
@[simp] theorem returnCells_journal (n : Nat) (s : State) : (returnCells n s).journal = s.journal := rfl
@[simp] theorem returnCells_clock (n : Nat) (s : State) : (returnCells n s).clock = s.clock := rfl
@[simp] theorem returnCells_windowIn (n : Nat) (s : State) : (returnCells n s).windowIn = s.windowIn := rfl
@[simp] theorem returnCells_sched (n : Nat) (s : State) : (returnCells n s).sched = s.sched := rfl
@[simp] theorem returnCells_exch (n : Nat) (s : State) : (returnCells n s).exch = s.exch := rfl
@[simp] theorem returnCells_uplink (n : Nat) (s : State) : (returnCells n s).uplink = s.uplink := rfl
@[simp] theorem returnCells_stations (n : Nat) (s : State) : (returnCells n s).stations = s.stations := rfl
@[simp] theorem returnCells_guest (n : Nat) (s : State) : (returnCells n s).guest = s.guest := rfl
@[simp] theorem returnCells_mon (n : Nat) (s : State) : (returnCells n s).mon = s.mon := rfl
@[simp] theorem returnCells_mgmt (n : Nat) (s : State) : (returnCells n s).mgmt = s.mgmt := rfl

@[simp] theorem setQueue_pending (q : List LabelEntry) (s : State) : (setQueue q s).pending = s.pending := rfl
@[simp] theorem setQueue_choices (q : List LabelEntry) (s : State) : (setQueue q s).choices = s.choices := rfl
@[simp] theorem setQueue_now (q : List LabelEntry) (s : State) : (setQueue q s).now = s.now := rfl
@[simp] theorem setQueue_straps (q : List LabelEntry) (s : State) : (setQueue q s).straps = s.straps := rfl
@[simp] theorem setQueue_settings (q : List LabelEntry) (s : State) : (setQueue q s).settings = s.settings := rfl
@[simp] theorem setQueue_items (q : List LabelEntry) (s : State) : (setQueue q s).items = s.items := rfl
@[simp] theorem setQueue_labels (q : List LabelEntry) (s : State) : (setQueue q s).labels = s.labels := rfl
@[simp] theorem setQueue_till (q : List LabelEntry) (s : State) : (setQueue q s).till = s.till := rfl
@[simp] theorem setQueue_journal (q : List LabelEntry) (s : State) : (setQueue q s).journal = s.journal := rfl
@[simp] theorem setQueue_clock (q : List LabelEntry) (s : State) : (setQueue q s).clock = s.clock := rfl
@[simp] theorem setQueue_windowIn (q : List LabelEntry) (s : State) : (setQueue q s).windowIn = s.windowIn := rfl
@[simp] theorem setQueue_sched (q : List LabelEntry) (s : State) : (setQueue q s).sched = s.sched := rfl
@[simp] theorem setQueue_exch (q : List LabelEntry) (s : State) : (setQueue q s).exch = s.exch := rfl
@[simp] theorem setQueue_uplink (q : List LabelEntry) (s : State) : (setQueue q s).uplink = s.uplink := rfl
@[simp] theorem setQueue_pool (q : List LabelEntry) (s : State) : (setQueue q s).pool = s.pool := rfl
@[simp] theorem setQueue_stations (q : List LabelEntry) (s : State) : (setQueue q s).stations = s.stations := rfl
@[simp] theorem setQueue_guest (q : List LabelEntry) (s : State) : (setQueue q s).guest = s.guest := rfl
@[simp] theorem setQueue_mon (q : List LabelEntry) (s : State) : (setQueue q s).mon = s.mon := rfl
@[simp] theorem setQueue_mgmt (q : List LabelEntry) (s : State) : (setQueue q s).mgmt = s.mgmt := rfl

@[simp] theorem setLabel_pending (n : Nat) (r : LabelRec) (s : State) : (setLabel n r s).pending = s.pending := rfl
@[simp] theorem setLabel_choices (n : Nat) (r : LabelRec) (s : State) : (setLabel n r s).choices = s.choices := rfl
@[simp] theorem setLabel_now (n : Nat) (r : LabelRec) (s : State) : (setLabel n r s).now = s.now := rfl
@[simp] theorem setLabel_straps (n : Nat) (r : LabelRec) (s : State) : (setLabel n r s).straps = s.straps := rfl
@[simp] theorem setLabel_settings (n : Nat) (r : LabelRec) (s : State) : (setLabel n r s).settings = s.settings := rfl
@[simp] theorem setLabel_items (n : Nat) (r : LabelRec) (s : State) : (setLabel n r s).items = s.items := rfl
@[simp] theorem setLabel_disp (n : Nat) (r : LabelRec) (s : State) : (setLabel n r s).disp = s.disp := rfl
@[simp] theorem setLabel_till (n : Nat) (r : LabelRec) (s : State) : (setLabel n r s).till = s.till := rfl
@[simp] theorem setLabel_journal (n : Nat) (r : LabelRec) (s : State) : (setLabel n r s).journal = s.journal := rfl
@[simp] theorem setLabel_clock (n : Nat) (r : LabelRec) (s : State) : (setLabel n r s).clock = s.clock := rfl
@[simp] theorem setLabel_windowIn (n : Nat) (r : LabelRec) (s : State) : (setLabel n r s).windowIn = s.windowIn := rfl
@[simp] theorem setLabel_sched (n : Nat) (r : LabelRec) (s : State) : (setLabel n r s).sched = s.sched := rfl
@[simp] theorem setLabel_exch (n : Nat) (r : LabelRec) (s : State) : (setLabel n r s).exch = s.exch := rfl
@[simp] theorem setLabel_uplink (n : Nat) (r : LabelRec) (s : State) : (setLabel n r s).uplink = s.uplink := rfl
@[simp] theorem setLabel_pool (n : Nat) (r : LabelRec) (s : State) : (setLabel n r s).pool = s.pool := rfl
@[simp] theorem setLabel_stations (n : Nat) (r : LabelRec) (s : State) : (setLabel n r s).stations = s.stations := rfl
@[simp] theorem setLabel_guest (n : Nat) (r : LabelRec) (s : State) : (setLabel n r s).guest = s.guest := rfl
@[simp] theorem setLabel_mon (n : Nat) (r : LabelRec) (s : State) : (setLabel n r s).mon = s.mon := rfl
@[simp] theorem setLabel_mgmt (n : Nat) (r : LabelRec) (s : State) : (setLabel n r s).mgmt = s.mgmt := rfl

@[simp] theorem mapEntry_pending (n : Nat) (f : LabelEntry → LabelEntry) (s : State) : (mapEntry n f s).pending = s.pending := rfl
@[simp] theorem mapEntry_choices (n : Nat) (f : LabelEntry → LabelEntry) (s : State) : (mapEntry n f s).choices = s.choices := rfl
@[simp] theorem mapEntry_now (n : Nat) (f : LabelEntry → LabelEntry) (s : State) : (mapEntry n f s).now = s.now := rfl
@[simp] theorem mapEntry_straps (n : Nat) (f : LabelEntry → LabelEntry) (s : State) : (mapEntry n f s).straps = s.straps := rfl
@[simp] theorem mapEntry_settings (n : Nat) (f : LabelEntry → LabelEntry) (s : State) : (mapEntry n f s).settings = s.settings := rfl
@[simp] theorem mapEntry_items (n : Nat) (f : LabelEntry → LabelEntry) (s : State) : (mapEntry n f s).items = s.items := rfl
@[simp] theorem mapEntry_labels (n : Nat) (f : LabelEntry → LabelEntry) (s : State) : (mapEntry n f s).labels = s.labels := rfl
@[simp] theorem mapEntry_till (n : Nat) (f : LabelEntry → LabelEntry) (s : State) : (mapEntry n f s).till = s.till := rfl
@[simp] theorem mapEntry_journal (n : Nat) (f : LabelEntry → LabelEntry) (s : State) : (mapEntry n f s).journal = s.journal := rfl
@[simp] theorem mapEntry_clock (n : Nat) (f : LabelEntry → LabelEntry) (s : State) : (mapEntry n f s).clock = s.clock := rfl
@[simp] theorem mapEntry_windowIn (n : Nat) (f : LabelEntry → LabelEntry) (s : State) : (mapEntry n f s).windowIn = s.windowIn := rfl
@[simp] theorem mapEntry_sched (n : Nat) (f : LabelEntry → LabelEntry) (s : State) : (mapEntry n f s).sched = s.sched := rfl
@[simp] theorem mapEntry_exch (n : Nat) (f : LabelEntry → LabelEntry) (s : State) : (mapEntry n f s).exch = s.exch := rfl
@[simp] theorem mapEntry_uplink (n : Nat) (f : LabelEntry → LabelEntry) (s : State) : (mapEntry n f s).uplink = s.uplink := rfl
@[simp] theorem mapEntry_pool (n : Nat) (f : LabelEntry → LabelEntry) (s : State) : (mapEntry n f s).pool = s.pool := rfl
@[simp] theorem mapEntry_stations (n : Nat) (f : LabelEntry → LabelEntry) (s : State) : (mapEntry n f s).stations = s.stations := rfl
@[simp] theorem mapEntry_guest (n : Nat) (f : LabelEntry → LabelEntry) (s : State) : (mapEntry n f s).guest = s.guest := rfl
@[simp] theorem mapEntry_mon (n : Nat) (f : LabelEntry → LabelEntry) (s : State) : (mapEntry n f s).mon = s.mon := rfl
@[simp] theorem mapEntry_mgmt (n : Nat) (f : LabelEntry → LabelEntry) (s : State) : (mapEntry n f s).mgmt = s.mgmt := rfl

@[simp] theorem appendEntry_pending (n k : Nat) (s : State) : (appendEntry n k s).pending = s.pending := rfl
@[simp] theorem appendEntry_choices (n k : Nat) (s : State) : (appendEntry n k s).choices = s.choices := rfl
@[simp] theorem appendEntry_now (n k : Nat) (s : State) : (appendEntry n k s).now = s.now := rfl
@[simp] theorem appendEntry_straps (n k : Nat) (s : State) : (appendEntry n k s).straps = s.straps := rfl
@[simp] theorem appendEntry_settings (n k : Nat) (s : State) : (appendEntry n k s).settings = s.settings := rfl
@[simp] theorem appendEntry_items (n k : Nat) (s : State) : (appendEntry n k s).items = s.items := rfl
@[simp] theorem appendEntry_labels (n k : Nat) (s : State) : (appendEntry n k s).labels = s.labels := rfl
@[simp] theorem appendEntry_till (n k : Nat) (s : State) : (appendEntry n k s).till = s.till := rfl
@[simp] theorem appendEntry_journal (n k : Nat) (s : State) : (appendEntry n k s).journal = s.journal := rfl
@[simp] theorem appendEntry_clock (n k : Nat) (s : State) : (appendEntry n k s).clock = s.clock := rfl
@[simp] theorem appendEntry_windowIn (n k : Nat) (s : State) : (appendEntry n k s).windowIn = s.windowIn := rfl
@[simp] theorem appendEntry_sched (n k : Nat) (s : State) : (appendEntry n k s).sched = s.sched := rfl
@[simp] theorem appendEntry_exch (n k : Nat) (s : State) : (appendEntry n k s).exch = s.exch := rfl
@[simp] theorem appendEntry_uplink (n k : Nat) (s : State) : (appendEntry n k s).uplink = s.uplink := rfl
@[simp] theorem appendEntry_pool (n k : Nat) (s : State) : (appendEntry n k s).pool = s.pool := rfl
@[simp] theorem appendEntry_stations (n k : Nat) (s : State) : (appendEntry n k s).stations = s.stations := rfl
@[simp] theorem appendEntry_guest (n k : Nat) (s : State) : (appendEntry n k s).guest = s.guest := rfl
@[simp] theorem appendEntry_mon (n k : Nat) (s : State) : (appendEntry n k s).mon = s.mon := rfl
@[simp] theorem appendEntry_mgmt (n k : Nat) (s : State) : (appendEntry n k s).mgmt = s.mgmt := rfl

@[simp] theorem setJournal_pending (j : Journal) (s : State) : (setJournal j s).pending = s.pending := rfl
@[simp] theorem setJournal_choices (j : Journal) (s : State) : (setJournal j s).choices = s.choices := rfl
@[simp] theorem setJournal_now (j : Journal) (s : State) : (setJournal j s).now = s.now := rfl
@[simp] theorem setJournal_straps (j : Journal) (s : State) : (setJournal j s).straps = s.straps := rfl
@[simp] theorem setJournal_settings (j : Journal) (s : State) : (setJournal j s).settings = s.settings := rfl
@[simp] theorem setJournal_items (j : Journal) (s : State) : (setJournal j s).items = s.items := rfl
@[simp] theorem setJournal_labels (j : Journal) (s : State) : (setJournal j s).labels = s.labels := rfl
@[simp] theorem setJournal_disp (j : Journal) (s : State) : (setJournal j s).disp = s.disp := rfl
@[simp] theorem setJournal_till (j : Journal) (s : State) : (setJournal j s).till = s.till := rfl
@[simp] theorem setJournal_clock (j : Journal) (s : State) : (setJournal j s).clock = s.clock := rfl
@[simp] theorem setJournal_windowIn (j : Journal) (s : State) : (setJournal j s).windowIn = s.windowIn := rfl
@[simp] theorem setJournal_sched (j : Journal) (s : State) : (setJournal j s).sched = s.sched := rfl
@[simp] theorem setJournal_exch (j : Journal) (s : State) : (setJournal j s).exch = s.exch := rfl
@[simp] theorem setJournal_uplink (j : Journal) (s : State) : (setJournal j s).uplink = s.uplink := rfl
@[simp] theorem setJournal_pool (j : Journal) (s : State) : (setJournal j s).pool = s.pool := rfl
@[simp] theorem setJournal_stations (j : Journal) (s : State) : (setJournal j s).stations = s.stations := rfl
@[simp] theorem setJournal_guest (j : Journal) (s : State) : (setJournal j s).guest = s.guest := rfl
@[simp] theorem setJournal_mon (j : Journal) (s : State) : (setJournal j s).mon = s.mon := rfl
@[simp] theorem setJournal_mgmt (j : Journal) (s : State) : (setJournal j s).mgmt = s.mgmt := rfl

@[simp] theorem setTill_pending (v : TillService) (s : State) : (setTill v s).pending = s.pending := rfl
@[simp] theorem setTill_choices (v : TillService) (s : State) : (setTill v s).choices = s.choices := rfl
@[simp] theorem setTill_now (v : TillService) (s : State) : (setTill v s).now = s.now := rfl
@[simp] theorem setTill_straps (v : TillService) (s : State) : (setTill v s).straps = s.straps := rfl
@[simp] theorem setTill_settings (v : TillService) (s : State) : (setTill v s).settings = s.settings := rfl
@[simp] theorem setTill_items (v : TillService) (s : State) : (setTill v s).items = s.items := rfl
@[simp] theorem setTill_labels (v : TillService) (s : State) : (setTill v s).labels = s.labels := rfl
@[simp] theorem setTill_disp (v : TillService) (s : State) : (setTill v s).disp = s.disp := rfl
@[simp] theorem setTill_journal (v : TillService) (s : State) : (setTill v s).journal = s.journal := rfl
@[simp] theorem setTill_clock (v : TillService) (s : State) : (setTill v s).clock = s.clock := rfl
@[simp] theorem setTill_windowIn (v : TillService) (s : State) : (setTill v s).windowIn = s.windowIn := rfl
@[simp] theorem setTill_sched (v : TillService) (s : State) : (setTill v s).sched = s.sched := rfl
@[simp] theorem setTill_exch (v : TillService) (s : State) : (setTill v s).exch = s.exch := rfl
@[simp] theorem setTill_uplink (v : TillService) (s : State) : (setTill v s).uplink = s.uplink := rfl
@[simp] theorem setTill_pool (v : TillService) (s : State) : (setTill v s).pool = s.pool := rfl
@[simp] theorem setTill_stations (v : TillService) (s : State) : (setTill v s).stations = s.stations := rfl
@[simp] theorem setTill_guest (v : TillService) (s : State) : (setTill v s).guest = s.guest := rfl
@[simp] theorem setTill_mon (v : TillService) (s : State) : (setTill v s).mon = s.mon := rfl
@[simp] theorem setTill_mgmt (v : TillService) (s : State) : (setTill v s).mgmt = s.mgmt := rfl

@[simp] theorem setEntries_pending (l : List PendingEntry) (s : State) : (setEntries l s).pending = s.pending := rfl
@[simp] theorem setEntries_choices (l : List PendingEntry) (s : State) : (setEntries l s).choices = s.choices := rfl
@[simp] theorem setEntries_now (l : List PendingEntry) (s : State) : (setEntries l s).now = s.now := rfl
@[simp] theorem setEntries_straps (l : List PendingEntry) (s : State) : (setEntries l s).straps = s.straps := rfl
@[simp] theorem setEntries_settings (l : List PendingEntry) (s : State) : (setEntries l s).settings = s.settings := rfl
@[simp] theorem setEntries_items (l : List PendingEntry) (s : State) : (setEntries l s).items = s.items := rfl
@[simp] theorem setEntries_labels (l : List PendingEntry) (s : State) : (setEntries l s).labels = s.labels := rfl
@[simp] theorem setEntries_disp (l : List PendingEntry) (s : State) : (setEntries l s).disp = s.disp := rfl
@[simp] theorem setEntries_till (l : List PendingEntry) (s : State) : (setEntries l s).till = s.till := rfl
@[simp] theorem setEntries_journal (l : List PendingEntry) (s : State) : (setEntries l s).journal = s.journal := rfl
@[simp] theorem setEntries_clock (l : List PendingEntry) (s : State) : (setEntries l s).clock = s.clock := rfl
@[simp] theorem setEntries_windowIn (l : List PendingEntry) (s : State) : (setEntries l s).windowIn = s.windowIn := rfl
@[simp] theorem setEntries_exch (l : List PendingEntry) (s : State) : (setEntries l s).exch = s.exch := rfl
@[simp] theorem setEntries_uplink (l : List PendingEntry) (s : State) : (setEntries l s).uplink = s.uplink := rfl
@[simp] theorem setEntries_pool (l : List PendingEntry) (s : State) : (setEntries l s).pool = s.pool := rfl
@[simp] theorem setEntries_stations (l : List PendingEntry) (s : State) : (setEntries l s).stations = s.stations := rfl
@[simp] theorem setEntries_guest (l : List PendingEntry) (s : State) : (setEntries l s).guest = s.guest := rfl
@[simp] theorem setEntries_mon (l : List PendingEntry) (s : State) : (setEntries l s).mon = s.mon := rfl
@[simp] theorem setEntries_mgmt (l : List PendingEntry) (s : State) : (setEntries l s).mgmt = s.mgmt := rfl

@[simp] theorem setGuest_pending (g : Guest) (s : State) : (setGuest g s).pending = s.pending := rfl
@[simp] theorem setGuest_choices (g : Guest) (s : State) : (setGuest g s).choices = s.choices := rfl
@[simp] theorem setGuest_now (g : Guest) (s : State) : (setGuest g s).now = s.now := rfl
@[simp] theorem setGuest_straps (g : Guest) (s : State) : (setGuest g s).straps = s.straps := rfl
@[simp] theorem setGuest_settings (g : Guest) (s : State) : (setGuest g s).settings = s.settings := rfl
@[simp] theorem setGuest_items (g : Guest) (s : State) : (setGuest g s).items = s.items := rfl
@[simp] theorem setGuest_labels (g : Guest) (s : State) : (setGuest g s).labels = s.labels := rfl
@[simp] theorem setGuest_disp (g : Guest) (s : State) : (setGuest g s).disp = s.disp := rfl
@[simp] theorem setGuest_till (g : Guest) (s : State) : (setGuest g s).till = s.till := rfl
@[simp] theorem setGuest_journal (g : Guest) (s : State) : (setGuest g s).journal = s.journal := rfl
@[simp] theorem setGuest_clock (g : Guest) (s : State) : (setGuest g s).clock = s.clock := rfl
@[simp] theorem setGuest_windowIn (g : Guest) (s : State) : (setGuest g s).windowIn = s.windowIn := rfl
@[simp] theorem setGuest_sched (g : Guest) (s : State) : (setGuest g s).sched = s.sched := rfl
@[simp] theorem setGuest_exch (g : Guest) (s : State) : (setGuest g s).exch = s.exch := rfl
@[simp] theorem setGuest_uplink (g : Guest) (s : State) : (setGuest g s).uplink = s.uplink := rfl
@[simp] theorem setGuest_pool (g : Guest) (s : State) : (setGuest g s).pool = s.pool := rfl
@[simp] theorem setGuest_stations (g : Guest) (s : State) : (setGuest g s).stations = s.stations := rfl
@[simp] theorem setGuest_mon (g : Guest) (s : State) : (setGuest g s).mon = s.mon := rfl
@[simp] theorem setGuest_mgmt (g : Guest) (s : State) : (setGuest g s).mgmt = s.mgmt := rfl

@[simp] theorem setStations_pending (m : SMap Station) (s : State) : (setStations m s).pending = s.pending := rfl
@[simp] theorem setStations_choices (m : SMap Station) (s : State) : (setStations m s).choices = s.choices := rfl
@[simp] theorem setStations_now (m : SMap Station) (s : State) : (setStations m s).now = s.now := rfl
@[simp] theorem setStations_straps (m : SMap Station) (s : State) : (setStations m s).straps = s.straps := rfl
@[simp] theorem setStations_settings (m : SMap Station) (s : State) : (setStations m s).settings = s.settings := rfl
@[simp] theorem setStations_items (m : SMap Station) (s : State) : (setStations m s).items = s.items := rfl
@[simp] theorem setStations_labels (m : SMap Station) (s : State) : (setStations m s).labels = s.labels := rfl
@[simp] theorem setStations_disp (m : SMap Station) (s : State) : (setStations m s).disp = s.disp := rfl
@[simp] theorem setStations_till (m : SMap Station) (s : State) : (setStations m s).till = s.till := rfl
@[simp] theorem setStations_journal (m : SMap Station) (s : State) : (setStations m s).journal = s.journal := rfl
@[simp] theorem setStations_clock (m : SMap Station) (s : State) : (setStations m s).clock = s.clock := rfl
@[simp] theorem setStations_windowIn (m : SMap Station) (s : State) : (setStations m s).windowIn = s.windowIn := rfl
@[simp] theorem setStations_sched (m : SMap Station) (s : State) : (setStations m s).sched = s.sched := rfl
@[simp] theorem setStations_exch (m : SMap Station) (s : State) : (setStations m s).exch = s.exch := rfl
@[simp] theorem setStations_uplink (m : SMap Station) (s : State) : (setStations m s).uplink = s.uplink := rfl
@[simp] theorem setStations_pool (m : SMap Station) (s : State) : (setStations m s).pool = s.pool := rfl
@[simp] theorem setStations_guest (m : SMap Station) (s : State) : (setStations m s).guest = s.guest := rfl
@[simp] theorem setStations_mon (m : SMap Station) (s : State) : (setStations m s).mon = s.mon := rfl
@[simp] theorem setStations_mgmt (m : SMap Station) (s : State) : (setStations m s).mgmt = s.mgmt := rfl

@[simp] theorem setExch_pending (e : Exchange) (s : State) : (setExch e s).pending = s.pending := rfl
@[simp] theorem setExch_choices (e : Exchange) (s : State) : (setExch e s).choices = s.choices := rfl
@[simp] theorem setExch_now (e : Exchange) (s : State) : (setExch e s).now = s.now := rfl
@[simp] theorem setExch_straps (e : Exchange) (s : State) : (setExch e s).straps = s.straps := rfl
@[simp] theorem setExch_settings (e : Exchange) (s : State) : (setExch e s).settings = s.settings := rfl
@[simp] theorem setExch_items (e : Exchange) (s : State) : (setExch e s).items = s.items := rfl
@[simp] theorem setExch_labels (e : Exchange) (s : State) : (setExch e s).labels = s.labels := rfl
@[simp] theorem setExch_disp (e : Exchange) (s : State) : (setExch e s).disp = s.disp := rfl
@[simp] theorem setExch_till (e : Exchange) (s : State) : (setExch e s).till = s.till := rfl
@[simp] theorem setExch_journal (e : Exchange) (s : State) : (setExch e s).journal = s.journal := rfl
@[simp] theorem setExch_clock (e : Exchange) (s : State) : (setExch e s).clock = s.clock := rfl
@[simp] theorem setExch_windowIn (e : Exchange) (s : State) : (setExch e s).windowIn = s.windowIn := rfl
@[simp] theorem setExch_sched (e : Exchange) (s : State) : (setExch e s).sched = s.sched := rfl
@[simp] theorem setExch_uplink (e : Exchange) (s : State) : (setExch e s).uplink = s.uplink := rfl
@[simp] theorem setExch_pool (e : Exchange) (s : State) : (setExch e s).pool = s.pool := rfl
@[simp] theorem setExch_stations (e : Exchange) (s : State) : (setExch e s).stations = s.stations := rfl
@[simp] theorem setExch_guest (e : Exchange) (s : State) : (setExch e s).guest = s.guest := rfl
@[simp] theorem setExch_mon (e : Exchange) (s : State) : (setExch e s).mon = s.mon := rfl
@[simp] theorem setExch_mgmt (e : Exchange) (s : State) : (setExch e s).mgmt = s.mgmt := rfl

@[simp] theorem setExchState_pending (x : ExchState) (s : State) : (setExchState x s).pending = s.pending := rfl
@[simp] theorem setExchState_choices (x : ExchState) (s : State) : (setExchState x s).choices = s.choices := rfl
@[simp] theorem setExchState_now (x : ExchState) (s : State) : (setExchState x s).now = s.now := rfl
@[simp] theorem setExchState_straps (x : ExchState) (s : State) : (setExchState x s).straps = s.straps := rfl
@[simp] theorem setExchState_settings (x : ExchState) (s : State) : (setExchState x s).settings = s.settings := rfl
@[simp] theorem setExchState_items (x : ExchState) (s : State) : (setExchState x s).items = s.items := rfl
@[simp] theorem setExchState_labels (x : ExchState) (s : State) : (setExchState x s).labels = s.labels := rfl
@[simp] theorem setExchState_disp (x : ExchState) (s : State) : (setExchState x s).disp = s.disp := rfl
@[simp] theorem setExchState_till (x : ExchState) (s : State) : (setExchState x s).till = s.till := rfl
@[simp] theorem setExchState_journal (x : ExchState) (s : State) : (setExchState x s).journal = s.journal := rfl
@[simp] theorem setExchState_clock (x : ExchState) (s : State) : (setExchState x s).clock = s.clock := rfl
@[simp] theorem setExchState_windowIn (x : ExchState) (s : State) : (setExchState x s).windowIn = s.windowIn := rfl
@[simp] theorem setExchState_sched (x : ExchState) (s : State) : (setExchState x s).sched = s.sched := rfl
@[simp] theorem setExchState_uplink (x : ExchState) (s : State) : (setExchState x s).uplink = s.uplink := rfl
@[simp] theorem setExchState_pool (x : ExchState) (s : State) : (setExchState x s).pool = s.pool := rfl
@[simp] theorem setExchState_stations (x : ExchState) (s : State) : (setExchState x s).stations = s.stations := rfl
@[simp] theorem setExchState_guest (x : ExchState) (s : State) : (setExchState x s).guest = s.guest := rfl
@[simp] theorem setExchState_mon (x : ExchState) (s : State) : (setExchState x s).mon = s.mon := rfl
@[simp] theorem setExchState_mgmt (x : ExchState) (s : State) : (setExchState x s).mgmt = s.mgmt := rfl

@[simp] theorem setUplink_pending (u : Uplink) (s : State) : (setUplink u s).pending = s.pending := rfl
@[simp] theorem setUplink_choices (u : Uplink) (s : State) : (setUplink u s).choices = s.choices := rfl
@[simp] theorem setUplink_now (u : Uplink) (s : State) : (setUplink u s).now = s.now := rfl
@[simp] theorem setUplink_straps (u : Uplink) (s : State) : (setUplink u s).straps = s.straps := rfl
@[simp] theorem setUplink_settings (u : Uplink) (s : State) : (setUplink u s).settings = s.settings := rfl
@[simp] theorem setUplink_items (u : Uplink) (s : State) : (setUplink u s).items = s.items := rfl
@[simp] theorem setUplink_labels (u : Uplink) (s : State) : (setUplink u s).labels = s.labels := rfl
@[simp] theorem setUplink_disp (u : Uplink) (s : State) : (setUplink u s).disp = s.disp := rfl
@[simp] theorem setUplink_till (u : Uplink) (s : State) : (setUplink u s).till = s.till := rfl
@[simp] theorem setUplink_journal (u : Uplink) (s : State) : (setUplink u s).journal = s.journal := rfl
@[simp] theorem setUplink_clock (u : Uplink) (s : State) : (setUplink u s).clock = s.clock := rfl
@[simp] theorem setUplink_windowIn (u : Uplink) (s : State) : (setUplink u s).windowIn = s.windowIn := rfl
@[simp] theorem setUplink_sched (u : Uplink) (s : State) : (setUplink u s).sched = s.sched := rfl
@[simp] theorem setUplink_exch (u : Uplink) (s : State) : (setUplink u s).exch = s.exch := rfl
@[simp] theorem setUplink_pool (u : Uplink) (s : State) : (setUplink u s).pool = s.pool := rfl
@[simp] theorem setUplink_stations (u : Uplink) (s : State) : (setUplink u s).stations = s.stations := rfl
@[simp] theorem setUplink_guest (u : Uplink) (s : State) : (setUplink u s).guest = s.guest := rfl
@[simp] theorem setUplink_mon (u : Uplink) (s : State) : (setUplink u s).mon = s.mon := rfl
@[simp] theorem setUplink_mgmt (u : Uplink) (s : State) : (setUplink u s).mgmt = s.mgmt := rfl

@[simp] theorem queueNotice_pending (b : NoticeBody) (s : State) : (queueNotice b s).pending = s.pending := rfl
@[simp] theorem queueNotice_choices (b : NoticeBody) (s : State) : (queueNotice b s).choices = s.choices := rfl
@[simp] theorem queueNotice_now (b : NoticeBody) (s : State) : (queueNotice b s).now = s.now := rfl
@[simp] theorem queueNotice_straps (b : NoticeBody) (s : State) : (queueNotice b s).straps = s.straps := rfl
@[simp] theorem queueNotice_settings (b : NoticeBody) (s : State) : (queueNotice b s).settings = s.settings := rfl
@[simp] theorem queueNotice_items (b : NoticeBody) (s : State) : (queueNotice b s).items = s.items := rfl
@[simp] theorem queueNotice_labels (b : NoticeBody) (s : State) : (queueNotice b s).labels = s.labels := rfl
@[simp] theorem queueNotice_disp (b : NoticeBody) (s : State) : (queueNotice b s).disp = s.disp := rfl
@[simp] theorem queueNotice_till (b : NoticeBody) (s : State) : (queueNotice b s).till = s.till := rfl
@[simp] theorem queueNotice_journal (b : NoticeBody) (s : State) : (queueNotice b s).journal = s.journal := rfl
@[simp] theorem queueNotice_clock (b : NoticeBody) (s : State) : (queueNotice b s).clock = s.clock := rfl
@[simp] theorem queueNotice_windowIn (b : NoticeBody) (s : State) : (queueNotice b s).windowIn = s.windowIn := rfl
@[simp] theorem queueNotice_sched (b : NoticeBody) (s : State) : (queueNotice b s).sched = s.sched := rfl
@[simp] theorem queueNotice_exch (b : NoticeBody) (s : State) : (queueNotice b s).exch = s.exch := rfl
@[simp] theorem queueNotice_uplink (b : NoticeBody) (s : State) : (queueNotice b s).uplink = s.uplink := rfl
@[simp] theorem queueNotice_pool (b : NoticeBody) (s : State) : (queueNotice b s).pool = s.pool := rfl
@[simp] theorem queueNotice_stations (b : NoticeBody) (s : State) : (queueNotice b s).stations = s.stations := rfl
@[simp] theorem queueNotice_guest (b : NoticeBody) (s : State) : (queueNotice b s).guest = s.guest := rfl
@[simp] theorem queueNotice_mon (b : NoticeBody) (s : State) : (queueNotice b s).mon = s.mon := rfl

@[simp] theorem programCounter_pending (n : Nat) (c : CounterSource) (s : State) : (programCounter n c s).pending = s.pending := rfl
@[simp] theorem programCounter_choices (n : Nat) (c : CounterSource) (s : State) : (programCounter n c s).choices = s.choices := rfl
@[simp] theorem programCounter_now (n : Nat) (c : CounterSource) (s : State) : (programCounter n c s).now = s.now := rfl
@[simp] theorem programCounter_straps (n : Nat) (c : CounterSource) (s : State) : (programCounter n c s).straps = s.straps := rfl
@[simp] theorem programCounter_settings (n : Nat) (c : CounterSource) (s : State) : (programCounter n c s).settings = s.settings := rfl
@[simp] theorem programCounter_items (n : Nat) (c : CounterSource) (s : State) : (programCounter n c s).items = s.items := rfl
@[simp] theorem programCounter_labels (n : Nat) (c : CounterSource) (s : State) : (programCounter n c s).labels = s.labels := rfl
@[simp] theorem programCounter_disp (n : Nat) (c : CounterSource) (s : State) : (programCounter n c s).disp = s.disp := rfl
@[simp] theorem programCounter_till (n : Nat) (c : CounterSource) (s : State) : (programCounter n c s).till = s.till := rfl
@[simp] theorem programCounter_journal (n : Nat) (c : CounterSource) (s : State) : (programCounter n c s).journal = s.journal := rfl
@[simp] theorem programCounter_clock (n : Nat) (c : CounterSource) (s : State) : (programCounter n c s).clock = s.clock := rfl
@[simp] theorem programCounter_windowIn (n : Nat) (c : CounterSource) (s : State) : (programCounter n c s).windowIn = s.windowIn := rfl
@[simp] theorem programCounter_sched (n : Nat) (c : CounterSource) (s : State) : (programCounter n c s).sched = s.sched := rfl
@[simp] theorem programCounter_exch (n : Nat) (c : CounterSource) (s : State) : (programCounter n c s).exch = s.exch := rfl
@[simp] theorem programCounter_uplink (n : Nat) (c : CounterSource) (s : State) : (programCounter n c s).uplink = s.uplink := rfl
@[simp] theorem programCounter_pool (n : Nat) (c : CounterSource) (s : State) : (programCounter n c s).pool = s.pool := rfl
@[simp] theorem programCounter_stations (n : Nat) (c : CounterSource) (s : State) : (programCounter n c s).stations = s.stations := rfl
@[simp] theorem programCounter_guest (n : Nat) (c : CounterSource) (s : State) : (programCounter n c s).guest = s.guest := rfl
@[simp] theorem programCounter_mgmt (n : Nat) (c : CounterSource) (s : State) : (programCounter n c s).mgmt = s.mgmt := rfl

@[simp] theorem markSnapshot_pending (r : Request) (s : State) : (markSnapshot r s).pending = s.pending := rfl
@[simp] theorem markSnapshot_choices (r : Request) (s : State) : (markSnapshot r s).choices = s.choices := rfl
@[simp] theorem markSnapshot_now (r : Request) (s : State) : (markSnapshot r s).now = s.now := rfl
@[simp] theorem markSnapshot_straps (r : Request) (s : State) : (markSnapshot r s).straps = s.straps := rfl
@[simp] theorem markSnapshot_settings (r : Request) (s : State) : (markSnapshot r s).settings = s.settings := rfl
@[simp] theorem markSnapshot_items (r : Request) (s : State) : (markSnapshot r s).items = s.items := rfl
@[simp] theorem markSnapshot_labels (r : Request) (s : State) : (markSnapshot r s).labels = s.labels := rfl
@[simp] theorem markSnapshot_disp (r : Request) (s : State) : (markSnapshot r s).disp = s.disp := rfl
@[simp] theorem markSnapshot_till (r : Request) (s : State) : (markSnapshot r s).till = s.till := rfl
@[simp] theorem markSnapshot_journal (r : Request) (s : State) : (markSnapshot r s).journal = s.journal := rfl
@[simp] theorem markSnapshot_clock (r : Request) (s : State) : (markSnapshot r s).clock = s.clock := rfl
@[simp] theorem markSnapshot_windowIn (r : Request) (s : State) : (markSnapshot r s).windowIn = s.windowIn := rfl
@[simp] theorem markSnapshot_sched (r : Request) (s : State) : (markSnapshot r s).sched = s.sched := rfl
@[simp] theorem markSnapshot_exch (r : Request) (s : State) : (markSnapshot r s).exch = s.exch := rfl
@[simp] theorem markSnapshot_uplink (r : Request) (s : State) : (markSnapshot r s).uplink = s.uplink := rfl
@[simp] theorem markSnapshot_pool (r : Request) (s : State) : (markSnapshot r s).pool = s.pool := rfl
@[simp] theorem markSnapshot_stations (r : Request) (s : State) : (markSnapshot r s).stations = s.stations := rfl
@[simp] theorem markSnapshot_guest (r : Request) (s : State) : (markSnapshot r s).guest = s.guest := rfl
@[simp] theorem markSnapshot_mgmt (r : Request) (s : State) : (markSnapshot r s).mgmt = s.mgmt := rfl

@[simp] theorem clearNotices_pending (s : State) : (clearNotices s).pending = s.pending := rfl
@[simp] theorem clearNotices_choices (s : State) : (clearNotices s).choices = s.choices := rfl
@[simp] theorem clearNotices_now (s : State) : (clearNotices s).now = s.now := rfl
@[simp] theorem clearNotices_straps (s : State) : (clearNotices s).straps = s.straps := rfl
@[simp] theorem clearNotices_settings (s : State) : (clearNotices s).settings = s.settings := rfl
@[simp] theorem clearNotices_items (s : State) : (clearNotices s).items = s.items := rfl
@[simp] theorem clearNotices_labels (s : State) : (clearNotices s).labels = s.labels := rfl
@[simp] theorem clearNotices_disp (s : State) : (clearNotices s).disp = s.disp := rfl
@[simp] theorem clearNotices_till (s : State) : (clearNotices s).till = s.till := rfl
@[simp] theorem clearNotices_journal (s : State) : (clearNotices s).journal = s.journal := rfl
@[simp] theorem clearNotices_clock (s : State) : (clearNotices s).clock = s.clock := rfl
@[simp] theorem clearNotices_windowIn (s : State) : (clearNotices s).windowIn = s.windowIn := rfl
@[simp] theorem clearNotices_sched (s : State) : (clearNotices s).sched = s.sched := rfl
@[simp] theorem clearNotices_exch (s : State) : (clearNotices s).exch = s.exch := rfl
@[simp] theorem clearNotices_uplink (s : State) : (clearNotices s).uplink = s.uplink := rfl
@[simp] theorem clearNotices_pool (s : State) : (clearNotices s).pool = s.pool := rfl
@[simp] theorem clearNotices_stations (s : State) : (clearNotices s).stations = s.stations := rfl
@[simp] theorem clearNotices_guest (s : State) : (clearNotices s).guest = s.guest := rfl
@[simp] theorem clearNotices_mon (s : State) : (clearNotices s).mon = s.mon := rfl

@[simp] theorem setJournal_self (j : Journal) (s : State) : (setJournal j s).journal = j := rfl
@[simp] theorem setTill_self (v : TillService) (s : State) : (setTill v s).till = v := rfl
@[simp] theorem setGuest_self (g : Guest) (s : State) : (setGuest g s).guest = g := rfl
@[simp] theorem setExch_self (e : Exchange) (s : State) : (setExch e s).exch = e := rfl
@[simp] theorem setUplink_self (u : Uplink) (s : State) : (setUplink u s).uplink = u := rfl
@[simp] theorem setQueue_queue (q : List LabelEntry) (s : State) : (setQueue q s).disp.queue = q := rfl
@[simp] theorem setStations_table (m : SMap Station) (s : State) : (setStations m s).stations.table = m := rfl
@[simp] theorem setStations_sinceStep (m : SMap Station) (s : State) : (setStations m s).stations.sinceStep = s.stations.sinceStep := rfl
@[simp] theorem setEntries_entries (l : List PendingEntry) (s : State) : (setEntries l s).sched.entries = l := rfl
@[simp] theorem setEntries_counter (l : List PendingEntry) (s : State) : (setEntries l s).sched.commitCounter = s.sched.commitCounter := rfl
@[simp] theorem setExchState_state (x : ExchState) (s : State) : (setExchState x s).exch.state = x := rfl
@[simp] theorem setExchState_lastBatch (x : ExchState) (s : State) : (setExchState x s).exch.lastBatch = s.exch.lastBatch := rfl
@[simp] theorem setExchState_outbox (x : ExchState) (s : State) : (setExchState x s).exch.outbox = s.exch.outbox := rfl
@[simp] theorem setPort_free (p : Port) (u : PortUnit) (s : State) : (setPort p u s).pool.free = s.pool.free := rfl
@[simp] theorem setPort_reoffer (p : Port) (u : PortUnit) (s : State) : (setPort p u s).pool.reoffer = s.pool.reoffer := rfl
@[simp] theorem returnCells_free (n : Nat) (s : State) : (returnCells n s).pool.free = s.pool.free + n := rfl
@[simp] theorem returnCells_port (n : Nat) (s : State) (p : Port) : (returnCells n s).port p = s.port p := rfl
@[simp] theorem count_port (o : Occ) (s : State) (p : Port) : (count o s).port p = s.port p := rfl
@[simp] theorem setPort_port_same (p : Port) (u : PortUnit) (s : State) : (setPort p u s).port p = u := by cases p <;> rfl
theorem setPort_port_other (p q : Port) (u : PortUnit) (s : State) (h : q ≠ p) : (setPort p u s).port q = s.port q := by
  cases p <;> cases q <;> first | rfl | exact absurd rfl h

end Sys2Proof.Machine
end

