-- ==== Sys2Proof/Laws/Frames.lean ====
section
/-! SUPPORT. For each operation, the blocks it leaves as they were. -/

namespace Sys2Proof.Machine

@[simp] theorem countMany_frame (o : Occ) (n : Nat) (s : State) :
    (countMany o n s).pending = s.pending ∧
    (countMany o n s).choices = s.choices ∧
    (countMany o n s).now = s.now ∧
    (countMany o n s).straps = s.straps ∧
    (countMany o n s).settings = s.settings ∧
    (countMany o n s).items = s.items ∧
    (countMany o n s).labels = s.labels ∧
    (countMany o n s).disp = s.disp ∧
    (countMany o n s).till = s.till ∧
    (countMany o n s).journal = s.journal ∧
    (countMany o n s).clock = s.clock ∧
    (countMany o n s).windowIn = s.windowIn ∧
    (countMany o n s).sched = s.sched ∧
    (countMany o n s).exch = s.exch ∧
    (countMany o n s).uplink = s.uplink ∧
    (countMany o n s).pool = s.pool ∧
    (countMany o n s).stations = s.stations ∧
    (countMany o n s).guest = s.guest ∧
    (countMany o n s).mgmt = s.mgmt := by
  induction n generalizing s with
  | zero => simp [countMany]
  | succ n ih => simp [countMany, ih]

@[simp] theorem countAll_frame (l : List Occ) (s : State) :
    (countAll l s).pending = s.pending ∧
    (countAll l s).choices = s.choices ∧
    (countAll l s).now = s.now ∧
    (countAll l s).straps = s.straps ∧
    (countAll l s).settings = s.settings ∧
    (countAll l s).items = s.items ∧
    (countAll l s).labels = s.labels ∧
    (countAll l s).disp = s.disp ∧
    (countAll l s).till = s.till ∧
    (countAll l s).journal = s.journal ∧
    (countAll l s).clock = s.clock ∧
    (countAll l s).windowIn = s.windowIn ∧
    (countAll l s).sched = s.sched ∧
    (countAll l s).exch = s.exch ∧
    (countAll l s).uplink = s.uplink ∧
    (countAll l s).pool = s.pool ∧
    (countAll l s).stations = s.stations ∧
    (countAll l s).guest = s.guest ∧
    (countAll l s).mgmt = s.mgmt := by
  unfold countAll
  induction l generalizing s with
  | nil => simp
  | cons a l ih => simp [ih]

@[simp] theorem startTx_frame (p : Port) (s : State) :
    (startTx p s).pending = s.pending ∧
    (startTx p s).choices = s.choices ∧
    (startTx p s).now = s.now ∧
    (startTx p s).straps = s.straps ∧
    (startTx p s).settings = s.settings ∧
    (startTx p s).items = s.items ∧
    (startTx p s).labels = s.labels ∧
    (startTx p s).disp = s.disp ∧
    (startTx p s).till = s.till ∧
    (startTx p s).journal = s.journal ∧
    (startTx p s).clock = s.clock ∧
    (startTx p s).windowIn = s.windowIn ∧
    (startTx p s).sched = s.sched ∧
    (startTx p s).exch = s.exch ∧
    (startTx p s).uplink = s.uplink ∧
    (startTx p s).stations = s.stations ∧
    (startTx p s).guest = s.guest ∧
    (startTx p s).mon = s.mon ∧
    (startTx p s).mgmt = s.mgmt := by
  unfold startTx
  dsimp only
  (repeat' split) <;> simp

@[simp] theorem enqueue_frame (p : Port) (q : QFrame) (s : State) :
    (enqueue p q s).pending = s.pending ∧
    (enqueue p q s).choices = s.choices ∧
    (enqueue p q s).now = s.now ∧
    (enqueue p q s).straps = s.straps ∧
    (enqueue p q s).settings = s.settings ∧
    (enqueue p q s).items = s.items ∧
    (enqueue p q s).labels = s.labels ∧
    (enqueue p q s).disp = s.disp ∧
    (enqueue p q s).till = s.till ∧
    (enqueue p q s).journal = s.journal ∧
    (enqueue p q s).clock = s.clock ∧
    (enqueue p q s).windowIn = s.windowIn ∧
    (enqueue p q s).sched = s.sched ∧
    (enqueue p q s).exch = s.exch ∧
    (enqueue p q s).uplink = s.uplink ∧
    (enqueue p q s).stations = s.stations ∧
    (enqueue p q s).guest = s.guest ∧
    (enqueue p q s).mon = s.mon ∧
    (enqueue p q s).mgmt = s.mgmt := by
  unfold enqueue; simp

@[simp] theorem offerForwarded_frame (p : Port) (q : QFrame) (s : State) :
    (offerForwarded p q s).pending = s.pending ∧
    (offerForwarded p q s).choices = s.choices ∧
    (offerForwarded p q s).now = s.now ∧
    (offerForwarded p q s).straps = s.straps ∧
    (offerForwarded p q s).settings = s.settings ∧
    (offerForwarded p q s).items = s.items ∧
    (offerForwarded p q s).labels = s.labels ∧
    (offerForwarded p q s).disp = s.disp ∧
    (offerForwarded p q s).till = s.till ∧
    (offerForwarded p q s).journal = s.journal ∧
    (offerForwarded p q s).clock = s.clock ∧
    (offerForwarded p q s).windowIn = s.windowIn ∧
    (offerForwarded p q s).sched = s.sched ∧
    (offerForwarded p q s).exch = s.exch ∧
    (offerForwarded p q s).uplink = s.uplink ∧
    (offerForwarded p q s).stations = s.stations ∧
    (offerForwarded p q s).guest = s.guest ∧
    (offerForwarded p q s).mgmt = s.mgmt := by
  unfold offerForwarded
  (repeat' split) <;> simp

@[simp] theorem removeFrames_frame (p : Port) (sel : QFrame → Bool) (why : QFrame → List Occ) (s : State) :
    (removeFrames p sel why s).pending = s.pending ∧
    (removeFrames p sel why s).choices = s.choices ∧
    (removeFrames p sel why s).now = s.now ∧
    (removeFrames p sel why s).straps = s.straps ∧
    (removeFrames p sel why s).settings = s.settings ∧
    (removeFrames p sel why s).items = s.items ∧
    (removeFrames p sel why s).labels = s.labels ∧
    (removeFrames p sel why s).disp = s.disp ∧
    (removeFrames p sel why s).till = s.till ∧
    (removeFrames p sel why s).journal = s.journal ∧
    (removeFrames p sel why s).clock = s.clock ∧
    (removeFrames p sel why s).windowIn = s.windowIn ∧
    (removeFrames p sel why s).sched = s.sched ∧
    (removeFrames p sel why s).exch = s.exch ∧
    (removeFrames p sel why s).uplink = s.uplink ∧
    (removeFrames p sel why s).stations = s.stations ∧
    (removeFrames p sel why s).guest = s.guest ∧
    (removeFrames p sel why s).mgmt = s.mgmt := by
  unfold removeFrames
  dsimp only
  (repeat' split) <;> simp

@[simp] theorem offer_frame (g : Generator) (m : Msg) (s : State) :
    (offer g m s).2.pending = s.pending ∧
    (offer g m s).2.choices = s.choices ∧
    (offer g m s).2.now = s.now ∧
    (offer g m s).2.straps = s.straps ∧
    (offer g m s).2.settings = s.settings ∧
    (offer g m s).2.items = s.items ∧
    (offer g m s).2.labels = s.labels ∧
    (offer g m s).2.disp = s.disp ∧
    (offer g m s).2.till = s.till ∧
    (offer g m s).2.journal = s.journal ∧
    (offer g m s).2.clock = s.clock ∧
    (offer g m s).2.windowIn = s.windowIn ∧
    (offer g m s).2.sched = s.sched ∧
    (offer g m s).2.exch = s.exch ∧
    (offer g m s).2.uplink = s.uplink ∧
    (offer g m s).2.stations = s.stations ∧
    (offer g m s).2.guest = s.guest ∧
    (offer g m s).2.mgmt = s.mgmt := by
  unfold offer
  dsimp only
  (repeat' split) <;> simp

@[simp] theorem offerInTurn_frame (g : Generator) (l : List Msg) (s : State) :
    (offerInTurn g l s).2.pending = s.pending ∧
    (offerInTurn g l s).2.choices = s.choices ∧
    (offerInTurn g l s).2.now = s.now ∧
    (offerInTurn g l s).2.straps = s.straps ∧
    (offerInTurn g l s).2.settings = s.settings ∧
    (offerInTurn g l s).2.items = s.items ∧
    (offerInTurn g l s).2.labels = s.labels ∧
    (offerInTurn g l s).2.disp = s.disp ∧
    (offerInTurn g l s).2.till = s.till ∧
    (offerInTurn g l s).2.journal = s.journal ∧
    (offerInTurn g l s).2.clock = s.clock ∧
    (offerInTurn g l s).2.windowIn = s.windowIn ∧
    (offerInTurn g l s).2.sched = s.sched ∧
    (offerInTurn g l s).2.exch = s.exch ∧
    (offerInTurn g l s).2.uplink = s.uplink ∧
    (offerInTurn g l s).2.stations = s.stations ∧
    (offerInTurn g l s).2.guest = s.guest ∧
    (offerInTurn g l s).2.mgmt = s.mgmt := by
  induction l generalizing s with
  | nil => simp [offerInTurn]
  | cons a l ih =>
    unfold offerInTurn
    dsimp only
    split <;> simp [ih]

@[simp] theorem startPulse_frame (s : State) :
    (startPulse s).pending = s.pending ∧
    (startPulse s).choices = s.choices ∧
    (startPulse s).now = s.now ∧
    (startPulse s).straps = s.straps ∧
    (startPulse s).settings = s.settings ∧
    (startPulse s).items = s.items ∧
    (startPulse s).labels = s.labels ∧
    (startPulse s).disp = s.disp ∧
    (startPulse s).till = s.till ∧
    (startPulse s).journal = s.journal ∧
    (startPulse s).clock = s.clock ∧
    (startPulse s).windowIn = s.windowIn ∧
    (startPulse s).sched = s.sched ∧
    (startPulse s).exch = s.exch ∧
    (startPulse s).uplink = s.uplink ∧
    (startPulse s).pool = s.pool ∧
    (startPulse s).stations = s.stations ∧
    (startPulse s).guest = s.guest ∧
    (startPulse s).mon = s.mon := by
  unfold startPulse
  dsimp only
  (repeat' split) <;> simp

@[simp] theorem sendOut_frame (i : OutItem) (s : State) :
    (sendOut i s).pending = s.pending ∧
    (sendOut i s).choices = s.choices ∧
    (sendOut i s).now = s.now ∧
    (sendOut i s).straps = s.straps ∧
    (sendOut i s).settings = s.settings ∧
    (sendOut i s).items = s.items ∧
    (sendOut i s).labels = s.labels ∧
    (sendOut i s).disp = s.disp ∧
    (sendOut i s).till = s.till ∧
    (sendOut i s).journal = s.journal ∧
    (sendOut i s).clock = s.clock ∧
    (sendOut i s).windowIn = s.windowIn ∧
    (sendOut i s).sched = s.sched ∧
    (sendOut i s).exch = s.exch ∧
    (sendOut i s).uplink = s.uplink ∧
    (sendOut i s).stations = s.stations ∧
    (sendOut i s).guest = s.guest := by
  unfold sendOut sendBehind offerOr
  (repeat' split) <;> simp

@[simp] theorem outboxInTurn_frame (l : List OutItem) (s : State) :
    (outboxInTurn l s).2.pending = s.pending ∧
    (outboxInTurn l s).2.choices = s.choices ∧
    (outboxInTurn l s).2.now = s.now ∧
    (outboxInTurn l s).2.straps = s.straps ∧
    (outboxInTurn l s).2.settings = s.settings ∧
    (outboxInTurn l s).2.items = s.items ∧
    (outboxInTurn l s).2.labels = s.labels ∧
    (outboxInTurn l s).2.disp = s.disp ∧
    (outboxInTurn l s).2.till = s.till ∧
    (outboxInTurn l s).2.journal = s.journal ∧
    (outboxInTurn l s).2.clock = s.clock ∧
    (outboxInTurn l s).2.windowIn = s.windowIn ∧
    (outboxInTurn l s).2.sched = s.sched ∧
    (outboxInTurn l s).2.exch = s.exch ∧
    (outboxInTurn l s).2.uplink = s.uplink ∧
    (outboxInTurn l s).2.stations = s.stations ∧
    (outboxInTurn l s).2.guest = s.guest ∧
    (outboxInTurn l s).2.mgmt = s.mgmt := by
  induction l generalizing s with
  | nil => simp [outboxInTurn]
  | cons a l ih =>
    unfold outboxInTurn
    dsimp only
    split <;> simp [ih]

@[simp] theorem sendNotice_frame (n : Notice) (s : State) :
    (sendNotice n s).pending = s.pending ∧
    (sendNotice n s).choices = s.choices ∧
    (sendNotice n s).now = s.now ∧
    (sendNotice n s).straps = s.straps ∧
    (sendNotice n s).settings = s.settings ∧
    (sendNotice n s).items = s.items ∧
    (sendNotice n s).labels = s.labels ∧
    (sendNotice n s).disp = s.disp ∧
    (sendNotice n s).till = s.till ∧
    (sendNotice n s).journal = s.journal ∧
    (sendNotice n s).clock = s.clock ∧
    (sendNotice n s).windowIn = s.windowIn ∧
    (sendNotice n s).sched = s.sched ∧
    (sendNotice n s).exch = s.exch ∧
    (sendNotice n s).uplink = s.uplink ∧
    (sendNotice n s).stations = s.stations ∧
    (sendNotice n s).guest = s.guest := by
  unfold sendNotice
  dsimp only
  (repeat' split) <;> simp

@[simp] theorem sendUnsent_frame (s : State) :
    (sendUnsent s).pending = s.pending ∧
    (sendUnsent s).choices = s.choices ∧
    (sendUnsent s).now = s.now ∧
    (sendUnsent s).straps = s.straps ∧
    (sendUnsent s).settings = s.settings ∧
    (sendUnsent s).items = s.items ∧
    (sendUnsent s).labels = s.labels ∧
    (sendUnsent s).disp = s.disp ∧
    (sendUnsent s).till = s.till ∧
    (sendUnsent s).journal = s.journal ∧
    (sendUnsent s).clock = s.clock ∧
    (sendUnsent s).windowIn = s.windowIn ∧
    (sendUnsent s).sched = s.sched ∧
    (sendUnsent s).exch = s.exch ∧
    (sendUnsent s).uplink = s.uplink ∧
    (sendUnsent s).stations = s.stations ∧
    (sendUnsent s).guest = s.guest := by
  unfold sendUnsent
  generalize s.mgmt.notices.filter _ = l
  induction l generalizing s with
  | nil => simp
  | cons a l ih => simp [ih]

@[simp] theorem raiseNotice_frame (b : NoticeBody) (s : State) :
    (raiseNotice b s).pending = s.pending ∧
    (raiseNotice b s).choices = s.choices ∧
    (raiseNotice b s).now = s.now ∧
    (raiseNotice b s).straps = s.straps ∧
    (raiseNotice b s).settings = s.settings ∧
    (raiseNotice b s).items = s.items ∧
    (raiseNotice b s).labels = s.labels ∧
    (raiseNotice b s).disp = s.disp ∧
    (raiseNotice b s).till = s.till ∧
    (raiseNotice b s).journal = s.journal ∧
    (raiseNotice b s).clock = s.clock ∧
    (raiseNotice b s).windowIn = s.windowIn ∧
    (raiseNotice b s).sched = s.sched ∧
    (raiseNotice b s).exch = s.exch ∧
    (raiseNotice b s).uplink = s.uplink ∧
    (raiseNotice b s).stations = s.stations ∧
    (raiseNotice b s).guest = s.guest := by
  unfold raiseNotice
  dsimp only
  simp

@[simp] theorem answer_frame (r : Request) (o : MgmtResult) (d : List Byte) (s : State) :
    (answer r o d s).pending = s.pending ∧
    (answer r o d s).choices = s.choices ∧
    (answer r o d s).now = s.now ∧
    (answer r o d s).straps = s.straps ∧
    (answer r o d s).settings = s.settings ∧
    (answer r o d s).items = s.items ∧
    (answer r o d s).labels = s.labels ∧
    (answer r o d s).disp = s.disp ∧
    (answer r o d s).till = s.till ∧
    (answer r o d s).journal = s.journal ∧
    (answer r o d s).clock = s.clock ∧
    (answer r o d s).windowIn = s.windowIn ∧
    (answer r o d s).sched = s.sched ∧
    (answer r o d s).exch = s.exch ∧
    (answer r o d s).uplink = s.uplink ∧
    (answer r o d s).stations = s.stations ∧
    (answer r o d s).guest = s.guest := by
  unfold answer
  simp

@[simp] theorem owe_frame (n : Nat) (s : State) :
    (owe n s).pending = s.pending ∧
    (owe n s).choices = s.choices ∧
    (owe n s).now = s.now ∧
    (owe n s).straps = s.straps ∧
    (owe n s).settings = s.settings ∧
    (owe n s).items = s.items ∧
    (owe n s).till = s.till ∧
    (owe n s).journal = s.journal ∧
    (owe n s).clock = s.clock ∧
    (owe n s).windowIn = s.windowIn ∧
    (owe n s).sched = s.sched ∧
    (owe n s).exch = s.exch ∧
    (owe n s).uplink = s.uplink ∧
    (owe n s).pool = s.pool ∧
    (owe n s).stations = s.stations ∧
    (owe n s).guest = s.guest ∧
    (owe n s).mgmt = s.mgmt := by
  unfold owe
  dsimp only
  (repeat' split) <;> simp

@[simp] theorem oweAll_frame (l : List Nat) (s : State) :
    (oweAll l s).pending = s.pending ∧
    (oweAll l s).choices = s.choices ∧
    (oweAll l s).now = s.now ∧
    (oweAll l s).straps = s.straps ∧
    (oweAll l s).settings = s.settings ∧
    (oweAll l s).items = s.items ∧
    (oweAll l s).till = s.till ∧
    (oweAll l s).journal = s.journal ∧
    (oweAll l s).clock = s.clock ∧
    (oweAll l s).windowIn = s.windowIn ∧
    (oweAll l s).sched = s.sched ∧
    (oweAll l s).exch = s.exch ∧
    (oweAll l s).uplink = s.uplink ∧
    (oweAll l s).pool = s.pool ∧
    (oweAll l s).stations = s.stations ∧
    (oweAll l s).guest = s.guest ∧
    (oweAll l s).mgmt = s.mgmt := by
  unfold oweAll
  induction l generalizing s with
  | nil => simp
  | cons a l ih => simp [ih]

@[simp] theorem sweepOne_frame (n : Nat) (s : State) :
    (sweepOne s n).pending = s.pending ∧
    (sweepOne s n).choices = s.choices ∧
    (sweepOne s n).now = s.now ∧
    (sweepOne s n).straps = s.straps ∧
    (sweepOne s n).settings = s.settings ∧
    (sweepOne s n).items = s.items ∧
    (sweepOne s n).till = s.till ∧
    (sweepOne s n).journal = s.journal ∧
    (sweepOne s n).clock = s.clock ∧
    (sweepOne s n).windowIn = s.windowIn ∧
    (sweepOne s n).sched = s.sched ∧
    (sweepOne s n).exch = s.exch ∧
    (sweepOne s n).uplink = s.uplink ∧
    (sweepOne s n).pool = s.pool ∧
    (sweepOne s n).stations = s.stations ∧
    (sweepOne s n).guest = s.guest ∧
    (sweepOne s n).mon = s.mon ∧
    (sweepOne s n).mgmt = s.mgmt := by
  unfold sweepOne
  (repeat' split) <;> simp

@[simp] theorem removeEntry_frame (n : Nat) (s : State) :
    (removeEntry n s).pending = s.pending ∧
    (removeEntry n s).choices = s.choices ∧
    (removeEntry n s).now = s.now ∧
    (removeEntry n s).straps = s.straps ∧
    (removeEntry n s).settings = s.settings ∧
    (removeEntry n s).items = s.items ∧
    (removeEntry n s).till = s.till ∧
    (removeEntry n s).journal = s.journal ∧
    (removeEntry n s).clock = s.clock ∧
    (removeEntry n s).windowIn = s.windowIn ∧
    (removeEntry n s).sched = s.sched ∧
    (removeEntry n s).exch = s.exch ∧
    (removeEntry n s).uplink = s.uplink ∧
    (removeEntry n s).pool = s.pool ∧
    (removeEntry n s).stations = s.stations ∧
    (removeEntry n s).guest = s.guest ∧
    (removeEntry n s).mon = s.mon ∧
    (removeEntry n s).mgmt = s.mgmt := by
  unfold removeEntry
  dsimp only
  generalize State.overflowed _ = l
  have h : ∀ t, t = setQueue (List.filter (fun e => !e.label == n) s.disp.queue) s → (t.pending = s.pending ∧
    t.choices = s.choices ∧
    t.now = s.now ∧
    t.straps = s.straps ∧
    t.settings = s.settings ∧
    t.items = s.items ∧
    t.till = s.till ∧
    t.journal = s.journal ∧
    t.clock = s.clock ∧
    t.windowIn = s.windowIn ∧
    t.sched = s.sched ∧
    t.exch = s.exch ∧
    t.uplink = s.uplink ∧
    t.pool = s.pool ∧
    t.stations = s.stations ∧
    t.guest = s.guest ∧
    t.mon = s.mon ∧
    t.mgmt = s.mgmt) := by
    intro t ht; subst ht; simp
  revert h
  generalize setQueue _ s = t
  intro h
  have h := h t rfl
  clear * - h
  induction l generalizing t with
  | nil => simpa using h
  | cons a l ih => exact ih (sweepOne t a) (by simpa using h)

@[simp] theorem backToWaiting_frame (n k : Nat) (s : State) :
    (backToWaiting n k s).pending = s.pending ∧
    (backToWaiting n k s).choices = s.choices ∧
    (backToWaiting n k s).now = s.now ∧
    (backToWaiting n k s).straps = s.straps ∧
    (backToWaiting n k s).settings = s.settings ∧
    (backToWaiting n k s).items = s.items ∧
    (backToWaiting n k s).labels = s.labels ∧
    (backToWaiting n k s).till = s.till ∧
    (backToWaiting n k s).journal = s.journal ∧
    (backToWaiting n k s).clock = s.clock ∧
    (backToWaiting n k s).windowIn = s.windowIn ∧
    (backToWaiting n k s).sched = s.sched ∧
    (backToWaiting n k s).exch = s.exch ∧
    (backToWaiting n k s).uplink = s.uplink ∧
    (backToWaiting n k s).pool = s.pool ∧
    (backToWaiting n k s).stations = s.stations ∧
    (backToWaiting n k s).guest = s.guest ∧
    (backToWaiting n k s).mon = s.mon ∧
    (backToWaiting n k s).mgmt = s.mgmt := by
  unfold backToWaiting
  simp

@[simp] theorem fly_frame (e : LabelEntry) (tag : Nat) (s : State) :
    (fly e tag s).pending = s.pending ∧
    (fly e tag s).choices = s.choices ∧
    (fly e tag s).now = s.now ∧
    (fly e tag s).straps = s.straps ∧
    (fly e tag s).settings = s.settings ∧
    (fly e tag s).items = s.items ∧
    (fly e tag s).labels = s.labels ∧
    (fly e tag s).till = s.till ∧
    (fly e tag s).journal = s.journal ∧
    (fly e tag s).clock = s.clock ∧
    (fly e tag s).windowIn = s.windowIn ∧
    (fly e tag s).sched = s.sched ∧
    (fly e tag s).exch = s.exch ∧
    (fly e tag s).uplink = s.uplink ∧
    (fly e tag s).pool = s.pool ∧
    (fly e tag s).stations = s.stations ∧
    (fly e tag s).guest = s.guest ∧
    (fly e tag s).mon = s.mon ∧
    (fly e tag s).mgmt = s.mgmt := by
  unfold fly
  dsimp only
  simp

@[simp] theorem push_frame (e : LabelEntry) (a : Addr) (s : State) :
    (push e a s).pending = s.pending ∧
    (push e a s).choices = s.choices ∧
    (push e a s).now = s.now ∧
    (push e a s).straps = s.straps ∧
    (push e a s).settings = s.settings ∧
    (push e a s).items = s.items ∧
    (push e a s).labels = s.labels ∧
    (push e a s).till = s.till ∧
    (push e a s).journal = s.journal ∧
    (push e a s).clock = s.clock ∧
    (push e a s).windowIn = s.windowIn ∧
    (push e a s).sched = s.sched ∧
    (push e a s).exch = s.exch ∧
    (push e a s).uplink = s.uplink ∧
    (push e a s).stations = s.stations ∧
    (push e a s).guest = s.guest ∧
    (push e a s).mgmt = s.mgmt := by
  unfold push offerOr
  dsimp only
  (repeat' split) <;> simp

@[simp] theorem dispatchLoop_frame (n : Nat) (s : State) :
    (dispatchLoop n s).pending = s.pending ∧
    (dispatchLoop n s).choices = s.choices ∧
    (dispatchLoop n s).now = s.now ∧
    (dispatchLoop n s).straps = s.straps ∧
    (dispatchLoop n s).settings = s.settings ∧
    (dispatchLoop n s).items = s.items ∧
    (dispatchLoop n s).till = s.till ∧
    (dispatchLoop n s).journal = s.journal ∧
    (dispatchLoop n s).clock = s.clock ∧
    (dispatchLoop n s).windowIn = s.windowIn ∧
    (dispatchLoop n s).sched = s.sched ∧
    (dispatchLoop n s).exch = s.exch ∧
    (dispatchLoop n s).uplink = s.uplink ∧
    (dispatchLoop n s).stations = s.stations ∧
    (dispatchLoop n s).guest = s.guest ∧
    (dispatchLoop n s).mgmt = s.mgmt := by
  induction n generalizing s with
  | zero => simp [dispatchLoop]
  | succ n ih =>
    unfold dispatchLoop
    (repeat' split) <;> simp [ih]

@[simp] theorem dispatch_frame (s : State) :
    (dispatch s).pending = s.pending ∧
    (dispatch s).choices = s.choices ∧
    (dispatch s).now = s.now ∧
    (dispatch s).straps = s.straps ∧
    (dispatch s).settings = s.settings ∧
    (dispatch s).items = s.items ∧
    (dispatch s).till = s.till ∧
    (dispatch s).journal = s.journal ∧
    (dispatch s).clock = s.clock ∧
    (dispatch s).windowIn = s.windowIn ∧
    (dispatch s).sched = s.sched ∧
    (dispatch s).exch = s.exch ∧
    (dispatch s).uplink = s.uplink ∧
    (dispatch s).stations = s.stations ∧
    (dispatch s).guest = s.guest ∧
    (dispatch s).mgmt = s.mgmt := by
  unfold dispatch
  simp

@[simp] theorem dispatchOn_frame (b : State) (s : State) :
    (dispatchOn b s).pending = s.pending ∧
    (dispatchOn b s).choices = s.choices ∧
    (dispatchOn b s).now = s.now ∧
    (dispatchOn b s).straps = s.straps ∧
    (dispatchOn b s).settings = s.settings ∧
    (dispatchOn b s).items = s.items ∧
    (dispatchOn b s).till = s.till ∧
    (dispatchOn b s).journal = s.journal ∧
    (dispatchOn b s).clock = s.clock ∧
    (dispatchOn b s).windowIn = s.windowIn ∧
    (dispatchOn b s).sched = s.sched ∧
    (dispatchOn b s).exch = s.exch ∧
    (dispatchOn b s).uplink = s.uplink ∧
    (dispatchOn b s).stations = s.stations ∧
    (dispatchOn b s).guest = s.guest ∧
    (dispatchOn b s).mgmt = s.mgmt := by
  unfold dispatchOn
  split <;> simp

@[simp] theorem takeShown_frame (e : LabelEntry) (g : Flight) (s : State) :
    (takeShown e g s).pending = s.pending ∧
    (takeShown e g s).choices = s.choices ∧
    (takeShown e g s).now = s.now ∧
    (takeShown e g s).straps = s.straps ∧
    (takeShown e g s).settings = s.settings ∧
    (takeShown e g s).items = s.items ∧
    (takeShown e g s).till = s.till ∧
    (takeShown e g s).journal = s.journal ∧
    (takeShown e g s).clock = s.clock ∧
    (takeShown e g s).windowIn = s.windowIn ∧
    (takeShown e g s).sched = s.sched ∧
    (takeShown e g s).exch = s.exch ∧
    (takeShown e g s).uplink = s.uplink ∧
    (takeShown e g s).pool = s.pool ∧
    (takeShown e g s).stations = s.stations ∧
    (takeShown e g s).guest = s.guest ∧
    (takeShown e g s).mon = s.mon ∧
    (takeShown e g s).mgmt = s.mgmt := by
  unfold takeShown
  dsimp only
  (repeat' split) <;> simp

@[simp] theorem giveUp_frame (e : LabelEntry) (o : Option FailOutcome) (s : State) :
    (giveUp e o s).pending = s.pending ∧
    (giveUp e o s).choices = s.choices ∧
    (giveUp e o s).now = s.now ∧
    (giveUp e o s).straps = s.straps ∧
    (giveUp e o s).settings = s.settings ∧
    (giveUp e o s).items = s.items ∧
    (giveUp e o s).till = s.till ∧
    (giveUp e o s).journal = s.journal ∧
    (giveUp e o s).clock = s.clock ∧
    (giveUp e o s).windowIn = s.windowIn ∧
    (giveUp e o s).sched = s.sched ∧
    (giveUp e o s).exch = s.exch ∧
    (giveUp e o s).uplink = s.uplink ∧
    (giveUp e o s).stations = s.stations ∧
    (giveUp e o s).guest = s.guest := by
  unfold giveUp
  dsimp only
  simp

@[simp] theorem takeFailure_frame (e : LabelEntry) (g : Flight) (o : FailOutcome) (s : State) :
    (takeFailure e g o s).pending = s.pending ∧
    (takeFailure e g o s).choices = s.choices ∧
    (takeFailure e g o s).now = s.now ∧
    (takeFailure e g o s).straps = s.straps ∧
    (takeFailure e g o s).settings = s.settings ∧
    (takeFailure e g o s).items = s.items ∧
    (takeFailure e g o s).till = s.till ∧
    (takeFailure e g o s).journal = s.journal ∧
    (takeFailure e g o s).clock = s.clock ∧
    (takeFailure e g o s).windowIn = s.windowIn ∧
    (takeFailure e g o s).sched = s.sched ∧
    (takeFailure e g o s).exch = s.exch ∧
    (takeFailure e g o s).uplink = s.uplink ∧
    (takeFailure e g o s).stations = s.stations ∧
    (takeFailure e g o s).guest = s.guest := by
  unfold takeFailure
  dsimp only
  (repeat' split) <;> simp

@[simp] theorem expirePush_frame (tag : Nat) (s : State) :
    (expirePush tag s).pending = s.pending ∧
    (expirePush tag s).choices = s.choices ∧
    (expirePush tag s).now = s.now ∧
    (expirePush tag s).straps = s.straps ∧
    (expirePush tag s).settings = s.settings ∧
    (expirePush tag s).items = s.items ∧
    (expirePush tag s).till = s.till ∧
    (expirePush tag s).journal = s.journal ∧
    (expirePush tag s).clock = s.clock ∧
    (expirePush tag s).windowIn = s.windowIn ∧
    (expirePush tag s).sched = s.sched ∧
    (expirePush tag s).exch = s.exch ∧
    (expirePush tag s).uplink = s.uplink ∧
    (expirePush tag s).stations = s.stations ∧
    (expirePush tag s).guest = s.guest := by
  unfold expirePush
  (repeat' split) <;> simp

@[simp] theorem expirePushes_frame (s : State) :
    (expirePushes s).pending = s.pending ∧
    (expirePushes s).choices = s.choices ∧
    (expirePushes s).now = s.now ∧
    (expirePushes s).straps = s.straps ∧
    (expirePushes s).settings = s.settings ∧
    (expirePushes s).items = s.items ∧
    (expirePushes s).till = s.till ∧
    (expirePushes s).journal = s.journal ∧
    (expirePushes s).clock = s.clock ∧
    (expirePushes s).windowIn = s.windowIn ∧
    (expirePushes s).sched = s.sched ∧
    (expirePushes s).exch = s.exch ∧
    (expirePushes s).uplink = s.uplink ∧
    (expirePushes s).stations = s.stations ∧
    (expirePushes s).guest = s.guest := by
  unfold expirePushes
  generalize List.map _ _ = l
  simp only [dispatchOn_frame]
  induction l generalizing s with
  | nil => simp
  | cons a l ih => simp [ih]

@[simp] theorem takeLabelResult_frame (a : Addr) (b : List Byte) (s : State) :
    (takeLabelResult a b s).pending = s.pending ∧
    (takeLabelResult a b s).choices = s.choices ∧
    (takeLabelResult a b s).now = s.now ∧
    (takeLabelResult a b s).straps = s.straps ∧
    (takeLabelResult a b s).settings = s.settings ∧
    (takeLabelResult a b s).items = s.items ∧
    (takeLabelResult a b s).till = s.till ∧
    (takeLabelResult a b s).journal = s.journal ∧
    (takeLabelResult a b s).clock = s.clock ∧
    (takeLabelResult a b s).windowIn = s.windowIn ∧
    (takeLabelResult a b s).sched = s.sched ∧
    (takeLabelResult a b s).exch = s.exch ∧
    (takeLabelResult a b s).uplink = s.uplink ∧
    (takeLabelResult a b s).stations = s.stations ∧
    (takeLabelResult a b s).guest = s.guest := by
  unfold takeLabelResult
  dsimp only
  (repeat' split) <;> simp

@[simp] theorem recallEntry_frame (e : LabelEntry) (g : Flight) (s : State) :
    (recallEntry e g s).pending = s.pending ∧
    (recallEntry e g s).choices = s.choices ∧
    (recallEntry e g s).now = s.now ∧
    (recallEntry e g s).straps = s.straps ∧
    (recallEntry e g s).settings = s.settings ∧
    (recallEntry e g s).items = s.items ∧
    (recallEntry e g s).labels = s.labels ∧
    (recallEntry e g s).till = s.till ∧
    (recallEntry e g s).journal = s.journal ∧
    (recallEntry e g s).clock = s.clock ∧
    (recallEntry e g s).windowIn = s.windowIn ∧
    (recallEntry e g s).sched = s.sched ∧
    (recallEntry e g s).exch = s.exch ∧
    (recallEntry e g s).uplink = s.uplink ∧
    (recallEntry e g s).pool = s.pool ∧
    (recallEntry e g s).stations = s.stations ∧
    (recallEntry e g s).guest = s.guest ∧
    (recallEntry e g s).mon = s.mon ∧
    (recallEntry e g s).mgmt = s.mgmt := by
  unfold recallEntry
  dsimp only
  (repeat' split) <;> simp

@[simp] theorem recallLatest_frame (b n : Nat) (s : State) :
    (recallLatest b n s).pending = s.pending ∧
    (recallLatest b n s).choices = s.choices ∧
    (recallLatest b n s).now = s.now ∧
    (recallLatest b n s).straps = s.straps ∧
    (recallLatest b n s).settings = s.settings ∧
    (recallLatest b n s).items = s.items ∧
    (recallLatest b n s).labels = s.labels ∧
    (recallLatest b n s).till = s.till ∧
    (recallLatest b n s).journal = s.journal ∧
    (recallLatest b n s).clock = s.clock ∧
    (recallLatest b n s).windowIn = s.windowIn ∧
    (recallLatest b n s).sched = s.sched ∧
    (recallLatest b n s).exch = s.exch ∧
    (recallLatest b n s).uplink = s.uplink ∧
    (recallLatest b n s).pool = s.pool ∧
    (recallLatest b n s).stations = s.stations ∧
    (recallLatest b n s).guest = s.guest ∧
    (recallLatest b n s).mon = s.mon ∧
    (recallLatest b n s).mgmt = s.mgmt := by
  induction n generalizing s with
  | zero => simp [recallLatest]
  | succ n ih =>
    unfold recallLatest
    split <;> simp [ih]

@[simp] theorem recallSurplus_frame (s : State) :
    (recallSurplus s).pending = s.pending ∧
    (recallSurplus s).choices = s.choices ∧
    (recallSurplus s).now = s.now ∧
    (recallSurplus s).straps = s.straps ∧
    (recallSurplus s).settings = s.settings ∧
    (recallSurplus s).items = s.items ∧
    (recallSurplus s).till = s.till ∧
    (recallSurplus s).journal = s.journal ∧
    (recallSurplus s).clock = s.clock ∧
    (recallSurplus s).windowIn = s.windowIn ∧
    (recallSurplus s).sched = s.sched ∧
    (recallSurplus s).exch = s.exch ∧
    (recallSurplus s).uplink = s.uplink ∧
    (recallSurplus s).stations = s.stations ∧
    (recallSurplus s).guest = s.guest ∧
    (recallSurplus s).mgmt = s.mgmt := by
  unfold recallSurplus
  generalize List.range 8 = l
  simp only [dispatchOn_frame]
  induction l generalizing s with
  | nil => simp
  | cons a l ih => simp [ih]

@[simp] theorem reofferPush_frame (s : State) :
    (reofferPush s).pending = s.pending ∧
    (reofferPush s).choices = s.choices ∧
    (reofferPush s).now = s.now ∧
    (reofferPush s).straps = s.straps ∧
    (reofferPush s).settings = s.settings ∧
    (reofferPush s).items = s.items ∧
    (reofferPush s).till = s.till ∧
    (reofferPush s).journal = s.journal ∧
    (reofferPush s).clock = s.clock ∧
    (reofferPush s).windowIn = s.windowIn ∧
    (reofferPush s).sched = s.sched ∧
    (reofferPush s).exch = s.exch ∧
    (reofferPush s).uplink = s.uplink ∧
    (reofferPush s).stations = s.stations ∧
    (reofferPush s).guest = s.guest ∧
    (reofferPush s).mgmt = s.mgmt := by
  unfold reofferPush
  dsimp only
  (repeat' split) <;> simp

@[simp] theorem labelsResetTraffic_frame (s : State) :
    (labelsResetTraffic s).pending = s.pending ∧
    (labelsResetTraffic s).choices = s.choices ∧
    (labelsResetTraffic s).now = s.now ∧
    (labelsResetTraffic s).straps = s.straps ∧
    (labelsResetTraffic s).settings = s.settings ∧
    (labelsResetTraffic s).items = s.items ∧
    (labelsResetTraffic s).labels = s.labels ∧
    (labelsResetTraffic s).till = s.till ∧
    (labelsResetTraffic s).journal = s.journal ∧
    (labelsResetTraffic s).clock = s.clock ∧
    (labelsResetTraffic s).windowIn = s.windowIn ∧
    (labelsResetTraffic s).sched = s.sched ∧
    (labelsResetTraffic s).exch = s.exch ∧
    (labelsResetTraffic s).uplink = s.uplink ∧
    (labelsResetTraffic s).pool = s.pool ∧
    (labelsResetTraffic s).stations = s.stations ∧
    (labelsResetTraffic s).guest = s.guest ∧
    (labelsResetTraffic s).mon = s.mon ∧
    (labelsResetTraffic s).mgmt = s.mgmt := by
  unfold labelsResetTraffic
  generalize State.flightsInOrder _ = l
  dsimp only
  induction l generalizing s with
  | nil => simp
  | cons a l ih => simp [ih]

@[simp] theorem noteBound_frame (n : Nat) (b : Option Nat) (s : State) :
    (noteBound n b s).pending = s.pending ∧
    (noteBound n b s).choices = s.choices ∧
    (noteBound n b s).now = s.now ∧
    (noteBound n b s).straps = s.straps ∧
    (noteBound n b s).settings = s.settings ∧
    (noteBound n b s).items = s.items ∧
    (noteBound n b s).till = s.till ∧
    (noteBound n b s).journal = s.journal ∧
    (noteBound n b s).clock = s.clock ∧
    (noteBound n b s).windowIn = s.windowIn ∧
    (noteBound n b s).sched = s.sched ∧
    (noteBound n b s).exch = s.exch ∧
    (noteBound n b s).uplink = s.uplink ∧
    (noteBound n b s).pool = s.pool ∧
    (noteBound n b s).stations = s.stations ∧
    (noteBound n b s).guest = s.guest ∧
    (noteBound n b s).mon = s.mon ∧
    (noteBound n b s).mgmt = s.mgmt := by
  unfold noteBound
  dsimp only
  (repeat' split) <;> simp

@[simp] theorem writeItem_frame (c : Nat) (g : ItemFields) (s : State) :
    (writeItem c g s).2.pending = s.pending ∧
    (writeItem c g s).2.choices = s.choices ∧
    (writeItem c g s).2.now = s.now ∧
    (writeItem c g s).2.straps = s.straps ∧
    (writeItem c g s).2.settings = s.settings ∧
    (writeItem c g s).2.till = s.till ∧
    (writeItem c g s).2.journal = s.journal ∧
    (writeItem c g s).2.clock = s.clock ∧
    (writeItem c g s).2.windowIn = s.windowIn ∧
    (writeItem c g s).2.sched = s.sched ∧
    (writeItem c g s).2.exch = s.exch ∧
    (writeItem c g s).2.uplink = s.uplink ∧
    (writeItem c g s).2.pool = s.pool ∧
    (writeItem c g s).2.stations = s.stations ∧
    (writeItem c g s).2.guest = s.guest ∧
    (writeItem c g s).2.mgmt = s.mgmt := by
  unfold writeItem
  dsimp only
  simp

@[simp] theorem setItemLabels_frame (c : Nat) (g : List Nat → List Nat) (s : State) :
    (setItemLabels c g s).pending = s.pending ∧
    (setItemLabels c g s).choices = s.choices ∧
    (setItemLabels c g s).now = s.now ∧
    (setItemLabels c g s).straps = s.straps ∧
    (setItemLabels c g s).settings = s.settings ∧
    (setItemLabels c g s).labels = s.labels ∧
    (setItemLabels c g s).disp = s.disp ∧
    (setItemLabels c g s).till = s.till ∧
    (setItemLabels c g s).journal = s.journal ∧
    (setItemLabels c g s).clock = s.clock ∧
    (setItemLabels c g s).windowIn = s.windowIn ∧
    (setItemLabels c g s).sched = s.sched ∧
    (setItemLabels c g s).exch = s.exch ∧
    (setItemLabels c g s).uplink = s.uplink ∧
    (setItemLabels c g s).pool = s.pool ∧
    (setItemLabels c g s).stations = s.stations ∧
    (setItemLabels c g s).guest = s.guest ∧
    (setItemLabels c g s).mon = s.mon ∧
    (setItemLabels c g s).mgmt = s.mgmt := by
  unfold setItemLabels
  (repeat' split) <;> simp

@[simp] theorem bindLabel_frame (n c : Nat) (s : State) :
    (bindLabel n c s).2.pending = s.pending ∧
    (bindLabel n c s).2.choices = s.choices ∧
    (bindLabel n c s).2.now = s.now ∧
    (bindLabel n c s).2.straps = s.straps ∧
    (bindLabel n c s).2.settings = s.settings ∧
    (bindLabel n c s).2.till = s.till ∧
    (bindLabel n c s).2.journal = s.journal ∧
    (bindLabel n c s).2.clock = s.clock ∧
    (bindLabel n c s).2.windowIn = s.windowIn ∧
    (bindLabel n c s).2.sched = s.sched ∧
    (bindLabel n c s).2.exch = s.exch ∧
    (bindLabel n c s).2.uplink = s.uplink ∧
    (bindLabel n c s).2.pool = s.pool ∧
    (bindLabel n c s).2.stations = s.stations ∧
    (bindLabel n c s).2.guest = s.guest ∧
    (bindLabel n c s).2.mgmt = s.mgmt := by
  unfold bindLabel
  dsimp only
  (repeat' split) <;> simp

@[simp] theorem unbindLabel_frame (n c : Nat) (s : State) :
    (unbindLabel n c s).2.pending = s.pending ∧
    (unbindLabel n c s).2.choices = s.choices ∧
    (unbindLabel n c s).2.now = s.now ∧
    (unbindLabel n c s).2.straps = s.straps ∧
    (unbindLabel n c s).2.settings = s.settings ∧
    (unbindLabel n c s).2.till = s.till ∧
    (unbindLabel n c s).2.journal = s.journal ∧
    (unbindLabel n c s).2.clock = s.clock ∧
    (unbindLabel n c s).2.windowIn = s.windowIn ∧
    (unbindLabel n c s).2.sched = s.sched ∧
    (unbindLabel n c s).2.exch = s.exch ∧
    (unbindLabel n c s).2.uplink = s.uplink ∧
    (unbindLabel n c s).2.pool = s.pool ∧
    (unbindLabel n c s).2.stations = s.stations ∧
    (unbindLabel n c s).2.guest = s.guest ∧
    (unbindLabel n c s).2.mgmt = s.mgmt := by
  unfold unbindLabel
  (repeat' split) <;> simp

@[simp] theorem deleteItem_frame (c : Nat) (s : State) :
    (deleteItem c s).2.pending = s.pending ∧
    (deleteItem c s).2.choices = s.choices ∧
    (deleteItem c s).2.now = s.now ∧
    (deleteItem c s).2.straps = s.straps ∧
    (deleteItem c s).2.settings = s.settings ∧
    (deleteItem c s).2.till = s.till ∧
    (deleteItem c s).2.journal = s.journal ∧
    (deleteItem c s).2.clock = s.clock ∧
    (deleteItem c s).2.windowIn = s.windowIn ∧
    (deleteItem c s).2.sched = s.sched ∧
    (deleteItem c s).2.exch = s.exch ∧
    (deleteItem c s).2.uplink = s.uplink ∧
    (deleteItem c s).2.pool = s.pool ∧
    (deleteItem c s).2.stations = s.stations ∧
    (deleteItem c s).2.guest = s.guest ∧
    (deleteItem c s).2.mgmt = s.mgmt := by
  unfold deleteItem
  split
  · simp
  · rename_i r hr
    dsimp only
    clear hr
    generalize r.labels = l
    induction l generalizing s with
    | nil => simp
    | cons a l ih => simp [ih]

@[simp] theorem testHighWater_frame (s : State) :
    (testHighWater s).pending = s.pending ∧
    (testHighWater s).choices = s.choices ∧
    (testHighWater s).now = s.now ∧
    (testHighWater s).straps = s.straps ∧
    (testHighWater s).settings = s.settings ∧
    (testHighWater s).items = s.items ∧
    (testHighWater s).labels = s.labels ∧
    (testHighWater s).disp = s.disp ∧
    (testHighWater s).till = s.till ∧
    (testHighWater s).clock = s.clock ∧
    (testHighWater s).windowIn = s.windowIn ∧
    (testHighWater s).sched = s.sched ∧
    (testHighWater s).exch = s.exch ∧
    (testHighWater s).uplink = s.uplink ∧
    (testHighWater s).stations = s.stations ∧
    (testHighWater s).guest = s.guest := by
  unfold testHighWater
  dsimp only
  (repeat' split) <;> simp

@[simp] theorem testFull_frame (s : State) :
    (testFull s).pending = s.pending ∧
    (testFull s).choices = s.choices ∧
    (testFull s).now = s.now ∧
    (testFull s).straps = s.straps ∧
    (testFull s).settings = s.settings ∧
    (testFull s).items = s.items ∧
    (testFull s).labels = s.labels ∧
    (testFull s).disp = s.disp ∧
    (testFull s).till = s.till ∧
    (testFull s).clock = s.clock ∧
    (testFull s).windowIn = s.windowIn ∧
    (testFull s).sched = s.sched ∧
    (testFull s).exch = s.exch ∧
    (testFull s).uplink = s.uplink ∧
    (testFull s).stations = s.stations ∧
    (testFull s).guest = s.guest := by
  unfold testFull
  dsimp only
  (repeat' split) <;> simp

@[simp] theorem testLevels_frame (s : State) :
    (testLevels s).pending = s.pending ∧
    (testLevels s).choices = s.choices ∧
    (testLevels s).now = s.now ∧
    (testLevels s).straps = s.straps ∧
    (testLevels s).settings = s.settings ∧
    (testLevels s).items = s.items ∧
    (testLevels s).labels = s.labels ∧
    (testLevels s).disp = s.disp ∧
    (testLevels s).till = s.till ∧
    (testLevels s).clock = s.clock ∧
    (testLevels s).windowIn = s.windowIn ∧
    (testLevels s).sched = s.sched ∧
    (testLevels s).exch = s.exch ∧
    (testLevels s).uplink = s.uplink ∧
    (testLevels s).stations = s.stations ∧
    (testLevels s).guest = s.guest := by
  unfold testLevels
  simp

@[simp] theorem sendRecord_frame (r : SaleRec) (s : State) :
    (sendRecord r s).pending = s.pending ∧
    (sendRecord r s).choices = s.choices ∧
    (sendRecord r s).now = s.now ∧
    (sendRecord r s).straps = s.straps ∧
    (sendRecord r s).settings = s.settings ∧
    (sendRecord r s).items = s.items ∧
    (sendRecord r s).labels = s.labels ∧
    (sendRecord r s).disp = s.disp ∧
    (sendRecord r s).till = s.till ∧
    (sendRecord r s).clock = s.clock ∧
    (sendRecord r s).windowIn = s.windowIn ∧
    (sendRecord r s).sched = s.sched ∧
    (sendRecord r s).exch = s.exch ∧
    (sendRecord r s).uplink = s.uplink ∧
    (sendRecord r s).stations = s.stations ∧
    (sendRecord r s).guest = s.guest ∧
    (sendRecord r s).mgmt = s.mgmt := by
  unfold sendRecord offerOr
  dsimp only
  (repeat' split) <;> simp

@[simp] theorem journalSendStep_frame (s : State) :
    (journalSendStep s).pending = s.pending ∧
    (journalSendStep s).choices = s.choices ∧
    (journalSendStep s).now = s.now ∧
    (journalSendStep s).straps = s.straps ∧
    (journalSendStep s).settings = s.settings ∧
    (journalSendStep s).items = s.items ∧
    (journalSendStep s).labels = s.labels ∧
    (journalSendStep s).disp = s.disp ∧
    (journalSendStep s).till = s.till ∧
    (journalSendStep s).clock = s.clock ∧
    (journalSendStep s).windowIn = s.windowIn ∧
    (journalSendStep s).sched = s.sched ∧
    (journalSendStep s).exch = s.exch ∧
    (journalSendStep s).uplink = s.uplink ∧
    (journalSendStep s).stations = s.stations ∧
    (journalSendStep s).guest = s.guest ∧
    (journalSendStep s).mgmt = s.mgmt := by
  unfold journalSendStep
  (repeat' split) <;> simp

@[simp] theorem pacingRefillStep_frame (s : State) :
    (pacingRefillStep s).pending = s.pending ∧
    (pacingRefillStep s).choices = s.choices ∧
    (pacingRefillStep s).now = s.now ∧
    (pacingRefillStep s).straps = s.straps ∧
    (pacingRefillStep s).settings = s.settings ∧
    (pacingRefillStep s).items = s.items ∧
    (pacingRefillStep s).labels = s.labels ∧
    (pacingRefillStep s).disp = s.disp ∧
    (pacingRefillStep s).till = s.till ∧
    (pacingRefillStep s).clock = s.clock ∧
    (pacingRefillStep s).windowIn = s.windowIn ∧
    (pacingRefillStep s).sched = s.sched ∧
    (pacingRefillStep s).exch = s.exch ∧
    (pacingRefillStep s).uplink = s.uplink ∧
    (pacingRefillStep s).pool = s.pool ∧
    (pacingRefillStep s).stations = s.stations ∧
    (pacingRefillStep s).guest = s.guest ∧
    (pacingRefillStep s).mon = s.mon ∧
    (pacingRefillStep s).mgmt = s.mgmt := by
  unfold pacingRefillStep
  dsimp only
  simp

@[simp] theorem reofferSend_frame (s : State) :
    (reofferSend s).pending = s.pending ∧
    (reofferSend s).choices = s.choices ∧
    (reofferSend s).now = s.now ∧
    (reofferSend s).straps = s.straps ∧
    (reofferSend s).settings = s.settings ∧
    (reofferSend s).items = s.items ∧
    (reofferSend s).labels = s.labels ∧
    (reofferSend s).disp = s.disp ∧
    (reofferSend s).till = s.till ∧
    (reofferSend s).clock = s.clock ∧
    (reofferSend s).windowIn = s.windowIn ∧
    (reofferSend s).sched = s.sched ∧
    (reofferSend s).exch = s.exch ∧
    (reofferSend s).uplink = s.uplink ∧
    (reofferSend s).stations = s.stations ∧
    (reofferSend s).guest = s.guest ∧
    (reofferSend s).mgmt = s.mgmt := by
  unfold reofferSend
  dsimp only
  (repeat' split) <;> simp

@[simp] theorem takeValidAck_frame (n d : Nat) (s : State) :
    (takeValidAck n d s).pending = s.pending ∧
    (takeValidAck n d s).choices = s.choices ∧
    (takeValidAck n d s).now = s.now ∧
    (takeValidAck n d s).straps = s.straps ∧
    (takeValidAck n d s).settings = s.settings ∧
    (takeValidAck n d s).items = s.items ∧
    (takeValidAck n d s).labels = s.labels ∧
    (takeValidAck n d s).disp = s.disp ∧
    (takeValidAck n d s).till = s.till ∧
    (takeValidAck n d s).clock = s.clock ∧
    (takeValidAck n d s).windowIn = s.windowIn ∧
    (takeValidAck n d s).sched = s.sched ∧
    (takeValidAck n d s).exch = s.exch ∧
    (takeValidAck n d s).uplink = s.uplink ∧
    (takeValidAck n d s).stations = s.stations ∧
    (takeValidAck n d s).guest = s.guest := by
  unfold takeValidAck
  simp

@[simp] theorem takeAck_frame (n : Nat) (s : State) :
    (takeAck n s).pending = s.pending ∧
    (takeAck n s).choices = s.choices ∧
    (takeAck n s).now = s.now ∧
    (takeAck n s).straps = s.straps ∧
    (takeAck n s).settings = s.settings ∧
    (takeAck n s).items = s.items ∧
    (takeAck n s).labels = s.labels ∧
    (takeAck n s).disp = s.disp ∧
    (takeAck n s).till = s.till ∧
    (takeAck n s).clock = s.clock ∧
    (takeAck n s).windowIn = s.windowIn ∧
    (takeAck n s).sched = s.sched ∧
    (takeAck n s).exch = s.exch ∧
    (takeAck n s).uplink = s.uplink ∧
    (takeAck n s).stations = s.stations ∧
    (takeAck n s).guest = s.guest := by
  unfold takeAck
  dsimp only
  (repeat' split) <;> simp

@[simp] theorem rewind_frame (s : State) :
    (rewind s).pending = s.pending ∧
    (rewind s).choices = s.choices ∧
    (rewind s).now = s.now ∧
    (rewind s).straps = s.straps ∧
    (rewind s).settings = s.settings ∧
    (rewind s).items = s.items ∧
    (rewind s).labels = s.labels ∧
    (rewind s).disp = s.disp ∧
    (rewind s).till = s.till ∧
    (rewind s).clock = s.clock ∧
    (rewind s).windowIn = s.windowIn ∧
    (rewind s).sched = s.sched ∧
    (rewind s).exch = s.exch ∧
    (rewind s).uplink = s.uplink ∧
    (rewind s).pool = s.pool ∧
    (rewind s).stations = s.stations ∧
    (rewind s).guest = s.guest ∧
    (rewind s).mon = s.mon ∧
    (rewind s).mgmt = s.mgmt := by
  unfold rewind
  dsimp only
  simp

@[simp] theorem ackTimeoutStep_frame (s : State) :
    (ackTimeoutStep s).pending = s.pending ∧
    (ackTimeoutStep s).choices = s.choices ∧
    (ackTimeoutStep s).now = s.now ∧
    (ackTimeoutStep s).straps = s.straps ∧
    (ackTimeoutStep s).settings = s.settings ∧
    (ackTimeoutStep s).items = s.items ∧
    (ackTimeoutStep s).labels = s.labels ∧
    (ackTimeoutStep s).disp = s.disp ∧
    (ackTimeoutStep s).till = s.till ∧
    (ackTimeoutStep s).clock = s.clock ∧
    (ackTimeoutStep s).windowIn = s.windowIn ∧
    (ackTimeoutStep s).sched = s.sched ∧
    (ackTimeoutStep s).exch = s.exch ∧
    (ackTimeoutStep s).uplink = s.uplink ∧
    (ackTimeoutStep s).pool = s.pool ∧
    (ackTimeoutStep s).stations = s.stations ∧
    (ackTimeoutStep s).guest = s.guest ∧
    (ackTimeoutStep s).mgmt = s.mgmt := by
  unfold ackTimeoutStep
  (repeat' split) <;> simp

@[simp] theorem journalFallback_frame (k : Bool) (s : State) :
    (journalFallback k s).pending = s.pending ∧
    (journalFallback k s).choices = s.choices ∧
    (journalFallback k s).now = s.now ∧
    (journalFallback k s).straps = s.straps ∧
    (journalFallback k s).settings = s.settings ∧
    (journalFallback k s).items = s.items ∧
    (journalFallback k s).labels = s.labels ∧
    (journalFallback k s).disp = s.disp ∧
    (journalFallback k s).till = s.till ∧
    (journalFallback k s).clock = s.clock ∧
    (journalFallback k s).windowIn = s.windowIn ∧
    (journalFallback k s).sched = s.sched ∧
    (journalFallback k s).exch = s.exch ∧
    (journalFallback k s).uplink = s.uplink ∧
    (journalFallback k s).stations = s.stations ∧
    (journalFallback k s).guest = s.guest ∧
    (journalFallback k s).mgmt = s.mgmt := by
  unfold journalFallback
  cases k <;> simp

@[simp] theorem journalResetTraffic_frame (s : State) :
    (journalResetTraffic s).pending = s.pending ∧
    (journalResetTraffic s).choices = s.choices ∧
    (journalResetTraffic s).now = s.now ∧
    (journalResetTraffic s).straps = s.straps ∧
    (journalResetTraffic s).settings = s.settings ∧
    (journalResetTraffic s).items = s.items ∧
    (journalResetTraffic s).labels = s.labels ∧
    (journalResetTraffic s).disp = s.disp ∧
    (journalResetTraffic s).till = s.till ∧
    (journalResetTraffic s).clock = s.clock ∧
    (journalResetTraffic s).windowIn = s.windowIn ∧
    (journalResetTraffic s).sched = s.sched ∧
    (journalResetTraffic s).exch = s.exch ∧
    (journalResetTraffic s).uplink = s.uplink ∧
    (journalResetTraffic s).pool = s.pool ∧
    (journalResetTraffic s).stations = s.stations ∧
    (journalResetTraffic s).guest = s.guest ∧
    (journalResetTraffic s).mon = s.mon ∧
    (journalResetTraffic s).mgmt = s.mgmt := by
  unfold journalResetTraffic
  dsimp only
  simp

@[simp] theorem sendTill_frame (m : Msg) (s : State) :
    (sendTill m s).pending = s.pending ∧
    (sendTill m s).choices = s.choices ∧
    (sendTill m s).now = s.now ∧
    (sendTill m s).straps = s.straps ∧
    (sendTill m s).settings = s.settings ∧
    (sendTill m s).items = s.items ∧
    (sendTill m s).labels = s.labels ∧
    (sendTill m s).disp = s.disp ∧
    (sendTill m s).journal = s.journal ∧
    (sendTill m s).clock = s.clock ∧
    (sendTill m s).windowIn = s.windowIn ∧
    (sendTill m s).sched = s.sched ∧
    (sendTill m s).exch = s.exch ∧
    (sendTill m s).uplink = s.uplink ∧
    (sendTill m s).stations = s.stations ∧
    (sendTill m s).guest = s.guest ∧
    (sendTill m s).mgmt = s.mgmt := by
  unfold sendTill sendBehind offerOr
  (repeat' split) <;> simp

@[simp] theorem reofferBacklog_frame (s : State) :
    (reofferBacklog s).pending = s.pending ∧
    (reofferBacklog s).choices = s.choices ∧
    (reofferBacklog s).now = s.now ∧
    (reofferBacklog s).straps = s.straps ∧
    (reofferBacklog s).settings = s.settings ∧
    (reofferBacklog s).items = s.items ∧
    (reofferBacklog s).labels = s.labels ∧
    (reofferBacklog s).disp = s.disp ∧
    (reofferBacklog s).journal = s.journal ∧
    (reofferBacklog s).clock = s.clock ∧
    (reofferBacklog s).windowIn = s.windowIn ∧
    (reofferBacklog s).sched = s.sched ∧
    (reofferBacklog s).exch = s.exch ∧
    (reofferBacklog s).uplink = s.uplink ∧
    (reofferBacklog s).stations = s.stations ∧
    (reofferBacklog s).guest = s.guest ∧
    (reofferBacklog s).mgmt = s.mgmt := by
  unfold reofferBacklog
  dsimp only
  simp

@[simp] theorem appendIntake_frame (e : IntakeEntry) (s : State) :
    (appendIntake e s).pending = s.pending ∧
    (appendIntake e s).choices = s.choices ∧
    (appendIntake e s).now = s.now ∧
    (appendIntake e s).straps = s.straps ∧
    (appendIntake e s).settings = s.settings ∧
    (appendIntake e s).items = s.items ∧
    (appendIntake e s).labels = s.labels ∧
    (appendIntake e s).disp = s.disp ∧
    (appendIntake e s).journal = s.journal ∧
    (appendIntake e s).clock = s.clock ∧
    (appendIntake e s).windowIn = s.windowIn ∧
    (appendIntake e s).sched = s.sched ∧
    (appendIntake e s).exch = s.exch ∧
    (appendIntake e s).uplink = s.uplink ∧
    (appendIntake e s).pool = s.pool ∧
    (appendIntake e s).stations = s.stations ∧
    (appendIntake e s).guest = s.guest ∧
    (appendIntake e s).mgmt = s.mgmt := by
  unfold appendIntake
  dsimp only
  (repeat' split) <;> simp

@[simp] theorem takePriceAsk_frame (a : Addr) (b : List Byte) (s : State) :
    (takePriceAsk a b s).pending = s.pending ∧
    (takePriceAsk a b s).choices = s.choices ∧
    (takePriceAsk a b s).now = s.now ∧
    (takePriceAsk a b s).straps = s.straps ∧
    (takePriceAsk a b s).settings = s.settings ∧
    (takePriceAsk a b s).items = s.items ∧
    (takePriceAsk a b s).labels = s.labels ∧
    (takePriceAsk a b s).disp = s.disp ∧
    (takePriceAsk a b s).journal = s.journal ∧
    (takePriceAsk a b s).clock = s.clock ∧
    (takePriceAsk a b s).windowIn = s.windowIn ∧
    (takePriceAsk a b s).sched = s.sched ∧
    (takePriceAsk a b s).exch = s.exch ∧
    (takePriceAsk a b s).uplink = s.uplink ∧
    (takePriceAsk a b s).pool = s.pool ∧
    (takePriceAsk a b s).stations = s.stations ∧
    (takePriceAsk a b s).guest = s.guest ∧
    (takePriceAsk a b s).mgmt = s.mgmt := by
  unfold takePriceAsk
  (repeat' split) <;> simp

@[simp] theorem takeSaleRecord_frame (a : Addr) (b : List Byte) (s : State) :
    (takeSaleRecord a b s).pending = s.pending ∧
    (takeSaleRecord a b s).choices = s.choices ∧
    (takeSaleRecord a b s).now = s.now ∧
    (takeSaleRecord a b s).straps = s.straps ∧
    (takeSaleRecord a b s).settings = s.settings ∧
    (takeSaleRecord a b s).items = s.items ∧
    (takeSaleRecord a b s).labels = s.labels ∧
    (takeSaleRecord a b s).disp = s.disp ∧
    (takeSaleRecord a b s).journal = s.journal ∧
    (takeSaleRecord a b s).clock = s.clock ∧
    (takeSaleRecord a b s).windowIn = s.windowIn ∧
    (takeSaleRecord a b s).sched = s.sched ∧
    (takeSaleRecord a b s).exch = s.exch ∧
    (takeSaleRecord a b s).uplink = s.uplink ∧
    (takeSaleRecord a b s).pool = s.pool ∧
    (takeSaleRecord a b s).stations = s.stations ∧
    (takeSaleRecord a b s).guest = s.guest ∧
    (takeSaleRecord a b s).mgmt = s.mgmt := by
  unfold takeSaleRecord
  (repeat' split) <;> simp

@[simp] theorem answerAsk_frame (a : Addr) (tag code : Nat) (q : Quote) (s : State) :
    (answerAsk a tag code q s).pending = s.pending ∧
    (answerAsk a tag code q s).choices = s.choices ∧
    (answerAsk a tag code q s).now = s.now ∧
    (answerAsk a tag code q s).straps = s.straps ∧
    (answerAsk a tag code q s).settings = s.settings ∧
    (answerAsk a tag code q s).items = s.items ∧
    (answerAsk a tag code q s).labels = s.labels ∧
    (answerAsk a tag code q s).disp = s.disp ∧
    (answerAsk a tag code q s).journal = s.journal ∧
    (answerAsk a tag code q s).clock = s.clock ∧
    (answerAsk a tag code q s).windowIn = s.windowIn ∧
    (answerAsk a tag code q s).sched = s.sched ∧
    (answerAsk a tag code q s).exch = s.exch ∧
    (answerAsk a tag code q s).uplink = s.uplink ∧
    (answerAsk a tag code q s).stations = s.stations ∧
    (answerAsk a tag code q s).guest = s.guest ∧
    (answerAsk a tag code q s).mgmt = s.mgmt := by
  unfold answerAsk
  simp

@[simp] theorem referAsk_frame (n : Nat) (a : LiveAsk) (s : State) :
    (referAsk n a s).pending = s.pending ∧
    (referAsk n a s).choices = s.choices ∧
    (referAsk n a s).now = s.now ∧
    (referAsk n a s).straps = s.straps ∧
    (referAsk n a s).settings = s.settings ∧
    (referAsk n a s).items = s.items ∧
    (referAsk n a s).labels = s.labels ∧
    (referAsk n a s).disp = s.disp ∧
    (referAsk n a s).journal = s.journal ∧
    (referAsk n a s).clock = s.clock ∧
    (referAsk n a s).windowIn = s.windowIn ∧
    (referAsk n a s).sched = s.sched ∧
    (referAsk n a s).exch = s.exch ∧
    (referAsk n a s).uplink = s.uplink ∧
    (referAsk n a s).stations = s.stations ∧
    (referAsk n a s).guest = s.guest ∧
    (referAsk n a s).mgmt = s.mgmt := by
  unfold referAsk
  dsimp only
  simp

@[simp] theorem takeMiss_frame (a : LiveAsk) (s : State) :
    (takeMiss a s).pending = s.pending ∧
    (takeMiss a s).choices = s.choices ∧
    (takeMiss a s).now = s.now ∧
    (takeMiss a s).straps = s.straps ∧
    (takeMiss a s).settings = s.settings ∧
    (takeMiss a s).items = s.items ∧
    (takeMiss a s).labels = s.labels ∧
    (takeMiss a s).disp = s.disp ∧
    (takeMiss a s).journal = s.journal ∧
    (takeMiss a s).clock = s.clock ∧
    (takeMiss a s).windowIn = s.windowIn ∧
    (takeMiss a s).sched = s.sched ∧
    (takeMiss a s).exch = s.exch ∧
    (takeMiss a s).uplink = s.uplink ∧
    (takeMiss a s).stations = s.stations ∧
    (takeMiss a s).guest = s.guest ∧
    (takeMiss a s).mgmt = s.mgmt := by
  unfold takeMiss
  (repeat' split) <;> simp

@[simp] theorem takeAsk_frame (a : Addr) (tag code : Nat) (k : QtyKind) (q : Nat) (s : State) :
    (takeAsk a tag code k q s).pending = s.pending ∧
    (takeAsk a tag code k q s).choices = s.choices ∧
    (takeAsk a tag code k q s).now = s.now ∧
    (takeAsk a tag code k q s).straps = s.straps ∧
    (takeAsk a tag code k q s).settings = s.settings ∧
    (takeAsk a tag code k q s).items = s.items ∧
    (takeAsk a tag code k q s).labels = s.labels ∧
    (takeAsk a tag code k q s).disp = s.disp ∧
    (takeAsk a tag code k q s).journal = s.journal ∧
    (takeAsk a tag code k q s).clock = s.clock ∧
    (takeAsk a tag code k q s).windowIn = s.windowIn ∧
    (takeAsk a tag code k q s).sched = s.sched ∧
    (takeAsk a tag code k q s).exch = s.exch ∧
    (takeAsk a tag code k q s).uplink = s.uplink ∧
    (takeAsk a tag code k q s).stations = s.stations ∧
    (takeAsk a tag code k q s).guest = s.guest ∧
    (takeAsk a tag code k q s).mgmt = s.mgmt := by
  unfold takeAsk
  (repeat' split) <;> simp

@[simp] theorem answerSale_frame (a : Addr) (n k : Nat) (b : Bool) (j : Nat) (s : State) :
    (answerSale a n k b j s).pending = s.pending ∧
    (answerSale a n k b j s).choices = s.choices ∧
    (answerSale a n k b j s).now = s.now ∧
    (answerSale a n k b j s).straps = s.straps ∧
    (answerSale a n k b j s).settings = s.settings ∧
    (answerSale a n k b j s).items = s.items ∧
    (answerSale a n k b j s).labels = s.labels ∧
    (answerSale a n k b j s).disp = s.disp ∧
    (answerSale a n k b j s).journal = s.journal ∧
    (answerSale a n k b j s).clock = s.clock ∧
    (answerSale a n k b j s).windowIn = s.windowIn ∧
    (answerSale a n k b j s).sched = s.sched ∧
    (answerSale a n k b j s).exch = s.exch ∧
    (answerSale a n k b j s).uplink = s.uplink ∧
    (answerSale a n k b j s).stations = s.stations ∧
    (answerSale a n k b j s).guest = s.guest ∧
    (answerSale a n k b j s).mgmt = s.mgmt := by
  unfold answerSale
  (repeat' split) <;> simp

theorem journalTake_eq {n k : Nat} {b : List Byte} {s t : State} {j : Nat} (h : journalTake n k b s = some (j, t)) :
    j = s.journal.free ∧ s.journal.count < 16384 ∧
      t = testLevels (count (occQ .journalRecords 0) (setJournal { s.journal with
        records := s.journal.records ++ [⟨s.journal.free, n, k, s.clock.time, b⟩], free := seqAfter s.journal.free } s)) := by
  unfold journalTake at h
  dsimp only at h
  split at h
  · simp only [Option.some.injEq, Prod.mk.injEq] at h
    exact ⟨h.1.symm, by assumption, h.2.symm⟩
  · cases h

@[simp] theorem takeSale_frame (a : Addr) (n k : Nat) (b : List Byte) (s : State) :
    (takeSale a n k b s).pending = s.pending ∧
    (takeSale a n k b s).choices = s.choices ∧
    (takeSale a n k b s).now = s.now ∧
    (takeSale a n k b s).straps = s.straps ∧
    (takeSale a n k b s).settings = s.settings ∧
    (takeSale a n k b s).items = s.items ∧
    (takeSale a n k b s).labels = s.labels ∧
    (takeSale a n k b s).disp = s.disp ∧
    (takeSale a n k b s).clock = s.clock ∧
    (takeSale a n k b s).windowIn = s.windowIn ∧
    (takeSale a n k b s).sched = s.sched ∧
    (takeSale a n k b s).exch = s.exch ∧
    (takeSale a n k b s).uplink = s.uplink ∧
    (takeSale a n k b s).stations = s.stations ∧
    (takeSale a n k b s).guest = s.guest := by
  unfold takeSale
  split
  · simp
  · split
    · rename_i h
      obtain ⟨-, -, rfl⟩ := journalTake_eq h
      simp
    · simp

@[simp] theorem takeIntakeStep_frame (s : State) :
    (takeIntakeStep s).pending = s.pending ∧
    (takeIntakeStep s).choices = s.choices ∧
    (takeIntakeStep s).now = s.now ∧
    (takeIntakeStep s).straps = s.straps ∧
    (takeIntakeStep s).settings = s.settings ∧
    (takeIntakeStep s).items = s.items ∧
    (takeIntakeStep s).labels = s.labels ∧
    (takeIntakeStep s).disp = s.disp ∧
    (takeIntakeStep s).clock = s.clock ∧
    (takeIntakeStep s).windowIn = s.windowIn ∧
    (takeIntakeStep s).sched = s.sched ∧
    (takeIntakeStep s).exch = s.exch ∧
    (takeIntakeStep s).uplink = s.uplink ∧
    (takeIntakeStep s).stations = s.stations ∧
    (takeIntakeStep s).guest = s.guest := by
  unfold takeIntakeStep
  dsimp only
  (repeat' split) <;> simp

@[simp] theorem endAsk_frame (n : Nat) (a : LiveAsk) (q : Quote) (s : State) :
    (endAsk n a q s).pending = s.pending ∧
    (endAsk n a q s).choices = s.choices ∧
    (endAsk n a q s).now = s.now ∧
    (endAsk n a q s).straps = s.straps ∧
    (endAsk n a q s).settings = s.settings ∧
    (endAsk n a q s).items = s.items ∧
    (endAsk n a q s).labels = s.labels ∧
    (endAsk n a q s).disp = s.disp ∧
    (endAsk n a q s).journal = s.journal ∧
    (endAsk n a q s).clock = s.clock ∧
    (endAsk n a q s).windowIn = s.windowIn ∧
    (endAsk n a q s).sched = s.sched ∧
    (endAsk n a q s).exch = s.exch ∧
    (endAsk n a q s).uplink = s.uplink ∧
    (endAsk n a q s).stations = s.stations ∧
    (endAsk n a q s).guest = s.guest ∧
    (endAsk n a q s).mgmt = s.mgmt := by
  unfold endAsk
  dsimp only
  simp

@[simp] theorem takeAbsentReply_frame (n : Nat) (a : LiveAsk) (c : ReplyContent) (s : State) :
    (takeAbsentReply n a c s).pending = s.pending ∧
    (takeAbsentReply n a c s).choices = s.choices ∧
    (takeAbsentReply n a c s).now = s.now ∧
    (takeAbsentReply n a c s).straps = s.straps ∧
    (takeAbsentReply n a c s).settings = s.settings ∧
    (takeAbsentReply n a c s).labels = s.labels ∧
    (takeAbsentReply n a c s).disp = s.disp ∧
    (takeAbsentReply n a c s).journal = s.journal ∧
    (takeAbsentReply n a c s).clock = s.clock ∧
    (takeAbsentReply n a c s).windowIn = s.windowIn ∧
    (takeAbsentReply n a c s).sched = s.sched ∧
    (takeAbsentReply n a c s).exch = s.exch ∧
    (takeAbsentReply n a c s).uplink = s.uplink ∧
    (takeAbsentReply n a c s).stations = s.stations ∧
    (takeAbsentReply n a c s).guest = s.guest := by
  unfold takeAbsentReply
  (repeat' split) <;> simp

@[simp] theorem takeItemReply_frame (b : List Byte) (s : State) :
    (takeItemReply b s).pending = s.pending ∧
    (takeItemReply b s).choices = s.choices ∧
    (takeItemReply b s).now = s.now ∧
    (takeItemReply b s).straps = s.straps ∧
    (takeItemReply b s).settings = s.settings ∧
    (takeItemReply b s).labels = s.labels ∧
    (takeItemReply b s).disp = s.disp ∧
    (takeItemReply b s).journal = s.journal ∧
    (takeItemReply b s).clock = s.clock ∧
    (takeItemReply b s).windowIn = s.windowIn ∧
    (takeItemReply b s).sched = s.sched ∧
    (takeItemReply b s).exch = s.exch ∧
    (takeItemReply b s).uplink = s.uplink ∧
    (takeItemReply b s).stations = s.stations ∧
    (takeItemReply b s).guest = s.guest := by
  unfold takeItemReply
  dsimp only
  (repeat' split) <;> simp

@[simp] theorem askTimeoutStep_frame (n : Nat) (s : State) :
    (askTimeoutStep n s).pending = s.pending ∧
    (askTimeoutStep n s).choices = s.choices ∧
    (askTimeoutStep n s).now = s.now ∧
    (askTimeoutStep n s).straps = s.straps ∧
    (askTimeoutStep n s).settings = s.settings ∧
    (askTimeoutStep n s).items = s.items ∧
    (askTimeoutStep n s).labels = s.labels ∧
    (askTimeoutStep n s).disp = s.disp ∧
    (askTimeoutStep n s).journal = s.journal ∧
    (askTimeoutStep n s).clock = s.clock ∧
    (askTimeoutStep n s).windowIn = s.windowIn ∧
    (askTimeoutStep n s).sched = s.sched ∧
    (askTimeoutStep n s).exch = s.exch ∧
    (askTimeoutStep n s).uplink = s.uplink ∧
    (askTimeoutStep n s).stations = s.stations ∧
    (askTimeoutStep n s).guest = s.guest ∧
    (askTimeoutStep n s).mgmt = s.mgmt := by
  unfold askTimeoutStep
  (repeat' split) <;> simp

@[simp] theorem expireAsks_frame (s : State) :
    (expireAsks s).pending = s.pending ∧
    (expireAsks s).choices = s.choices ∧
    (expireAsks s).now = s.now ∧
    (expireAsks s).straps = s.straps ∧
    (expireAsks s).settings = s.settings ∧
    (expireAsks s).items = s.items ∧
    (expireAsks s).labels = s.labels ∧
    (expireAsks s).disp = s.disp ∧
    (expireAsks s).journal = s.journal ∧
    (expireAsks s).clock = s.clock ∧
    (expireAsks s).windowIn = s.windowIn ∧
    (expireAsks s).sched = s.sched ∧
    (expireAsks s).exch = s.exch ∧
    (expireAsks s).uplink = s.uplink ∧
    (expireAsks s).stations = s.stations ∧
    (expireAsks s).guest = s.guest ∧
    (expireAsks s).mgmt = s.mgmt := by
  unfold expireAsks
  generalize List.map _ _ = l
  induction l generalizing s with
  | nil => simp
  | cons a l ih => simp [ih]

@[simp] theorem sendLinkState_frame (s : State) :
    (sendLinkState s).pending = s.pending ∧
    (sendLinkState s).choices = s.choices ∧
    (sendLinkState s).now = s.now ∧
    (sendLinkState s).straps = s.straps ∧
    (sendLinkState s).settings = s.settings ∧
    (sendLinkState s).items = s.items ∧
    (sendLinkState s).labels = s.labels ∧
    (sendLinkState s).disp = s.disp ∧
    (sendLinkState s).journal = s.journal ∧
    (sendLinkState s).clock = s.clock ∧
    (sendLinkState s).windowIn = s.windowIn ∧
    (sendLinkState s).sched = s.sched ∧
    (sendLinkState s).exch = s.exch ∧
    (sendLinkState s).uplink = s.uplink ∧
    (sendLinkState s).stations = s.stations ∧
    (sendLinkState s).guest = s.guest ∧
    (sendLinkState s).mgmt = s.mgmt := by
  unfold sendLinkState
  dsimp only
  (repeat' split) <;> simp

@[simp] theorem flushAsk_frame (p : Nat × LiveAsk) (s : State) :
    (flushAsk s p).pending = s.pending ∧
    (flushAsk s p).choices = s.choices ∧
    (flushAsk s p).now = s.now ∧
    (flushAsk s p).straps = s.straps ∧
    (flushAsk s p).settings = s.settings ∧
    (flushAsk s p).items = s.items ∧
    (flushAsk s p).labels = s.labels ∧
    (flushAsk s p).disp = s.disp ∧
    (flushAsk s p).journal = s.journal ∧
    (flushAsk s p).clock = s.clock ∧
    (flushAsk s p).windowIn = s.windowIn ∧
    (flushAsk s p).sched = s.sched ∧
    (flushAsk s p).exch = s.exch ∧
    (flushAsk s p).uplink = s.uplink ∧
    (flushAsk s p).stations = s.stations ∧
    (flushAsk s p).guest = s.guest ∧
    (flushAsk s p).mgmt = s.mgmt := by
  unfold flushAsk; simp

theorem flushAll_frame (l : List (Nat × LiveAsk)) (s : State) : (l.foldl flushAsk s).pending = s.pending ∧
    (l.foldl flushAsk s).choices = s.choices ∧
    (l.foldl flushAsk s).now = s.now ∧
    (l.foldl flushAsk s).straps = s.straps ∧
    (l.foldl flushAsk s).settings = s.settings ∧
    (l.foldl flushAsk s).items = s.items ∧
    (l.foldl flushAsk s).labels = s.labels ∧
    (l.foldl flushAsk s).disp = s.disp ∧
    (l.foldl flushAsk s).journal = s.journal ∧
    (l.foldl flushAsk s).clock = s.clock ∧
    (l.foldl flushAsk s).windowIn = s.windowIn ∧
    (l.foldl flushAsk s).sched = s.sched ∧
    (l.foldl flushAsk s).exch = s.exch ∧
    (l.foldl flushAsk s).uplink = s.uplink ∧
    (l.foldl flushAsk s).stations = s.stations ∧
    (l.foldl flushAsk s).guest = s.guest ∧
    (l.foldl flushAsk s).mgmt = s.mgmt := by
  induction l generalizing s with
  | nil => simp
  | cons a l ih => simp [ih]

@[simp] theorem tillFallback_frame (k : Bool) (s : State) :
    (tillFallback k s).pending = s.pending ∧
    (tillFallback k s).choices = s.choices ∧
    (tillFallback k s).now = s.now ∧
    (tillFallback k s).straps = s.straps ∧
    (tillFallback k s).settings = s.settings ∧
    (tillFallback k s).items = s.items ∧
    (tillFallback k s).labels = s.labels ∧
    (tillFallback k s).disp = s.disp ∧
    (tillFallback k s).journal = s.journal ∧
    (tillFallback k s).clock = s.clock ∧
    (tillFallback k s).windowIn = s.windowIn ∧
    (tillFallback k s).sched = s.sched ∧
    (tillFallback k s).exch = s.exch ∧
    (tillFallback k s).uplink = s.uplink ∧
    (tillFallback k s).stations = s.stations ∧
    (tillFallback k s).guest = s.guest ∧
    (tillFallback k s).mgmt = s.mgmt := by
  unfold tillFallback
  cases k <;> simp [flushAll_frame]

@[simp] theorem tillResetTraffic_frame (s : State) :
    (tillResetTraffic s).pending = s.pending ∧
    (tillResetTraffic s).choices = s.choices ∧
    (tillResetTraffic s).now = s.now ∧
    (tillResetTraffic s).straps = s.straps ∧
    (tillResetTraffic s).settings = s.settings ∧
    (tillResetTraffic s).items = s.items ∧
    (tillResetTraffic s).labels = s.labels ∧
    (tillResetTraffic s).disp = s.disp ∧
    (tillResetTraffic s).journal = s.journal ∧
    (tillResetTraffic s).clock = s.clock ∧
    (tillResetTraffic s).windowIn = s.windowIn ∧
    (tillResetTraffic s).sched = s.sched ∧
    (tillResetTraffic s).exch = s.exch ∧
    (tillResetTraffic s).uplink = s.uplink ∧
    (tillResetTraffic s).pool = s.pool ∧
    (tillResetTraffic s).stations = s.stations ∧
    (tillResetTraffic s).guest = s.guest ∧
    (tillResetTraffic s).mon = s.mon ∧
    (tillResetTraffic s).mgmt = s.mgmt := by
  unfold tillResetTraffic
  dsimp only
  simp

@[simp] theorem insertPending_frame (b : Nat) (c : Change) (s : State) :
    (insertPending b c s).2.pending = s.pending ∧
    (insertPending b c s).2.choices = s.choices ∧
    (insertPending b c s).2.now = s.now ∧
    (insertPending b c s).2.straps = s.straps ∧
    (insertPending b c s).2.settings = s.settings ∧
    (insertPending b c s).2.items = s.items ∧
    (insertPending b c s).2.labels = s.labels ∧
    (insertPending b c s).2.disp = s.disp ∧
    (insertPending b c s).2.till = s.till ∧
    (insertPending b c s).2.journal = s.journal ∧
    (insertPending b c s).2.clock = s.clock ∧
    (insertPending b c s).2.windowIn = s.windowIn ∧
    (insertPending b c s).2.exch = s.exch ∧
    (insertPending b c s).2.uplink = s.uplink ∧
    (insertPending b c s).2.pool = s.pool ∧
    (insertPending b c s).2.stations = s.stations ∧
    (insertPending b c s).2.guest = s.guest ∧
    (insertPending b c s).2.mon = s.mon ∧
    (insertPending b c s).2.mgmt = s.mgmt := by
  unfold insertPending
  (repeat' split) <;> simp

@[simp] theorem applyChange_frame (c : Change) (s : State) :
    (applyChange c s).2.pending = s.pending ∧
    (applyChange c s).2.choices = s.choices ∧
    (applyChange c s).2.now = s.now ∧
    (applyChange c s).2.straps = s.straps ∧
    (applyChange c s).2.settings = s.settings ∧
    (applyChange c s).2.till = s.till ∧
    (applyChange c s).2.journal = s.journal ∧
    (applyChange c s).2.clock = s.clock ∧
    (applyChange c s).2.windowIn = s.windowIn ∧
    (applyChange c s).2.sched = s.sched ∧
    (applyChange c s).2.exch = s.exch ∧
    (applyChange c s).2.uplink = s.uplink ∧
    (applyChange c s).2.pool = s.pool ∧
    (applyChange c s).2.stations = s.stations ∧
    (applyChange c s).2.guest = s.guest ∧
    (applyChange c s).2.mgmt = s.mgmt := by
  unfold applyChange
  dsimp only
  (repeat' split) <;> simp

@[simp] theorem activateEntry_frame (e : PendingEntry) (s : State) :
    (activateEntry e s).pending = s.pending ∧
    (activateEntry e s).choices = s.choices ∧
    (activateEntry e s).now = s.now ∧
    (activateEntry e s).straps = s.straps ∧
    (activateEntry e s).settings = s.settings ∧
    (activateEntry e s).till = s.till ∧
    (activateEntry e s).journal = s.journal ∧
    (activateEntry e s).clock = s.clock ∧
    (activateEntry e s).windowIn = s.windowIn ∧
    (activateEntry e s).sched = s.sched ∧
    (activateEntry e s).exch = s.exch ∧
    (activateEntry e s).uplink = s.uplink ∧
    (activateEntry e s).stations = s.stations ∧
    (activateEntry e s).guest = s.guest := by
  unfold activateEntry
  dsimp only
  (repeat' split) <;> simp

@[simp] theorem activationStep_frame (s : State) :
    (activationStep s).pending = s.pending ∧
    (activationStep s).choices = s.choices ∧
    (activationStep s).now = s.now ∧
    (activationStep s).straps = s.straps ∧
    (activationStep s).settings = s.settings ∧
    (activationStep s).till = s.till ∧
    (activationStep s).journal = s.journal ∧
    (activationStep s).clock = s.clock ∧
    (activationStep s).windowIn = s.windowIn ∧
    (activationStep s).exch = s.exch ∧
    (activationStep s).uplink = s.uplink ∧
    (activationStep s).stations = s.stations ∧
    (activationStep s).guest = s.guest := by
  unfold activationStep
  (repeat' split) <;> simp

@[simp] theorem formRate_frame (s : State) :
    (formRate s).pending = s.pending ∧
    (formRate s).choices = s.choices ∧
    (formRate s).now = s.now ∧
    (formRate s).straps = s.straps ∧
    (formRate s).settings = s.settings ∧
    (formRate s).items = s.items ∧
    (formRate s).labels = s.labels ∧
    (formRate s).disp = s.disp ∧
    (formRate s).till = s.till ∧
    (formRate s).journal = s.journal ∧
    (formRate s).clock = s.clock ∧
    (formRate s).windowIn = s.windowIn ∧
    (formRate s).sched = s.sched ∧
    (formRate s).exch = s.exch ∧
    (formRate s).uplink = s.uplink ∧
    (formRate s).pool = s.pool ∧
    (formRate s).stations = s.stations ∧
    (formRate s).mon = s.mon ∧
    (formRate s).mgmt = s.mgmt := by
  unfold formRate
  dsimp only
  simp

@[simp] theorem bucketRefillStep_frame (s : State) :
    (bucketRefillStep s).pending = s.pending ∧
    (bucketRefillStep s).choices = s.choices ∧
    (bucketRefillStep s).now = s.now ∧
    (bucketRefillStep s).straps = s.straps ∧
    (bucketRefillStep s).settings = s.settings ∧
    (bucketRefillStep s).items = s.items ∧
    (bucketRefillStep s).labels = s.labels ∧
    (bucketRefillStep s).disp = s.disp ∧
    (bucketRefillStep s).till = s.till ∧
    (bucketRefillStep s).journal = s.journal ∧
    (bucketRefillStep s).clock = s.clock ∧
    (bucketRefillStep s).windowIn = s.windowIn ∧
    (bucketRefillStep s).sched = s.sched ∧
    (bucketRefillStep s).exch = s.exch ∧
    (bucketRefillStep s).uplink = s.uplink ∧
    (bucketRefillStep s).pool = s.pool ∧
    (bucketRefillStep s).stations = s.stations ∧
    (bucketRefillStep s).mon = s.mon ∧
    (bucketRefillStep s).mgmt = s.mgmt := by
  unfold bucketRefillStep
  dsimp only
  (repeat' split) <;> simp

@[simp] theorem dropGuest_frame (a : Addr) (s : State) :
    (dropGuest a s).pending = s.pending ∧
    (dropGuest a s).choices = s.choices ∧
    (dropGuest a s).now = s.now ∧
    (dropGuest a s).straps = s.straps ∧
    (dropGuest a s).settings = s.settings ∧
    (dropGuest a s).items = s.items ∧
    (dropGuest a s).labels = s.labels ∧
    (dropGuest a s).disp = s.disp ∧
    (dropGuest a s).till = s.till ∧
    (dropGuest a s).journal = s.journal ∧
    (dropGuest a s).clock = s.clock ∧
    (dropGuest a s).windowIn = s.windowIn ∧
    (dropGuest a s).sched = s.sched ∧
    (dropGuest a s).exch = s.exch ∧
    (dropGuest a s).uplink = s.uplink ∧
    (dropGuest a s).pool = s.pool ∧
    (dropGuest a s).stations = s.stations ∧
    (dropGuest a s).mon = s.mon ∧
    (dropGuest a s).mgmt = s.mgmt := by
  unfold dropGuest
  dsimp only
  simp

@[simp] theorem dropStation_frame (e : Station) (s : State) :
    (dropStation e s).pending = s.pending ∧
    (dropStation e s).choices = s.choices ∧
    (dropStation e s).now = s.now ∧
    (dropStation e s).straps = s.straps ∧
    (dropStation e s).settings = s.settings ∧
    (dropStation e s).items = s.items ∧
    (dropStation e s).labels = s.labels ∧
    (dropStation e s).disp = s.disp ∧
    (dropStation e s).till = s.till ∧
    (dropStation e s).journal = s.journal ∧
    (dropStation e s).clock = s.clock ∧
    (dropStation e s).windowIn = s.windowIn ∧
    (dropStation e s).sched = s.sched ∧
    (dropStation e s).exch = s.exch ∧
    (dropStation e s).uplink = s.uplink ∧
    (dropStation e s).pool = s.pool ∧
    (dropStation e s).mon = s.mon ∧
    (dropStation e s).mgmt = s.mgmt := by
  unfold dropStation
  dsimp only
  (repeat' split) <;> simp

@[simp] theorem guestSecondStepBody_frame (s : State) :
    (guestSecondStepBody s).pending = s.pending ∧
    (guestSecondStepBody s).choices = s.choices ∧
    (guestSecondStepBody s).now = s.now ∧
    (guestSecondStepBody s).straps = s.straps ∧
    (guestSecondStepBody s).settings = s.settings ∧
    (guestSecondStepBody s).items = s.items ∧
    (guestSecondStepBody s).labels = s.labels ∧
    (guestSecondStepBody s).disp = s.disp ∧
    (guestSecondStepBody s).till = s.till ∧
    (guestSecondStepBody s).journal = s.journal ∧
    (guestSecondStepBody s).clock = s.clock ∧
    (guestSecondStepBody s).windowIn = s.windowIn ∧
    (guestSecondStepBody s).sched = s.sched ∧
    (guestSecondStepBody s).exch = s.exch ∧
    (guestSecondStepBody s).uplink = s.uplink ∧
    (guestSecondStepBody s).pool = s.pool ∧
    (guestSecondStepBody s).mon = s.mon ∧
    (guestSecondStepBody s).mgmt = s.mgmt := by
  unfold guestSecondStepBody
  dsimp only
  simp

@[simp] theorem putGuest_frame (g : GuestRec) (s : State) :
    (putGuest g s).pending = s.pending ∧
    (putGuest g s).choices = s.choices ∧
    (putGuest g s).now = s.now ∧
    (putGuest g s).straps = s.straps ∧
    (putGuest g s).settings = s.settings ∧
    (putGuest g s).items = s.items ∧
    (putGuest g s).labels = s.labels ∧
    (putGuest g s).disp = s.disp ∧
    (putGuest g s).till = s.till ∧
    (putGuest g s).journal = s.journal ∧
    (putGuest g s).clock = s.clock ∧
    (putGuest g s).windowIn = s.windowIn ∧
    (putGuest g s).sched = s.sched ∧
    (putGuest g s).exch = s.exch ∧
    (putGuest g s).uplink = s.uplink ∧
    (putGuest g s).pool = s.pool ∧
    (putGuest g s).stations = s.stations ∧
    (putGuest g s).mon = s.mon ∧
    (putGuest g s).mgmt = s.mgmt := by
  unfold putGuest
  dsimp only
  simp

@[simp] theorem shapeAway_frame (p : Port) (g : GuestRec) (s : State) :
    (shapeAway p g s).pending = s.pending ∧
    (shapeAway p g s).choices = s.choices ∧
    (shapeAway p g s).now = s.now ∧
    (shapeAway p g s).straps = s.straps ∧
    (shapeAway p g s).settings = s.settings ∧
    (shapeAway p g s).items = s.items ∧
    (shapeAway p g s).labels = s.labels ∧
    (shapeAway p g s).disp = s.disp ∧
    (shapeAway p g s).till = s.till ∧
    (shapeAway p g s).journal = s.journal ∧
    (shapeAway p g s).clock = s.clock ∧
    (shapeAway p g s).windowIn = s.windowIn ∧
    (shapeAway p g s).sched = s.sched ∧
    (shapeAway p g s).exch = s.exch ∧
    (shapeAway p g s).uplink = s.uplink ∧
    (shapeAway p g s).pool = s.pool ∧
    (shapeAway p g s).stations = s.stations ∧
    (shapeAway p g s).mgmt = s.mgmt := by
  unfold shapeAway
  simp

@[simp] theorem chargeUp_frame (g : GuestRec) (n : Nat) (s : State) :
    (chargeUp g n s).2.pending = s.pending ∧
    (chargeUp g n s).2.choices = s.choices ∧
    (chargeUp g n s).2.now = s.now ∧
    (chargeUp g n s).2.straps = s.straps ∧
    (chargeUp g n s).2.settings = s.settings ∧
    (chargeUp g n s).2.items = s.items ∧
    (chargeUp g n s).2.labels = s.labels ∧
    (chargeUp g n s).2.disp = s.disp ∧
    (chargeUp g n s).2.till = s.till ∧
    (chargeUp g n s).2.journal = s.journal ∧
    (chargeUp g n s).2.clock = s.clock ∧
    (chargeUp g n s).2.windowIn = s.windowIn ∧
    (chargeUp g n s).2.sched = s.sched ∧
    (chargeUp g n s).2.exch = s.exch ∧
    (chargeUp g n s).2.uplink = s.uplink ∧
    (chargeUp g n s).2.pool = s.pool ∧
    (chargeUp g n s).2.stations = s.stations ∧
    (chargeUp g n s).2.mgmt = s.mgmt := by
  unfold chargeUp
  dsimp only
  (repeat' split) <;> simp

@[simp] theorem chargeDown_frame (g : GuestRec) (n : Nat) (s : State) :
    (chargeDown g n s).2.pending = s.pending ∧
    (chargeDown g n s).2.choices = s.choices ∧
    (chargeDown g n s).2.now = s.now ∧
    (chargeDown g n s).2.straps = s.straps ∧
    (chargeDown g n s).2.settings = s.settings ∧
    (chargeDown g n s).2.items = s.items ∧
    (chargeDown g n s).2.labels = s.labels ∧
    (chargeDown g n s).2.disp = s.disp ∧
    (chargeDown g n s).2.till = s.till ∧
    (chargeDown g n s).2.journal = s.journal ∧
    (chargeDown g n s).2.clock = s.clock ∧
    (chargeDown g n s).2.windowIn = s.windowIn ∧
    (chargeDown g n s).2.sched = s.sched ∧
    (chargeDown g n s).2.exch = s.exch ∧
    (chargeDown g n s).2.uplink = s.uplink ∧
    (chargeDown g n s).2.pool = s.pool ∧
    (chargeDown g n s).2.stations = s.stations ∧
    (chargeDown g n s).2.mgmt = s.mgmt := by
  unfold chargeDown
  (repeat' split) <;> simp

@[simp] theorem ageingStepBody_frame (s : State) :
    (ageingStepBody s).pending = s.pending ∧
    (ageingStepBody s).choices = s.choices ∧
    (ageingStepBody s).now = s.now ∧
    (ageingStepBody s).straps = s.straps ∧
    (ageingStepBody s).settings = s.settings ∧
    (ageingStepBody s).items = s.items ∧
    (ageingStepBody s).labels = s.labels ∧
    (ageingStepBody s).disp = s.disp ∧
    (ageingStepBody s).till = s.till ∧
    (ageingStepBody s).journal = s.journal ∧
    (ageingStepBody s).clock = s.clock ∧
    (ageingStepBody s).windowIn = s.windowIn ∧
    (ageingStepBody s).sched = s.sched ∧
    (ageingStepBody s).exch = s.exch ∧
    (ageingStepBody s).uplink = s.uplink ∧
    (ageingStepBody s).pool = s.pool ∧
    (ageingStepBody s).mon = s.mon ∧
    (ageingStepBody s).mgmt = s.mgmt := by
  unfold ageingStepBody
  dsimp only
  simp

@[simp] theorem stationsResetTraffic_frame (s : State) :
    (stationsResetTraffic s).pending = s.pending ∧
    (stationsResetTraffic s).choices = s.choices ∧
    (stationsResetTraffic s).now = s.now ∧
    (stationsResetTraffic s).straps = s.straps ∧
    (stationsResetTraffic s).settings = s.settings ∧
    (stationsResetTraffic s).items = s.items ∧
    (stationsResetTraffic s).labels = s.labels ∧
    (stationsResetTraffic s).disp = s.disp ∧
    (stationsResetTraffic s).till = s.till ∧
    (stationsResetTraffic s).journal = s.journal ∧
    (stationsResetTraffic s).clock = s.clock ∧
    (stationsResetTraffic s).windowIn = s.windowIn ∧
    (stationsResetTraffic s).sched = s.sched ∧
    (stationsResetTraffic s).exch = s.exch ∧
    (stationsResetTraffic s).uplink = s.uplink ∧
    (stationsResetTraffic s).pool = s.pool ∧
    (stationsResetTraffic s).mon = s.mon ∧
    (stationsResetTraffic s).mgmt = s.mgmt := by
  unfold stationsResetTraffic
  dsimp only
  simp

@[simp] theorem sendExch_frame (m : Msg) (s : State) :
    (sendExch m s).pending = s.pending ∧
    (sendExch m s).choices = s.choices ∧
    (sendExch m s).now = s.now ∧
    (sendExch m s).straps = s.straps ∧
    (sendExch m s).settings = s.settings ∧
    (sendExch m s).items = s.items ∧
    (sendExch m s).labels = s.labels ∧
    (sendExch m s).disp = s.disp ∧
    (sendExch m s).till = s.till ∧
    (sendExch m s).journal = s.journal ∧
    (sendExch m s).clock = s.clock ∧
    (sendExch m s).windowIn = s.windowIn ∧
    (sendExch m s).sched = s.sched ∧
    (sendExch m s).uplink = s.uplink ∧
    (sendExch m s).stations = s.stations ∧
    (sendExch m s).guest = s.guest ∧
    (sendExch m s).mgmt = s.mgmt := by
  unfold sendExch sendBehind offerOr
  (repeat' split) <;> simp

@[simp] theorem reofferOutbox_frame (s : State) :
    (reofferOutbox s).pending = s.pending ∧
    (reofferOutbox s).choices = s.choices ∧
    (reofferOutbox s).now = s.now ∧
    (reofferOutbox s).straps = s.straps ∧
    (reofferOutbox s).settings = s.settings ∧
    (reofferOutbox s).items = s.items ∧
    (reofferOutbox s).labels = s.labels ∧
    (reofferOutbox s).disp = s.disp ∧
    (reofferOutbox s).till = s.till ∧
    (reofferOutbox s).journal = s.journal ∧
    (reofferOutbox s).clock = s.clock ∧
    (reofferOutbox s).windowIn = s.windowIn ∧
    (reofferOutbox s).sched = s.sched ∧
    (reofferOutbox s).uplink = s.uplink ∧
    (reofferOutbox s).stations = s.stations ∧
    (reofferOutbox s).guest = s.guest ∧
    (reofferOutbox s).mgmt = s.mgmt := by
  unfold reofferOutbox
  dsimp only
  simp

@[simp] theorem sendReport_frame (b : List Byte) (s : State) :
    (sendReport b s).pending = s.pending ∧
    (sendReport b s).choices = s.choices ∧
    (sendReport b s).now = s.now ∧
    (sendReport b s).straps = s.straps ∧
    (sendReport b s).settings = s.settings ∧
    (sendReport b s).items = s.items ∧
    (sendReport b s).labels = s.labels ∧
    (sendReport b s).disp = s.disp ∧
    (sendReport b s).till = s.till ∧
    (sendReport b s).journal = s.journal ∧
    (sendReport b s).clock = s.clock ∧
    (sendReport b s).windowIn = s.windowIn ∧
    (sendReport b s).sched = s.sched ∧
    (sendReport b s).uplink = s.uplink ∧
    (sendReport b s).stations = s.stations ∧
    (sendReport b s).guest = s.guest ∧
    (sendReport b s).mgmt = s.mgmt := by
  unfold sendReport
  (repeat' split) <;> simp

@[simp] theorem discardBatch_frame (r : DiscardReason) (s : State) :
    (discardBatch r s).pending = s.pending ∧
    (discardBatch r s).choices = s.choices ∧
    (discardBatch r s).now = s.now ∧
    (discardBatch r s).straps = s.straps ∧
    (discardBatch r s).settings = s.settings ∧
    (discardBatch r s).items = s.items ∧
    (discardBatch r s).labels = s.labels ∧
    (discardBatch r s).disp = s.disp ∧
    (discardBatch r s).till = s.till ∧
    (discardBatch r s).journal = s.journal ∧
    (discardBatch r s).clock = s.clock ∧
    (discardBatch r s).windowIn = s.windowIn ∧
    (discardBatch r s).sched = s.sched ∧
    (discardBatch r s).uplink = s.uplink ∧
    (discardBatch r s).stations = s.stations ∧
    (discardBatch r s).guest = s.guest := by
  unfold discardBatch
  dsimp only
  (repeat' split) <;> simp

@[simp] theorem takeRecord_frame (b : List Byte) (c : StagingCtx) (s : State) :
    (takeRecord b c s).pending = s.pending ∧
    (takeRecord b c s).choices = s.choices ∧
    (takeRecord b c s).now = s.now ∧
    (takeRecord b c s).straps = s.straps ∧
    (takeRecord b c s).settings = s.settings ∧
    (takeRecord b c s).items = s.items ∧
    (takeRecord b c s).labels = s.labels ∧
    (takeRecord b c s).disp = s.disp ∧
    (takeRecord b c s).till = s.till ∧
    (takeRecord b c s).journal = s.journal ∧
    (takeRecord b c s).clock = s.clock ∧
    (takeRecord b c s).windowIn = s.windowIn ∧
    (takeRecord b c s).sched = s.sched ∧
    (takeRecord b c s).uplink = s.uplink ∧
    (takeRecord b c s).pool = s.pool ∧
    (takeRecord b c s).stations = s.stations ∧
    (takeRecord b c s).guest = s.guest ∧
    (takeRecord b c s).mgmt = s.mgmt := by
  unfold takeRecord
  dsimp only
  (repeat' split) <;> simp

@[simp] theorem takePriceChange_frame (b : List Byte) (s : State) :
    (takePriceChange b s).pending = s.pending ∧
    (takePriceChange b s).choices = s.choices ∧
    (takePriceChange b s).now = s.now ∧
    (takePriceChange b s).straps = s.straps ∧
    (takePriceChange b s).settings = s.settings ∧
    (takePriceChange b s).items = s.items ∧
    (takePriceChange b s).labels = s.labels ∧
    (takePriceChange b s).disp = s.disp ∧
    (takePriceChange b s).till = s.till ∧
    (takePriceChange b s).journal = s.journal ∧
    (takePriceChange b s).clock = s.clock ∧
    (takePriceChange b s).windowIn = s.windowIn ∧
    (takePriceChange b s).sched = s.sched ∧
    (takePriceChange b s).uplink = s.uplink ∧
    (takePriceChange b s).pool = s.pool ∧
    (takePriceChange b s).stations = s.stations ∧
    (takePriceChange b s).guest = s.guest ∧
    (takePriceChange b s).mgmt = s.mgmt := by
  unfold takePriceChange
  (repeat' split) <;> simp

@[simp] theorem endCommit_frame (c : CommitCtx) (s : State) :
    (endCommit c s).pending = s.pending ∧
    (endCommit c s).choices = s.choices ∧
    (endCommit c s).now = s.now ∧
    (endCommit c s).straps = s.straps ∧
    (endCommit c s).settings = s.settings ∧
    (endCommit c s).items = s.items ∧
    (endCommit c s).labels = s.labels ∧
    (endCommit c s).disp = s.disp ∧
    (endCommit c s).till = s.till ∧
    (endCommit c s).journal = s.journal ∧
    (endCommit c s).clock = s.clock ∧
    (endCommit c s).windowIn = s.windowIn ∧
    (endCommit c s).sched = s.sched ∧
    (endCommit c s).uplink = s.uplink ∧
    (endCommit c s).stations = s.stations ∧
    (endCommit c s).guest = s.guest := by
  unfold endCommit
  dsimp only
  simp

@[simp] theorem beginCommit_frame (c : StagingCtx) (s : State) :
    (beginCommit c s).pending = s.pending ∧
    (beginCommit c s).choices = s.choices ∧
    (beginCommit c s).now = s.now ∧
    (beginCommit c s).straps = s.straps ∧
    (beginCommit c s).settings = s.settings ∧
    (beginCommit c s).items = s.items ∧
    (beginCommit c s).labels = s.labels ∧
    (beginCommit c s).disp = s.disp ∧
    (beginCommit c s).till = s.till ∧
    (beginCommit c s).journal = s.journal ∧
    (beginCommit c s).clock = s.clock ∧
    (beginCommit c s).windowIn = s.windowIn ∧
    (beginCommit c s).sched = s.sched ∧
    (beginCommit c s).uplink = s.uplink ∧
    (beginCommit c s).stations = s.stations ∧
    (beginCommit c s).guest = s.guest := by
  unfold beginCommit
  dsimp only
  (repeat' split) <;> simp

@[simp] theorem takeExchClose_frame (b : List Byte) (s : State) :
    (takeExchClose b s).pending = s.pending ∧
    (takeExchClose b s).choices = s.choices ∧
    (takeExchClose b s).now = s.now ∧
    (takeExchClose b s).straps = s.straps ∧
    (takeExchClose b s).settings = s.settings ∧
    (takeExchClose b s).items = s.items ∧
    (takeExchClose b s).labels = s.labels ∧
    (takeExchClose b s).disp = s.disp ∧
    (takeExchClose b s).till = s.till ∧
    (takeExchClose b s).journal = s.journal ∧
    (takeExchClose b s).clock = s.clock ∧
    (takeExchClose b s).windowIn = s.windowIn ∧
    (takeExchClose b s).sched = s.sched ∧
    (takeExchClose b s).uplink = s.uplink ∧
    (takeExchClose b s).stations = s.stations ∧
    (takeExchClose b s).guest = s.guest := by
  unfold takeExchClose
  (repeat' split) <;> simp

@[simp] theorem commitChangeStep_frame (s : State) :
    (commitChangeStep s).pending = s.pending ∧
    (commitChangeStep s).choices = s.choices ∧
    (commitChangeStep s).now = s.now ∧
    (commitChangeStep s).straps = s.straps ∧
    (commitChangeStep s).settings = s.settings ∧
    (commitChangeStep s).items = s.items ∧
    (commitChangeStep s).labels = s.labels ∧
    (commitChangeStep s).disp = s.disp ∧
    (commitChangeStep s).till = s.till ∧
    (commitChangeStep s).journal = s.journal ∧
    (commitChangeStep s).clock = s.clock ∧
    (commitChangeStep s).windowIn = s.windowIn ∧
    (commitChangeStep s).uplink = s.uplink ∧
    (commitChangeStep s).stations = s.stations ∧
    (commitChangeStep s).guest = s.guest := by
  unfold commitChangeStep
  dsimp only
  (repeat' split) <;> simp

@[simp] theorem quietTimeoutStep_frame (s : State) :
    (quietTimeoutStep s).pending = s.pending ∧
    (quietTimeoutStep s).choices = s.choices ∧
    (quietTimeoutStep s).now = s.now ∧
    (quietTimeoutStep s).straps = s.straps ∧
    (quietTimeoutStep s).settings = s.settings ∧
    (quietTimeoutStep s).items = s.items ∧
    (quietTimeoutStep s).labels = s.labels ∧
    (quietTimeoutStep s).disp = s.disp ∧
    (quietTimeoutStep s).till = s.till ∧
    (quietTimeoutStep s).journal = s.journal ∧
    (quietTimeoutStep s).clock = s.clock ∧
    (quietTimeoutStep s).windowIn = s.windowIn ∧
    (quietTimeoutStep s).sched = s.sched ∧
    (quietTimeoutStep s).uplink = s.uplink ∧
    (quietTimeoutStep s).stations = s.stations ∧
    (quietTimeoutStep s).guest = s.guest := by
  unfold quietTimeoutStep
  (repeat' split) <;> simp

@[simp] theorem paymentFallback_frame (s : State) :
    (paymentFallback s).pending = s.pending ∧
    (paymentFallback s).choices = s.choices ∧
    (paymentFallback s).now = s.now ∧
    (paymentFallback s).straps = s.straps ∧
    (paymentFallback s).settings = s.settings ∧
    (paymentFallback s).items = s.items ∧
    (paymentFallback s).labels = s.labels ∧
    (paymentFallback s).disp = s.disp ∧
    (paymentFallback s).till = s.till ∧
    (paymentFallback s).journal = s.journal ∧
    (paymentFallback s).clock = s.clock ∧
    (paymentFallback s).windowIn = s.windowIn ∧
    (paymentFallback s).sched = s.sched ∧
    (paymentFallback s).exch = s.exch ∧
    (paymentFallback s).uplink = s.uplink ∧
    (paymentFallback s).stations = s.stations ∧
    (paymentFallback s).guest = s.guest ∧
    (paymentFallback s).mgmt = s.mgmt := by
  unfold paymentFallback
  simp

@[simp] theorem poolFallback_frame (s : State) :
    (poolFallback s).pending = s.pending ∧
    (poolFallback s).choices = s.choices ∧
    (poolFallback s).now = s.now ∧
    (poolFallback s).straps = s.straps ∧
    (poolFallback s).settings = s.settings ∧
    (poolFallback s).items = s.items ∧
    (poolFallback s).labels = s.labels ∧
    (poolFallback s).disp = s.disp ∧
    (poolFallback s).till = s.till ∧
    (poolFallback s).journal = s.journal ∧
    (poolFallback s).clock = s.clock ∧
    (poolFallback s).windowIn = s.windowIn ∧
    (poolFallback s).sched = s.sched ∧
    (poolFallback s).exch = s.exch ∧
    (poolFallback s).uplink = s.uplink ∧
    (poolFallback s).stations = s.stations ∧
    (poolFallback s).guest = s.guest ∧
    (poolFallback s).mgmt = s.mgmt := by
  unfold poolFallback
  simp

@[simp] theorem enterFallback_frame (c : UplinkCause) (s : State) :
    (enterFallback c s).pending = s.pending ∧
    (enterFallback c s).choices = s.choices ∧
    (enterFallback c s).now = s.now ∧
    (enterFallback c s).straps = s.straps ∧
    (enterFallback c s).settings = s.settings ∧
    (enterFallback c s).items = s.items ∧
    (enterFallback c s).labels = s.labels ∧
    (enterFallback c s).disp = s.disp ∧
    (enterFallback c s).clock = s.clock ∧
    (enterFallback c s).windowIn = s.windowIn ∧
    (enterFallback c s).sched = s.sched ∧
    (enterFallback c s).uplink = s.uplink ∧
    (enterFallback c s).stations = s.stations ∧
    (enterFallback c s).guest = s.guest := by
  unfold enterFallback
  simp

@[simp] theorem changeUplink_frame (n : UplinkState) (c : UplinkCause) (s : State) :
    (changeUplink n c s).pending = s.pending ∧
    (changeUplink n c s).choices = s.choices ∧
    (changeUplink n c s).now = s.now ∧
    (changeUplink n c s).straps = s.straps ∧
    (changeUplink n c s).settings = s.settings ∧
    (changeUplink n c s).items = s.items ∧
    (changeUplink n c s).labels = s.labels ∧
    (changeUplink n c s).disp = s.disp ∧
    (changeUplink n c s).clock = s.clock ∧
    (changeUplink n c s).windowIn = s.windowIn ∧
    (changeUplink n c s).sched = s.sched ∧
    (changeUplink n c s).stations = s.stations := by
  unfold changeUplink
  dsimp only
  (repeat' split) <;> simp

@[simp] theorem buildProbe_frame (s : State) :
    (buildProbe s).pending = s.pending ∧
    (buildProbe s).choices = s.choices ∧
    (buildProbe s).now = s.now ∧
    (buildProbe s).straps = s.straps ∧
    (buildProbe s).settings = s.settings ∧
    (buildProbe s).items = s.items ∧
    (buildProbe s).labels = s.labels ∧
    (buildProbe s).disp = s.disp ∧
    (buildProbe s).till = s.till ∧
    (buildProbe s).journal = s.journal ∧
    (buildProbe s).clock = s.clock ∧
    (buildProbe s).windowIn = s.windowIn ∧
    (buildProbe s).sched = s.sched ∧
    (buildProbe s).exch = s.exch ∧
    (buildProbe s).stations = s.stations ∧
    (buildProbe s).guest = s.guest ∧
    (buildProbe s).mgmt = s.mgmt := by
  unfold buildProbe offerOr
  dsimp only
  (repeat' split) <;> simp

@[simp] theorem dropProbe_frame (s : State) :
    (dropProbe s).pending = s.pending ∧
    (dropProbe s).choices = s.choices ∧
    (dropProbe s).now = s.now ∧
    (dropProbe s).straps = s.straps ∧
    (dropProbe s).settings = s.settings ∧
    (dropProbe s).items = s.items ∧
    (dropProbe s).labels = s.labels ∧
    (dropProbe s).disp = s.disp ∧
    (dropProbe s).till = s.till ∧
    (dropProbe s).journal = s.journal ∧
    (dropProbe s).clock = s.clock ∧
    (dropProbe s).windowIn = s.windowIn ∧
    (dropProbe s).sched = s.sched ∧
    (dropProbe s).exch = s.exch ∧
    (dropProbe s).pool = s.pool ∧
    (dropProbe s).stations = s.stations ∧
    (dropProbe s).guest = s.guest ∧
    (dropProbe s).mon = s.mon ∧
    (dropProbe s).mgmt = s.mgmt := by
  unfold dropProbe
  dsimp only
  simp

@[simp] theorem startProbing_frame (s : State) :
    (startProbing s).pending = s.pending ∧
    (startProbing s).choices = s.choices ∧
    (startProbing s).now = s.now ∧
    (startProbing s).straps = s.straps ∧
    (startProbing s).settings = s.settings ∧
    (startProbing s).items = s.items ∧
    (startProbing s).labels = s.labels ∧
    (startProbing s).disp = s.disp ∧
    (startProbing s).till = s.till ∧
    (startProbing s).journal = s.journal ∧
    (startProbing s).clock = s.clock ∧
    (startProbing s).windowIn = s.windowIn ∧
    (startProbing s).sched = s.sched ∧
    (startProbing s).exch = s.exch ∧
    (startProbing s).stations = s.stations ∧
    (startProbing s).guest = s.guest ∧
    (startProbing s).mgmt = s.mgmt := by
  unfold startProbing
  (repeat' split) <;> simp

@[simp] theorem loseProbe_frame (s : State) :
    (loseProbe s).pending = s.pending ∧
    (loseProbe s).choices = s.choices ∧
    (loseProbe s).now = s.now ∧
    (loseProbe s).straps = s.straps ∧
    (loseProbe s).settings = s.settings ∧
    (loseProbe s).items = s.items ∧
    (loseProbe s).labels = s.labels ∧
    (loseProbe s).disp = s.disp ∧
    (loseProbe s).clock = s.clock ∧
    (loseProbe s).windowIn = s.windowIn ∧
    (loseProbe s).sched = s.sched ∧
    (loseProbe s).stations = s.stations := by
  unfold loseProbe
  dsimp only
  (repeat' split) <;> simp

@[simp] theorem judgeProbe_frame (s : State) :
    (judgeProbe s).pending = s.pending ∧
    (judgeProbe s).choices = s.choices ∧
    (judgeProbe s).now = s.now ∧
    (judgeProbe s).straps = s.straps ∧
    (judgeProbe s).settings = s.settings ∧
    (judgeProbe s).items = s.items ∧
    (judgeProbe s).labels = s.labels ∧
    (judgeProbe s).disp = s.disp ∧
    (judgeProbe s).clock = s.clock ∧
    (judgeProbe s).windowIn = s.windowIn ∧
    (judgeProbe s).sched = s.sched ∧
    (judgeProbe s).stations = s.stations := by
  unfold judgeProbe
  (repeat' split) <;> simp

@[simp] theorem probeDue_frame (s : State) :
    (probeDue s).pending = s.pending ∧
    (probeDue s).choices = s.choices ∧
    (probeDue s).now = s.now ∧
    (probeDue s).straps = s.straps ∧
    (probeDue s).settings = s.settings ∧
    (probeDue s).items = s.items ∧
    (probeDue s).labels = s.labels ∧
    (probeDue s).disp = s.disp ∧
    (probeDue s).clock = s.clock ∧
    (probeDue s).windowIn = s.windowIn ∧
    (probeDue s).sched = s.sched ∧
    (probeDue s).stations = s.stations := by
  unfold probeDue
  simp

@[simp] theorem probeTimerStep_frame (s : State) :
    (probeTimerStep s).pending = s.pending ∧
    (probeTimerStep s).choices = s.choices ∧
    (probeTimerStep s).now = s.now ∧
    (probeTimerStep s).straps = s.straps ∧
    (probeTimerStep s).settings = s.settings ∧
    (probeTimerStep s).items = s.items ∧
    (probeTimerStep s).labels = s.labels ∧
    (probeTimerStep s).disp = s.disp ∧
    (probeTimerStep s).clock = s.clock ∧
    (probeTimerStep s).windowIn = s.windowIn ∧
    (probeTimerStep s).sched = s.sched ∧
    (probeTimerStep s).stations = s.stations := by
  unfold probeTimerStep
  (repeat' split) <;> simp

@[simp] theorem reofferProbe_frame (s : State) :
    (reofferProbe s).pending = s.pending ∧
    (reofferProbe s).choices = s.choices ∧
    (reofferProbe s).now = s.now ∧
    (reofferProbe s).straps = s.straps ∧
    (reofferProbe s).settings = s.settings ∧
    (reofferProbe s).items = s.items ∧
    (reofferProbe s).labels = s.labels ∧
    (reofferProbe s).disp = s.disp ∧
    (reofferProbe s).till = s.till ∧
    (reofferProbe s).journal = s.journal ∧
    (reofferProbe s).clock = s.clock ∧
    (reofferProbe s).windowIn = s.windowIn ∧
    (reofferProbe s).sched = s.sched ∧
    (reofferProbe s).exch = s.exch ∧
    (reofferProbe s).stations = s.stations ∧
    (reofferProbe s).guest = s.guest ∧
    (reofferProbe s).mgmt = s.mgmt := by
  unfold reofferProbe
  dsimp only
  (repeat' split) <;> simp

@[simp] theorem moveByEcho_frame (g : Bool) (s : State) :
    (moveByEcho g s).pending = s.pending ∧
    (moveByEcho g s).choices = s.choices ∧
    (moveByEcho g s).now = s.now ∧
    (moveByEcho g s).straps = s.straps ∧
    (moveByEcho g s).settings = s.settings ∧
    (moveByEcho g s).items = s.items ∧
    (moveByEcho g s).labels = s.labels ∧
    (moveByEcho g s).disp = s.disp ∧
    (moveByEcho g s).clock = s.clock ∧
    (moveByEcho g s).windowIn = s.windowIn ∧
    (moveByEcho g s).sched = s.sched ∧
    (moveByEcho g s).stations = s.stations := by
  unfold moveByEcho
  dsimp only
  (repeat' split) <;> simp

@[simp] theorem countEcho_frame (p : Probe) (s : State) :
    (countEcho p s).pending = s.pending ∧
    (countEcho p s).choices = s.choices ∧
    (countEcho p s).now = s.now ∧
    (countEcho p s).straps = s.straps ∧
    (countEcho p s).settings = s.settings ∧
    (countEcho p s).items = s.items ∧
    (countEcho p s).labels = s.labels ∧
    (countEcho p s).disp = s.disp ∧
    (countEcho p s).clock = s.clock ∧
    (countEcho p s).windowIn = s.windowIn ∧
    (countEcho p s).sched = s.sched ∧
    (countEcho p s).stations = s.stations := by
  unfold countEcho
  dsimp only
  (repeat' split) <;> simp

@[simp] theorem takeLinkEcho_frame (b : List Byte) (s : State) :
    (takeLinkEcho b s).pending = s.pending ∧
    (takeLinkEcho b s).choices = s.choices ∧
    (takeLinkEcho b s).now = s.now ∧
    (takeLinkEcho b s).straps = s.straps ∧
    (takeLinkEcho b s).settings = s.settings ∧
    (takeLinkEcho b s).items = s.items ∧
    (takeLinkEcho b s).labels = s.labels ∧
    (takeLinkEcho b s).disp = s.disp ∧
    (takeLinkEcho b s).clock = s.clock ∧
    (takeLinkEcho b s).windowIn = s.windowIn ∧
    (takeLinkEcho b s).sched = s.sched ∧
    (takeLinkEcho b s).stations = s.stations := by
  unfold takeLinkEcho
  (repeat' split) <;> simp

@[simp] theorem uplinkLinkDown_frame (s : State) :
    (uplinkLinkDown s).pending = s.pending ∧
    (uplinkLinkDown s).choices = s.choices ∧
    (uplinkLinkDown s).now = s.now ∧
    (uplinkLinkDown s).straps = s.straps ∧
    (uplinkLinkDown s).settings = s.settings ∧
    (uplinkLinkDown s).items = s.items ∧
    (uplinkLinkDown s).labels = s.labels ∧
    (uplinkLinkDown s).disp = s.disp ∧
    (uplinkLinkDown s).clock = s.clock ∧
    (uplinkLinkDown s).windowIn = s.windowIn ∧
    (uplinkLinkDown s).sched = s.sched ∧
    (uplinkLinkDown s).stations = s.stations := by
  unfold uplinkLinkDown
  simp

@[simp] theorem forceUplink_frame (b : Bool) (s : State) :
    (forceUplink b s).pending = s.pending ∧
    (forceUplink b s).choices = s.choices ∧
    (forceUplink b s).now = s.now ∧
    (forceUplink b s).straps = s.straps ∧
    (forceUplink b s).settings = s.settings ∧
    (forceUplink b s).items = s.items ∧
    (forceUplink b s).labels = s.labels ∧
    (forceUplink b s).disp = s.disp ∧
    (forceUplink b s).clock = s.clock ∧
    (forceUplink b s).windowIn = s.windowIn ∧
    (forceUplink b s).sched = s.sched ∧
    (forceUplink b s).stations = s.stations := by
  unfold forceUplink
  dsimp only
  (repeat' split) <;> simp

@[simp] theorem headOfficeChanged_frame (s : State) :
    (headOfficeChanged s).pending = s.pending ∧
    (headOfficeChanged s).choices = s.choices ∧
    (headOfficeChanged s).now = s.now ∧
    (headOfficeChanged s).straps = s.straps ∧
    (headOfficeChanged s).settings = s.settings ∧
    (headOfficeChanged s).items = s.items ∧
    (headOfficeChanged s).labels = s.labels ∧
    (headOfficeChanged s).disp = s.disp ∧
    (headOfficeChanged s).clock = s.clock ∧
    (headOfficeChanged s).windowIn = s.windowIn ∧
    (headOfficeChanged s).sched = s.sched ∧
    (headOfficeChanged s).stations = s.stations := by
  unfold headOfficeChanged
  (repeat' split) <;> simp

@[simp] theorem uplinkResetTraffic_frame (s : State) :
    (uplinkResetTraffic s).pending = s.pending ∧
    (uplinkResetTraffic s).choices = s.choices ∧
    (uplinkResetTraffic s).now = s.now ∧
    (uplinkResetTraffic s).straps = s.straps ∧
    (uplinkResetTraffic s).settings = s.settings ∧
    (uplinkResetTraffic s).items = s.items ∧
    (uplinkResetTraffic s).labels = s.labels ∧
    (uplinkResetTraffic s).disp = s.disp ∧
    (uplinkResetTraffic s).clock = s.clock ∧
    (uplinkResetTraffic s).windowIn = s.windowIn ∧
    (uplinkResetTraffic s).sched = s.sched ∧
    (uplinkResetTraffic s).stations = s.stations := by
  unfold uplinkResetTraffic
  dsimp only
  simp

@[simp] theorem exchWindowEvent_frame (s : State) :
    (exchWindowEvent s).pending = s.pending ∧
    (exchWindowEvent s).choices = s.choices ∧
    (exchWindowEvent s).now = s.now ∧
    (exchWindowEvent s).straps = s.straps ∧
    (exchWindowEvent s).settings = s.settings ∧
    (exchWindowEvent s).items = s.items ∧
    (exchWindowEvent s).labels = s.labels ∧
    (exchWindowEvent s).disp = s.disp ∧
    (exchWindowEvent s).till = s.till ∧
    (exchWindowEvent s).journal = s.journal ∧
    (exchWindowEvent s).clock = s.clock ∧
    (exchWindowEvent s).windowIn = s.windowIn ∧
    (exchWindowEvent s).sched = s.sched ∧
    (exchWindowEvent s).uplink = s.uplink ∧
    (exchWindowEvent s).stations = s.stations ∧
    (exchWindowEvent s).guest = s.guest := by
  unfold exchWindowEvent
  (repeat' split) <;> simp

@[simp] theorem recomputeWindow_frame (s : State) :
    (recomputeWindow s).pending = s.pending ∧
    (recomputeWindow s).choices = s.choices ∧
    (recomputeWindow s).now = s.now ∧
    (recomputeWindow s).straps = s.straps ∧
    (recomputeWindow s).settings = s.settings ∧
    (recomputeWindow s).items = s.items ∧
    (recomputeWindow s).labels = s.labels ∧
    (recomputeWindow s).disp = s.disp ∧
    (recomputeWindow s).till = s.till ∧
    (recomputeWindow s).journal = s.journal ∧
    (recomputeWindow s).clock = s.clock ∧
    (recomputeWindow s).sched = s.sched ∧
    (recomputeWindow s).uplink = s.uplink ∧
    (recomputeWindow s).stations = s.stations := by
  unfold recomputeWindow
  (repeat' split) <;> simp

@[simp] theorem clockSecondStep_frame (s : State) :
    (clockSecondStep s).pending = s.pending ∧
    (clockSecondStep s).choices = s.choices ∧
    (clockSecondStep s).now = s.now ∧
    (clockSecondStep s).straps = s.straps ∧
    (clockSecondStep s).settings = s.settings ∧
    (clockSecondStep s).items = s.items ∧
    (clockSecondStep s).labels = s.labels ∧
    (clockSecondStep s).disp = s.disp ∧
    (clockSecondStep s).till = s.till ∧
    (clockSecondStep s).journal = s.journal ∧
    (clockSecondStep s).sched = s.sched ∧
    (clockSecondStep s).uplink = s.uplink ∧
    (clockSecondStep s).stations = s.stations := by
  unfold clockSecondStep
  (repeat' split) <;> simp

@[simp] theorem setClock_frame (n : Nat) (s : State) :
    (setClock n s).pending = s.pending ∧
    (setClock n s).choices = s.choices ∧
    (setClock n s).now = s.now ∧
    (setClock n s).straps = s.straps ∧
    (setClock n s).settings = s.settings ∧
    (setClock n s).items = s.items ∧
    (setClock n s).labels = s.labels ∧
    (setClock n s).disp = s.disp ∧
    (setClock n s).till = s.till ∧
    (setClock n s).journal = s.journal ∧
    (setClock n s).sched = s.sched ∧
    (setClock n s).uplink = s.uplink ∧
    (setClock n s).stations = s.stations := by
  unfold setClock
  simp

@[simp] theorem takeExchOpen_frame (b : List Byte) (s : State) :
    (takeExchOpen b s).pending = s.pending ∧
    (takeExchOpen b s).choices = s.choices ∧
    (takeExchOpen b s).now = s.now ∧
    (takeExchOpen b s).straps = s.straps ∧
    (takeExchOpen b s).settings = s.settings ∧
    (takeExchOpen b s).items = s.items ∧
    (takeExchOpen b s).labels = s.labels ∧
    (takeExchOpen b s).disp = s.disp ∧
    (takeExchOpen b s).till = s.till ∧
    (takeExchOpen b s).journal = s.journal ∧
    (takeExchOpen b s).sched = s.sched ∧
    (takeExchOpen b s).uplink = s.uplink ∧
    (takeExchOpen b s).stations = s.stations := by
  unfold takeExchOpen
  dsimp only
  (repeat' split) <;> simp

@[simp] theorem lightPort_frame (p : Port) (s : State) :
    (lightPort p s).pending = s.pending ∧
    (lightPort p s).choices = s.choices ∧
    (lightPort p s).now = s.now ∧
    (lightPort p s).straps = s.straps ∧
    (lightPort p s).settings = s.settings ∧
    (lightPort p s).items = s.items ∧
    (lightPort p s).labels = s.labels ∧
    (lightPort p s).disp = s.disp ∧
    (lightPort p s).till = s.till ∧
    (lightPort p s).journal = s.journal ∧
    (lightPort p s).clock = s.clock ∧
    (lightPort p s).windowIn = s.windowIn ∧
    (lightPort p s).sched = s.sched ∧
    (lightPort p s).exch = s.exch ∧
    (lightPort p s).uplink = s.uplink ∧
    (lightPort p s).stations = s.stations ∧
    (lightPort p s).guest = s.guest ∧
    (lightPort p s).mon = s.mon ∧
    (lightPort p s).mgmt = s.mgmt := by
  unfold lightPort
  dsimp only
  simp

@[simp] theorem putStation_frame (e : Station) (s : State) :
    (putStation e s).pending = s.pending ∧
    (putStation e s).choices = s.choices ∧
    (putStation e s).now = s.now ∧
    (putStation e s).straps = s.straps ∧
    (putStation e s).settings = s.settings ∧
    (putStation e s).items = s.items ∧
    (putStation e s).labels = s.labels ∧
    (putStation e s).disp = s.disp ∧
    (putStation e s).till = s.till ∧
    (putStation e s).journal = s.journal ∧
    (putStation e s).clock = s.clock ∧
    (putStation e s).windowIn = s.windowIn ∧
    (putStation e s).sched = s.sched ∧
    (putStation e s).exch = s.exch ∧
    (putStation e s).uplink = s.uplink ∧
    (putStation e s).pool = s.pool ∧
    (putStation e s).guest = s.guest ∧
    (putStation e s).mon = s.mon ∧
    (putStation e s).mgmt = s.mgmt := by
  unfold putStation
  simp

@[simp] theorem misplace_frame (p : Port) (e : Station) (s : State) :
    (misplace p e s).pending = s.pending ∧
    (misplace p e s).choices = s.choices ∧
    (misplace p e s).now = s.now ∧
    (misplace p e s).straps = s.straps ∧
    (misplace p e s).settings = s.settings ∧
    (misplace p e s).items = s.items ∧
    (misplace p e s).labels = s.labels ∧
    (misplace p e s).disp = s.disp ∧
    (misplace p e s).till = s.till ∧
    (misplace p e s).journal = s.journal ∧
    (misplace p e s).clock = s.clock ∧
    (misplace p e s).windowIn = s.windowIn ∧
    (misplace p e s).sched = s.sched ∧
    (misplace p e s).exch = s.exch ∧
    (misplace p e s).uplink = s.uplink ∧
    (misplace p e s).guest = s.guest := by
  unfold misplace
  dsimp only
  (repeat' split) <;> simp

@[simp] theorem appendRequest_frame (p : Port) (a : Addr) (b : List Byte) (s : State) :
    (appendRequest p a b s).pending = s.pending ∧
    (appendRequest p a b s).choices = s.choices ∧
    (appendRequest p a b s).now = s.now ∧
    (appendRequest p a b s).straps = s.straps ∧
    (appendRequest p a b s).settings = s.settings ∧
    (appendRequest p a b s).items = s.items ∧
    (appendRequest p a b s).labels = s.labels ∧
    (appendRequest p a b s).disp = s.disp ∧
    (appendRequest p a b s).till = s.till ∧
    (appendRequest p a b s).journal = s.journal ∧
    (appendRequest p a b s).clock = s.clock ∧
    (appendRequest p a b s).windowIn = s.windowIn ∧
    (appendRequest p a b s).sched = s.sched ∧
    (appendRequest p a b s).exch = s.exch ∧
    (appendRequest p a b s).uplink = s.uplink ∧
    (appendRequest p a b s).pool = s.pool ∧
    (appendRequest p a b s).stations = s.stations ∧
    (appendRequest p a b s).guest = s.guest ∧
    (appendRequest p a b s).mon = s.mon := by
  unfold appendRequest
  dsimp only
  (repeat' split) <;> simp

@[simp] theorem toOwner_frame (k : MsgKind) (p : Port) (a : Addr) (b : List Byte) (s : State) :
    (toOwner k p a b s).pending = s.pending ∧
    (toOwner k p a b s).choices = s.choices ∧
    (toOwner k p a b s).now = s.now ∧
    (toOwner k p a b s).straps = s.straps ∧
    (toOwner k p a b s).settings = s.settings ∧
    (toOwner k p a b s).sched = s.sched ∧
    (toOwner k p a b s).stations = s.stations := by
  unfold toOwner
  (repeat' split) <;> simp

@[simp] theorem checkBranch_frame (k : MsgKind) (p : Port) (a : Addr) (n : Nat) (b : List Byte) (s : State) :
    (checkBranch k p a n b s).pending = s.pending ∧
    (checkBranch k p a n b s).choices = s.choices ∧
    (checkBranch k p a n b s).now = s.now ∧
    (checkBranch k p a n b s).straps = s.straps ∧
    (checkBranch k p a n b s).settings = s.settings ∧
    (checkBranch k p a n b s).sched = s.sched ∧
    (checkBranch k p a n b s).stations = s.stations := by
  unfold checkBranch
  (repeat' split) <;> simp

@[simp] theorem parseBranch_frame (p : Port) (fr : Frame) (s : State) :
    (parseBranch p fr s).pending = s.pending ∧
    (parseBranch p fr s).choices = s.choices ∧
    (parseBranch p fr s).now = s.now ∧
    (parseBranch p fr s).straps = s.straps ∧
    (parseBranch p fr s).settings = s.settings ∧
    (parseBranch p fr s).sched = s.sched ∧
    (parseBranch p fr s).stations = s.stations := by
  unfold parseBranch
  (repeat' split) <;> simp

/-- The state learning leaves, whichever way it ends. -/
def Learned.after : Learned → State
  | .dropped s => s
  | .passed _ s => s

@[simp] theorem learnGuest_frame (a : Addr) (s : State) :
    (learnGuest a s).after.pending = s.pending ∧
    (learnGuest a s).after.choices = s.choices ∧
    (learnGuest a s).after.now = s.now ∧
    (learnGuest a s).after.straps = s.straps ∧
    (learnGuest a s).after.settings = s.settings ∧
    (learnGuest a s).after.items = s.items ∧
    (learnGuest a s).after.labels = s.labels ∧
    (learnGuest a s).after.disp = s.disp ∧
    (learnGuest a s).after.till = s.till ∧
    (learnGuest a s).after.journal = s.journal ∧
    (learnGuest a s).after.clock = s.clock ∧
    (learnGuest a s).after.windowIn = s.windowIn ∧
    (learnGuest a s).after.sched = s.sched ∧
    (learnGuest a s).after.exch = s.exch ∧
    (learnGuest a s).after.uplink = s.uplink ∧
    (learnGuest a s).after.pool = s.pool ∧
    (learnGuest a s).after.mgmt = s.mgmt := by
  unfold learnGuest
  dsimp only
  (repeat' split) <;> simp [Learned.after]

@[simp] theorem learnStation_frame (p : Port) (a : Addr) (s : State) :
    (learnStation p a s).after.pending = s.pending ∧
    (learnStation p a s).after.choices = s.choices ∧
    (learnStation p a s).after.now = s.now ∧
    (learnStation p a s).after.straps = s.straps ∧
    (learnStation p a s).after.settings = s.settings ∧
    (learnStation p a s).after.items = s.items ∧
    (learnStation p a s).after.labels = s.labels ∧
    (learnStation p a s).after.disp = s.disp ∧
    (learnStation p a s).after.till = s.till ∧
    (learnStation p a s).after.journal = s.journal ∧
    (learnStation p a s).after.clock = s.clock ∧
    (learnStation p a s).after.windowIn = s.windowIn ∧
    (learnStation p a s).after.sched = s.sched ∧
    (learnStation p a s).after.exch = s.exch ∧
    (learnStation p a s).after.uplink = s.uplink ∧
    (learnStation p a s).after.pool = s.pool ∧
    (learnStation p a s).after.guest = s.guest ∧
    (learnStation p a s).after.mgmt = s.mgmt := by
  unfold learnStation
  dsimp only
  (repeat' split) <;> simp [Learned.after]

@[simp] theorem moveStation_frame (p : Port) (e : Station) (s : State) :
    (moveStation p e s).after.pending = s.pending ∧
    (moveStation p e s).after.choices = s.choices ∧
    (moveStation p e s).after.now = s.now ∧
    (moveStation p e s).after.straps = s.straps ∧
    (moveStation p e s).after.settings = s.settings ∧
    (moveStation p e s).after.items = s.items ∧
    (moveStation p e s).after.labels = s.labels ∧
    (moveStation p e s).after.disp = s.disp ∧
    (moveStation p e s).after.till = s.till ∧
    (moveStation p e s).after.journal = s.journal ∧
    (moveStation p e s).after.clock = s.clock ∧
    (moveStation p e s).after.windowIn = s.windowIn ∧
    (moveStation p e s).after.sched = s.sched ∧
    (moveStation p e s).after.exch = s.exch ∧
    (moveStation p e s).after.uplink = s.uplink ∧
    (moveStation p e s).after.pool = s.pool ∧
    (moveStation p e s).after.mgmt = s.mgmt := by
  unfold moveStation
  dsimp only
  (repeat' split) <;> first | simp | simp [Learned.after]

@[simp] theorem learnSource_frame (p : Port) (a : Addr) (s : State) :
    (learnSource p a s).after.pending = s.pending ∧
    (learnSource p a s).after.choices = s.choices ∧
    (learnSource p a s).after.now = s.now ∧
    (learnSource p a s).after.straps = s.straps ∧
    (learnSource p a s).after.settings = s.settings ∧
    (learnSource p a s).after.items = s.items ∧
    (learnSource p a s).after.labels = s.labels ∧
    (learnSource p a s).after.disp = s.disp ∧
    (learnSource p a s).after.till = s.till ∧
    (learnSource p a s).after.journal = s.journal ∧
    (learnSource p a s).after.clock = s.clock ∧
    (learnSource p a s).after.windowIn = s.windowIn ∧
    (learnSource p a s).after.sched = s.sched ∧
    (learnSource p a s).after.exch = s.exch ∧
    (learnSource p a s).after.uplink = s.uplink := by
  unfold learnSource
  (repeat' split) <;> first | simp | simp [Learned.after]

@[simp] theorem copyGroup_frame (p : Port) (c : Option StationClass) (fr : Frame) (s : State) :
    (copyGroup p c fr s).pending = s.pending ∧
    (copyGroup p c fr s).choices = s.choices ∧
    (copyGroup p c fr s).now = s.now ∧
    (copyGroup p c fr s).straps = s.straps ∧
    (copyGroup p c fr s).settings = s.settings ∧
    (copyGroup p c fr s).items = s.items ∧
    (copyGroup p c fr s).labels = s.labels ∧
    (copyGroup p c fr s).disp = s.disp ∧
    (copyGroup p c fr s).till = s.till ∧
    (copyGroup p c fr s).journal = s.journal ∧
    (copyGroup p c fr s).clock = s.clock ∧
    (copyGroup p c fr s).windowIn = s.windowIn ∧
    (copyGroup p c fr s).sched = s.sched ∧
    (copyGroup p c fr s).exch = s.exch ∧
    (copyGroup p c fr s).uplink = s.uplink ∧
    (copyGroup p c fr s).stations = s.stations ∧
    (copyGroup p c fr s).guest = s.guest ∧
    (copyGroup p c fr s).mgmt = s.mgmt := by
  unfold copyGroup
  generalize List.filter _ _ = l
  induction l generalizing s with
  | nil => simp
  | cons a l ih => simp [ih]

@[simp] theorem sendOn_frame (q : Port) (a b : Option StationClass) (fr : Frame) (y : Bool) (s : State) :
    (sendOn q a b fr y s).pending = s.pending ∧
    (sendOn q a b fr y s).choices = s.choices ∧
    (sendOn q a b fr y s).now = s.now ∧
    (sendOn q a b fr y s).straps = s.straps ∧
    (sendOn q a b fr y s).settings = s.settings ∧
    (sendOn q a b fr y s).items = s.items ∧
    (sendOn q a b fr y s).labels = s.labels ∧
    (sendOn q a b fr y s).disp = s.disp ∧
    (sendOn q a b fr y s).till = s.till ∧
    (sendOn q a b fr y s).journal = s.journal ∧
    (sendOn q a b fr y s).clock = s.clock ∧
    (sendOn q a b fr y s).windowIn = s.windowIn ∧
    (sendOn q a b fr y s).sched = s.sched ∧
    (sendOn q a b fr y s).exch = s.exch ∧
    (sendOn q a b fr y s).uplink = s.uplink ∧
    (sendOn q a b fr y s).stations = s.stations ∧
    (sendOn q a b fr y s).guest = s.guest ∧
    (sendOn q a b fr y s).mgmt = s.mgmt := by
  unfold sendOn
  simp

@[simp] theorem throughGates_frame (p q : Port) (a b : Option Station) (fr : Frame) (s : State) :
    (throughGates p q a b fr s).pending = s.pending ∧
    (throughGates p q a b fr s).choices = s.choices ∧
    (throughGates p q a b fr s).now = s.now ∧
    (throughGates p q a b fr s).straps = s.straps ∧
    (throughGates p q a b fr s).settings = s.settings ∧
    (throughGates p q a b fr s).items = s.items ∧
    (throughGates p q a b fr s).labels = s.labels ∧
    (throughGates p q a b fr s).disp = s.disp ∧
    (throughGates p q a b fr s).till = s.till ∧
    (throughGates p q a b fr s).journal = s.journal ∧
    (throughGates p q a b fr s).clock = s.clock ∧
    (throughGates p q a b fr s).windowIn = s.windowIn ∧
    (throughGates p q a b fr s).sched = s.sched ∧
    (throughGates p q a b fr s).exch = s.exch ∧
    (throughGates p q a b fr s).uplink = s.uplink ∧
    (throughGates p q a b fr s).stations = s.stations ∧
    (throughGates p q a b fr s).mgmt = s.mgmt := by
  unfold throughGates
  dsimp only
  (repeat' split) <;> simp

@[simp] theorem forwardUnicast_frame (p : Port) (e : Option Station) (fr : Frame) (s : State) :
    (forwardUnicast p e fr s).pending = s.pending ∧
    (forwardUnicast p e fr s).choices = s.choices ∧
    (forwardUnicast p e fr s).now = s.now ∧
    (forwardUnicast p e fr s).straps = s.straps ∧
    (forwardUnicast p e fr s).settings = s.settings ∧
    (forwardUnicast p e fr s).items = s.items ∧
    (forwardUnicast p e fr s).labels = s.labels ∧
    (forwardUnicast p e fr s).disp = s.disp ∧
    (forwardUnicast p e fr s).till = s.till ∧
    (forwardUnicast p e fr s).journal = s.journal ∧
    (forwardUnicast p e fr s).clock = s.clock ∧
    (forwardUnicast p e fr s).windowIn = s.windowIn ∧
    (forwardUnicast p e fr s).sched = s.sched ∧
    (forwardUnicast p e fr s).exch = s.exch ∧
    (forwardUnicast p e fr s).uplink = s.uplink ∧
    (forwardUnicast p e fr s).stations = s.stations ∧
    (forwardUnicast p e fr s).mgmt = s.mgmt := by
  unfold forwardUnicast
  dsimp only
  (repeat' split) <;> simp

@[simp] theorem receiveBranch_frame (k : MsgKind) (m : BranchArrival) (s : State) :
    (receiveBranch k m s).pending = s.pending ∧
    (receiveBranch k m s).choices = s.choices ∧
    (receiveBranch k m s).now = s.now ∧
    (receiveBranch k m s).straps = s.straps ∧
    (receiveBranch k m s).settings = s.settings ∧
    (receiveBranch k m s).sched = s.sched := by
  unfold receiveBranch throughGate
  split
  · split
    · dsimp only
      generalize ht : lightPort m.port (count (occPort .framesReceived m.port) s) = t
      have h : (t.pending = s.pending ∧
    t.choices = s.choices ∧
    t.now = s.now ∧
    t.straps = s.straps ∧
    t.settings = s.settings ∧
    t.sched = s.sched) := by subst ht; simp
      have hl := learnSource_frame m.port m.src t
      split <;> rename_i he <;> rw [he] at hl <;> simp only [Learned.after] at hl <;> simp [hl, h]
    · simp
  · simp

@[simp] theorem receiveFrame_frame (a : FrameArrival) (s : State) :
    (receiveFrame a s).pending = s.pending ∧
    (receiveFrame a s).choices = s.choices ∧
    (receiveFrame a s).now = s.now ∧
    (receiveFrame a s).straps = s.straps ∧
    (receiveFrame a s).settings = s.settings ∧
    (receiveFrame a s).sched = s.sched := by
  unfold receiveFrame throughGate
  split
  · split
    · dsimp only
      generalize ht : lightPort a.port (count (occPort .framesReceived a.port) s) = t
      have h : (t.pending = s.pending ∧
    t.choices = s.choices ∧
    t.now = s.now ∧
    t.straps = s.straps ∧
    t.settings = s.settings ∧
    t.sched = s.sched) := by subst ht; simp
      have hl := learnSource_frame a.port a.frame.src t
      split <;> rename_i he <;> rw [he] at hl <;> simp only [Learned.after] at hl
      · simp [hl, h]
      · (repeat' split) <;> simp [hl, h]
    · simp
  · simp

@[simp] theorem receiveDamaged_frame (p : Port) (s : State) :
    (receiveDamaged p s).pending = s.pending ∧
    (receiveDamaged p s).choices = s.choices ∧
    (receiveDamaged p s).now = s.now ∧
    (receiveDamaged p s).straps = s.straps ∧
    (receiveDamaged p s).settings = s.settings ∧
    (receiveDamaged p s).items = s.items ∧
    (receiveDamaged p s).labels = s.labels ∧
    (receiveDamaged p s).disp = s.disp ∧
    (receiveDamaged p s).till = s.till ∧
    (receiveDamaged p s).journal = s.journal ∧
    (receiveDamaged p s).clock = s.clock ∧
    (receiveDamaged p s).windowIn = s.windowIn ∧
    (receiveDamaged p s).sched = s.sched ∧
    (receiveDamaged p s).exch = s.exch ∧
    (receiveDamaged p s).uplink = s.uplink ∧
    (receiveDamaged p s).pool = s.pool ∧
    (receiveDamaged p s).stations = s.stations ∧
    (receiveDamaged p s).guest = s.guest ∧
    (receiveDamaged p s).mgmt = s.mgmt := by
  unfold receiveDamaged
  (repeat' split) <;> simp

@[simp] theorem linkUpStep_frame (p : Port) (x : Speed) (s : State) :
    (linkUpStep p x s).pending = s.pending ∧
    (linkUpStep p x s).choices = s.choices ∧
    (linkUpStep p x s).now = s.now ∧
    (linkUpStep p x s).straps = s.straps ∧
    (linkUpStep p x s).settings = s.settings ∧
    (linkUpStep p x s).items = s.items ∧
    (linkUpStep p x s).labels = s.labels ∧
    (linkUpStep p x s).disp = s.disp ∧
    (linkUpStep p x s).till = s.till ∧
    (linkUpStep p x s).journal = s.journal ∧
    (linkUpStep p x s).clock = s.clock ∧
    (linkUpStep p x s).windowIn = s.windowIn ∧
    (linkUpStep p x s).sched = s.sched ∧
    (linkUpStep p x s).exch = s.exch ∧
    (linkUpStep p x s).stations = s.stations ∧
    (linkUpStep p x s).guest = s.guest ∧
    (linkUpStep p x s).mgmt = s.mgmt := by
  unfold linkUpStep
  dsimp only
  (repeat' split) <;> simp

@[simp] theorem markReoffer_frame (s : State) :
    (markReoffer s).pending = s.pending ∧
    (markReoffer s).choices = s.choices ∧
    (markReoffer s).now = s.now ∧
    (markReoffer s).straps = s.straps ∧
    (markReoffer s).settings = s.settings ∧
    (markReoffer s).items = s.items ∧
    (markReoffer s).labels = s.labels ∧
    (markReoffer s).disp = s.disp ∧
    (markReoffer s).till = s.till ∧
    (markReoffer s).journal = s.journal ∧
    (markReoffer s).clock = s.clock ∧
    (markReoffer s).windowIn = s.windowIn ∧
    (markReoffer s).sched = s.sched ∧
    (markReoffer s).exch = s.exch ∧
    (markReoffer s).uplink = s.uplink ∧
    (markReoffer s).stations = s.stations ∧
    (markReoffer s).guest = s.guest ∧
    (markReoffer s).mon = s.mon ∧
    (markReoffer s).mgmt = s.mgmt := by
  unfold markReoffer
  dsimp only
  simp

@[simp] theorem forgetHeld_frame (p : Port) (s : State) :
    (forgetHeld p s).pending = s.pending ∧
    (forgetHeld p s).choices = s.choices ∧
    (forgetHeld p s).now = s.now ∧
    (forgetHeld p s).straps = s.straps ∧
    (forgetHeld p s).settings = s.settings ∧
    (forgetHeld p s).items = s.items ∧
    (forgetHeld p s).labels = s.labels ∧
    (forgetHeld p s).clock = s.clock ∧
    (forgetHeld p s).windowIn = s.windowIn ∧
    (forgetHeld p s).sched = s.sched ∧
    (forgetHeld p s).pool = s.pool ∧
    (forgetHeld p s).stations = s.stations ∧
    (forgetHeld p s).guest = s.guest ∧
    (forgetHeld p s).mon = s.mon := by
  simp [forgetHeld]

@[simp] theorem discardHeld_frame (p : Port) (s : State) :
    (discardHeld p s).pending = s.pending ∧
    (discardHeld p s).choices = s.choices ∧
    (discardHeld p s).now = s.now ∧
    (discardHeld p s).straps = s.straps ∧
    (discardHeld p s).settings = s.settings ∧
    (discardHeld p s).items = s.items ∧
    (discardHeld p s).clock = s.clock ∧
    (discardHeld p s).windowIn = s.windowIn ∧
    (discardHeld p s).sched = s.sched ∧
    (discardHeld p s).stations = s.stations ∧
    (discardHeld p s).guest = s.guest := by
  unfold discardHeld
  dsimp only
  (repeat' split) <;> simp

@[simp] theorem linkDownStep_frame (p : Port) (r : Bool) (s : State) :
    (linkDownStep p r s).pending = s.pending ∧
    (linkDownStep p r s).choices = s.choices ∧
    (linkDownStep p r s).now = s.now ∧
    (linkDownStep p r s).straps = s.straps ∧
    (linkDownStep p r s).settings = s.settings ∧
    (linkDownStep p r s).items = s.items ∧
    (linkDownStep p r s).clock = s.clock ∧
    (linkDownStep p r s).windowIn = s.windowIn ∧
    (linkDownStep p r s).sched = s.sched ∧
    (linkDownStep p r s).stations = s.stations := by
  unfold linkDownStep
  dsimp only
  (repeat' split) <;> simp

@[simp] theorem transmitEndStep_frame (p : Port) (s : State) :
    (transmitEndStep p s).pending = s.pending ∧
    (transmitEndStep p s).choices = s.choices ∧
    (transmitEndStep p s).now = s.now ∧
    (transmitEndStep p s).straps = s.straps ∧
    (transmitEndStep p s).settings = s.settings ∧
    (transmitEndStep p s).items = s.items ∧
    (transmitEndStep p s).labels = s.labels ∧
    (transmitEndStep p s).disp = s.disp ∧
    (transmitEndStep p s).till = s.till ∧
    (transmitEndStep p s).journal = s.journal ∧
    (transmitEndStep p s).clock = s.clock ∧
    (transmitEndStep p s).windowIn = s.windowIn ∧
    (transmitEndStep p s).sched = s.sched ∧
    (transmitEndStep p s).exch = s.exch ∧
    (transmitEndStep p s).uplink = s.uplink ∧
    (transmitEndStep p s).stations = s.stations ∧
    (transmitEndStep p s).guest = s.guest ∧
    (transmitEndStep p s).mgmt = s.mgmt := by
  unfold transmitEndStep
  dsimp only
  (repeat' split) <;> simp

@[simp] theorem takeSnapshot_frame (s : State) :
    (takeSnapshot s).pending = s.pending ∧
    (takeSnapshot s).choices = s.choices ∧
    (takeSnapshot s).now = s.now ∧
    (takeSnapshot s).straps = s.straps ∧
    (takeSnapshot s).settings = s.settings ∧
    (takeSnapshot s).items = s.items ∧
    (takeSnapshot s).labels = s.labels ∧
    (takeSnapshot s).disp = s.disp ∧
    (takeSnapshot s).till = s.till ∧
    (takeSnapshot s).journal = s.journal ∧
    (takeSnapshot s).clock = s.clock ∧
    (takeSnapshot s).windowIn = s.windowIn ∧
    (takeSnapshot s).sched = s.sched ∧
    (takeSnapshot s).exch = s.exch ∧
    (takeSnapshot s).uplink = s.uplink ∧
    (takeSnapshot s).pool = s.pool ∧
    (takeSnapshot s).stations = s.stations ∧
    (takeSnapshot s).guest = s.guest ∧
    (takeSnapshot s).mgmt = s.mgmt := by
  unfold takeSnapshot
  dsimp only
  simp

@[simp] theorem occupancySampleStep_frame (s : State) :
    (occupancySampleStep s).pending = s.pending ∧
    (occupancySampleStep s).choices = s.choices ∧
    (occupancySampleStep s).now = s.now ∧
    (occupancySampleStep s).straps = s.straps ∧
    (occupancySampleStep s).settings = s.settings ∧
    (occupancySampleStep s).items = s.items ∧
    (occupancySampleStep s).labels = s.labels ∧
    (occupancySampleStep s).disp = s.disp ∧
    (occupancySampleStep s).till = s.till ∧
    (occupancySampleStep s).journal = s.journal ∧
    (occupancySampleStep s).clock = s.clock ∧
    (occupancySampleStep s).windowIn = s.windowIn ∧
    (occupancySampleStep s).sched = s.sched ∧
    (occupancySampleStep s).exch = s.exch ∧
    (occupancySampleStep s).uplink = s.uplink ∧
    (occupancySampleStep s).stations = s.stations ∧
    (occupancySampleStep s).guest = s.guest := by
  unfold occupancySampleStep
  dsimp only
  split
  · generalize be 2 _ = d
    generalize s.mon.waiting = l
    have h : ∀ v : State, (v.pending = s.pending ∧
    v.choices = s.choices ∧
    v.now = s.now ∧
    v.straps = s.straps ∧
    v.settings = s.settings ∧
    v.items = s.items ∧
    v.labels = s.labels ∧
    v.disp = s.disp ∧
    v.till = s.till ∧
    v.journal = s.journal ∧
    v.clock = s.clock ∧
    v.windowIn = s.windowIn ∧
    v.sched = s.sched ∧
    v.exch = s.exch ∧
    v.uplink = s.uplink ∧
    v.stations = s.stations ∧
    v.guest = s.guest) → ((l.foldl (fun v r => answer r MgmtResult.done d v) v).pending = s.pending ∧
    (l.foldl (fun v r => answer r MgmtResult.done d v) v).choices = s.choices ∧
    (l.foldl (fun v r => answer r MgmtResult.done d v) v).now = s.now ∧
    (l.foldl (fun v r => answer r MgmtResult.done d v) v).straps = s.straps ∧
    (l.foldl (fun v r => answer r MgmtResult.done d v) v).settings = s.settings ∧
    (l.foldl (fun v r => answer r MgmtResult.done d v) v).items = s.items ∧
    (l.foldl (fun v r => answer r MgmtResult.done d v) v).labels = s.labels ∧
    (l.foldl (fun v r => answer r MgmtResult.done d v) v).disp = s.disp ∧
    (l.foldl (fun v r => answer r MgmtResult.done d v) v).till = s.till ∧
    (l.foldl (fun v r => answer r MgmtResult.done d v) v).journal = s.journal ∧
    (l.foldl (fun v r => answer r MgmtResult.done d v) v).clock = s.clock ∧
    (l.foldl (fun v r => answer r MgmtResult.done d v) v).windowIn = s.windowIn ∧
    (l.foldl (fun v r => answer r MgmtResult.done d v) v).sched = s.sched ∧
    (l.foldl (fun v r => answer r MgmtResult.done d v) v).exch = s.exch ∧
    (l.foldl (fun v r => answer r MgmtResult.done d v) v).uplink = s.uplink ∧
    (l.foldl (fun v r => answer r MgmtResult.done d v) v).stations = s.stations ∧
    (l.foldl (fun v r => answer r MgmtResult.done d v) v).guest = s.guest) := by
      intro v hv
      induction l generalizing v with
      | nil => simpa using hv
      | cons a l ih => exact ih _ (by simpa using hv)
    exact h _ (by simp)
  · simp

@[simp] theorem cutLeases_frame (s : State) :
    (cutLeases s).pending = s.pending ∧
    (cutLeases s).choices = s.choices ∧
    (cutLeases s).now = s.now ∧
    (cutLeases s).straps = s.straps ∧
    (cutLeases s).settings = s.settings ∧
    (cutLeases s).items = s.items ∧
    (cutLeases s).labels = s.labels ∧
    (cutLeases s).disp = s.disp ∧
    (cutLeases s).till = s.till ∧
    (cutLeases s).journal = s.journal ∧
    (cutLeases s).clock = s.clock ∧
    (cutLeases s).windowIn = s.windowIn ∧
    (cutLeases s).sched = s.sched ∧
    (cutLeases s).exch = s.exch ∧
    (cutLeases s).uplink = s.uplink ∧
    (cutLeases s).pool = s.pool ∧
    (cutLeases s).stations = s.stations ∧
    (cutLeases s).mon = s.mon ∧
    (cutLeases s).mgmt = s.mgmt := by
  unfold cutLeases
  dsimp only
  simp

@[simp] theorem cutCoolOff_frame (s : State) :
    (cutCoolOff s).pending = s.pending ∧
    (cutCoolOff s).choices = s.choices ∧
    (cutCoolOff s).now = s.now ∧
    (cutCoolOff s).straps = s.straps ∧
    (cutCoolOff s).settings = s.settings ∧
    (cutCoolOff s).items = s.items ∧
    (cutCoolOff s).labels = s.labels ∧
    (cutCoolOff s).disp = s.disp ∧
    (cutCoolOff s).till = s.till ∧
    (cutCoolOff s).journal = s.journal ∧
    (cutCoolOff s).clock = s.clock ∧
    (cutCoolOff s).windowIn = s.windowIn ∧
    (cutCoolOff s).sched = s.sched ∧
    (cutCoolOff s).exch = s.exch ∧
    (cutCoolOff s).uplink = s.uplink ∧
    (cutCoolOff s).pool = s.pool ∧
    (cutCoolOff s).stations = s.stations ∧
    (cutCoolOff s).mon = s.mon ∧
    (cutCoolOff s).mgmt = s.mgmt := by
  unfold cutCoolOff
  dsimp only
  simp

@[simp] theorem cutClientLevels_frame (s : State) :
    (cutClientLevels s).pending = s.pending ∧
    (cutClientLevels s).choices = s.choices ∧
    (cutClientLevels s).now = s.now ∧
    (cutClientLevels s).straps = s.straps ∧
    (cutClientLevels s).settings = s.settings ∧
    (cutClientLevels s).items = s.items ∧
    (cutClientLevels s).labels = s.labels ∧
    (cutClientLevels s).disp = s.disp ∧
    (cutClientLevels s).till = s.till ∧
    (cutClientLevels s).journal = s.journal ∧
    (cutClientLevels s).clock = s.clock ∧
    (cutClientLevels s).windowIn = s.windowIn ∧
    (cutClientLevels s).sched = s.sched ∧
    (cutClientLevels s).exch = s.exch ∧
    (cutClientLevels s).uplink = s.uplink ∧
    (cutClientLevels s).pool = s.pool ∧
    (cutClientLevels s).stations = s.stations ∧
    (cutClientLevels s).mon = s.mon ∧
    (cutClientLevels s).mgmt = s.mgmt := by
  unfold cutClientLevels
  dsimp only
  simp

@[simp] theorem cutAggregate_frame (s : State) :
    (cutAggregate s).pending = s.pending ∧
    (cutAggregate s).choices = s.choices ∧
    (cutAggregate s).now = s.now ∧
    (cutAggregate s).straps = s.straps ∧
    (cutAggregate s).settings = s.settings ∧
    (cutAggregate s).items = s.items ∧
    (cutAggregate s).labels = s.labels ∧
    (cutAggregate s).disp = s.disp ∧
    (cutAggregate s).till = s.till ∧
    (cutAggregate s).journal = s.journal ∧
    (cutAggregate s).clock = s.clock ∧
    (cutAggregate s).windowIn = s.windowIn ∧
    (cutAggregate s).sched = s.sched ∧
    (cutAggregate s).exch = s.exch ∧
    (cutAggregate s).uplink = s.uplink ∧
    (cutAggregate s).pool = s.pool ∧
    (cutAggregate s).stations = s.stations ∧
    (cutAggregate s).mon = s.mon ∧
    (cutAggregate s).mgmt = s.mgmt := by
  unfold cutAggregate
  dsimp only
  (repeat' split) <;> simp

@[simp] theorem alertModeChanged_frame (s : State) :
    (alertModeChanged s).pending = s.pending ∧
    (alertModeChanged s).choices = s.choices ∧
    (alertModeChanged s).now = s.now ∧
    (alertModeChanged s).straps = s.straps ∧
    (alertModeChanged s).settings = s.settings ∧
    (alertModeChanged s).items = s.items ∧
    (alertModeChanged s).labels = s.labels ∧
    (alertModeChanged s).disp = s.disp ∧
    (alertModeChanged s).till = s.till ∧
    (alertModeChanged s).journal = s.journal ∧
    (alertModeChanged s).clock = s.clock ∧
    (alertModeChanged s).windowIn = s.windowIn ∧
    (alertModeChanged s).sched = s.sched ∧
    (alertModeChanged s).exch = s.exch ∧
    (alertModeChanged s).uplink = s.uplink ∧
    (alertModeChanged s).pool = s.pool ∧
    (alertModeChanged s).stations = s.stations ∧
    (alertModeChanged s).guest = s.guest ∧
    (alertModeChanged s).mon = s.mon := by
  unfold alertModeChanged
  dsimp only
  simp

@[simp] theorem settingChanged_frame (n : Nat) (o : State) (s : State) :
    (settingChanged n o s).pending = s.pending ∧
    (settingChanged n o s).choices = s.choices ∧
    (settingChanged n o s).now = s.now ∧
    (settingChanged n o s).straps = s.straps ∧
    (settingChanged n o s).settings = s.settings ∧
    (settingChanged n o s).items = s.items ∧
    (settingChanged n o s).clock = s.clock ∧
    (settingChanged n o s).sched = s.sched ∧
    (settingChanged n o s).stations = s.stations := by
  unfold settingChanged
  (repeat' split) <;> simp

@[simp] theorem clearOwnAddress_frame (a : Addr) (s : State) :
    (clearOwnAddress a s).pending = s.pending ∧
    (clearOwnAddress a s).choices = s.choices ∧
    (clearOwnAddress a s).now = s.now ∧
    (clearOwnAddress a s).straps = s.straps ∧
    (clearOwnAddress a s).settings = s.settings ∧
    (clearOwnAddress a s).items = s.items ∧
    (clearOwnAddress a s).labels = s.labels ∧
    (clearOwnAddress a s).disp = s.disp ∧
    (clearOwnAddress a s).till = s.till ∧
    (clearOwnAddress a s).journal = s.journal ∧
    (clearOwnAddress a s).clock = s.clock ∧
    (clearOwnAddress a s).windowIn = s.windowIn ∧
    (clearOwnAddress a s).sched = s.sched ∧
    (clearOwnAddress a s).exch = s.exch ∧
    (clearOwnAddress a s).uplink = s.uplink ∧
    (clearOwnAddress a s).pool = s.pool ∧
    (clearOwnAddress a s).mon = s.mon ∧
    (clearOwnAddress a s).mgmt = s.mgmt := by
  unfold clearOwnAddress
  (repeat' split) <;> simp

@[simp] theorem applySetting_frame (n : Nat) (st : Settings) (s : State) :
    (applySetting n st s).pending = s.pending ∧
    (applySetting n st s).choices = s.choices ∧
    (applySetting n st s).now = s.now ∧
    (applySetting n st s).straps = s.straps ∧
    (applySetting n st s).items = s.items ∧
    (applySetting n st s).clock = s.clock ∧
    (applySetting n st s).sched = s.sched := by
  unfold applySetting
  dsimp only
  (repeat' split) <;> simp

@[simp] theorem writeSetting_frame (n v : Nat) (s : State) :
    (writeSetting n v s).2.pending = s.pending ∧
    (writeSetting n v s).2.choices = s.choices ∧
    (writeSetting n v s).2.now = s.now ∧
    (writeSetting n v s).2.straps = s.straps ∧
    (writeSetting n v s).2.items = s.items ∧
    (writeSetting n v s).2.clock = s.clock ∧
    (writeSetting n v s).2.sched = s.sched := by
  unfold writeSetting
  (repeat' split) <;> simp

@[simp] theorem takeRequest_frame (r : Request) (s : State) :
    (takeRequest r s).pending = s.pending ∧
    (takeRequest r s).choices = s.choices ∧
    (takeRequest r s).now = s.now ∧
    (takeRequest r s).straps = s.straps ∧
    (takeRequest r s).settings = s.settings ∧
    (takeRequest r s).items = s.items ∧
    (takeRequest r s).labels = s.labels ∧
    (takeRequest r s).disp = s.disp ∧
    (takeRequest r s).till = s.till ∧
    (takeRequest r s).journal = s.journal ∧
    (takeRequest r s).clock = s.clock ∧
    (takeRequest r s).windowIn = s.windowIn ∧
    (takeRequest r s).sched = s.sched ∧
    (takeRequest r s).exch = s.exch ∧
    (takeRequest r s).uplink = s.uplink ∧
    (takeRequest r s).stations = s.stations ∧
    (takeRequest r s).guest = s.guest := by
  unfold takeRequest
  dsimp only
  (repeat' split) <;> simp

@[simp] theorem writeRadio_frame (n r b : Nat) (s : State) :
    (writeRadio n r b s).pending = s.pending ∧
    (writeRadio n r b s).choices = s.choices ∧
    (writeRadio n r b s).now = s.now ∧
    (writeRadio n r b s).straps = s.straps ∧
    (writeRadio n r b s).settings = s.settings ∧
    (writeRadio n r b s).items = s.items ∧
    (writeRadio n r b s).till = s.till ∧
    (writeRadio n r b s).journal = s.journal ∧
    (writeRadio n r b s).clock = s.clock ∧
    (writeRadio n r b s).windowIn = s.windowIn ∧
    (writeRadio n r b s).sched = s.sched ∧
    (writeRadio n r b s).exch = s.exch ∧
    (writeRadio n r b s).uplink = s.uplink ∧
    (writeRadio n r b s).pool = s.pool ∧
    (writeRadio n r b s).stations = s.stations ∧
    (writeRadio n r b s).guest = s.guest ∧
    (writeRadio n r b s).mgmt = s.mgmt := by
  unfold writeRadio
  dsimp only
  (repeat' split) <;> simp

@[simp] theorem rebind_frame (n : Nat) (b : Option Nat) (s : State) :
    (rebind n b s).2.pending = s.pending ∧
    (rebind n b s).2.choices = s.choices ∧
    (rebind n b s).2.now = s.now ∧
    (rebind n b s).2.straps = s.straps ∧
    (rebind n b s).2.settings = s.settings ∧
    (rebind n b s).2.till = s.till ∧
    (rebind n b s).2.journal = s.journal ∧
    (rebind n b s).2.clock = s.clock ∧
    (rebind n b s).2.windowIn = s.windowIn ∧
    (rebind n b s).2.sched = s.sched ∧
    (rebind n b s).2.exch = s.exch ∧
    (rebind n b s).2.uplink = s.uplink ∧
    (rebind n b s).2.pool = s.pool ∧
    (rebind n b s).2.stations = s.stations ∧
    (rebind n b s).2.guest = s.guest ∧
    (rebind n b s).2.mgmt = s.mgmt := by
  unfold rebind
  (repeat' split) <;> simp

@[simp] theorem writeLabel_frame (n r b : Nat) (o : Option Nat) (s : State) :
    (writeLabel n r b o s).2.pending = s.pending ∧
    (writeLabel n r b o s).2.choices = s.choices ∧
    (writeLabel n r b o s).2.now = s.now ∧
    (writeLabel n r b o s).2.straps = s.straps ∧
    (writeLabel n r b o s).2.settings = s.settings ∧
    (writeLabel n r b o s).2.till = s.till ∧
    (writeLabel n r b o s).2.journal = s.journal ∧
    (writeLabel n r b o s).2.clock = s.clock ∧
    (writeLabel n r b o s).2.windowIn = s.windowIn ∧
    (writeLabel n r b o s).2.sched = s.sched ∧
    (writeLabel n r b o s).2.exch = s.exch ∧
    (writeLabel n r b o s).2.uplink = s.uplink ∧
    (writeLabel n r b o s).2.stations = s.stations ∧
    (writeLabel n r b o s).2.guest = s.guest ∧
    (writeLabel n r b o s).2.mgmt = s.mgmt := by
  unfold writeLabel
  dsimp only
  (repeat' split) <;> simp

@[simp] theorem repushLabel_frame (n : Nat) (s : State) :
    (repushLabel n s).pending = s.pending ∧
    (repushLabel n s).choices = s.choices ∧
    (repushLabel n s).now = s.now ∧
    (repushLabel n s).straps = s.straps ∧
    (repushLabel n s).settings = s.settings ∧
    (repushLabel n s).items = s.items ∧
    (repushLabel n s).till = s.till ∧
    (repushLabel n s).journal = s.journal ∧
    (repushLabel n s).clock = s.clock ∧
    (repushLabel n s).windowIn = s.windowIn ∧
    (repushLabel n s).sched = s.sched ∧
    (repushLabel n s).exch = s.exch ∧
    (repushLabel n s).uplink = s.uplink ∧
    (repushLabel n s).stations = s.stations ∧
    (repushLabel n s).guest = s.guest ∧
    (repushLabel n s).mgmt = s.mgmt := by
  unfold repushLabel
  dsimp only
  simp

@[simp] theorem writeStation_frame (e : Station) (s : State) :
    (writeStation e s).2.pending = s.pending ∧
    (writeStation e s).2.choices = s.choices ∧
    (writeStation e s).2.now = s.now ∧
    (writeStation e s).2.straps = s.straps ∧
    (writeStation e s).2.settings = s.settings ∧
    (writeStation e s).2.items = s.items ∧
    (writeStation e s).2.till = s.till ∧
    (writeStation e s).2.journal = s.journal ∧
    (writeStation e s).2.clock = s.clock ∧
    (writeStation e s).2.windowIn = s.windowIn ∧
    (writeStation e s).2.sched = s.sched ∧
    (writeStation e s).2.exch = s.exch ∧
    (writeStation e s).2.uplink = s.uplink ∧
    (writeStation e s).2.mgmt = s.mgmt := by
  unfold writeStation
  dsimp only
  (repeat' split) <;> simp

@[simp] theorem cancelPending_frame (c n : Nat) (k : ChangeKind) (s : State) :
    (cancelPending c n k s).2.pending = s.pending ∧
    (cancelPending c n k s).2.choices = s.choices ∧
    (cancelPending c n k s).2.now = s.now ∧
    (cancelPending c n k s).2.straps = s.straps ∧
    (cancelPending c n k s).2.settings = s.settings ∧
    (cancelPending c n k s).2.items = s.items ∧
    (cancelPending c n k s).2.labels = s.labels ∧
    (cancelPending c n k s).2.disp = s.disp ∧
    (cancelPending c n k s).2.till = s.till ∧
    (cancelPending c n k s).2.journal = s.journal ∧
    (cancelPending c n k s).2.clock = s.clock ∧
    (cancelPending c n k s).2.windowIn = s.windowIn ∧
    (cancelPending c n k s).2.exch = s.exch ∧
    (cancelPending c n k s).2.uplink = s.uplink ∧
    (cancelPending c n k s).2.pool = s.pool ∧
    (cancelPending c n k s).2.stations = s.stations ∧
    (cancelPending c n k s).2.guest = s.guest ∧
    (cancelPending c n k s).2.mon = s.mon ∧
    (cancelPending c n k s).2.mgmt = s.mgmt := by
  unfold cancelPending
  (repeat' split) <;> simp

@[simp] theorem alertPulseEndStep_frame (s : State) :
    (alertPulseEndStep s).pending = s.pending ∧
    (alertPulseEndStep s).choices = s.choices ∧
    (alertPulseEndStep s).now = s.now ∧
    (alertPulseEndStep s).straps = s.straps ∧
    (alertPulseEndStep s).settings = s.settings ∧
    (alertPulseEndStep s).items = s.items ∧
    (alertPulseEndStep s).labels = s.labels ∧
    (alertPulseEndStep s).disp = s.disp ∧
    (alertPulseEndStep s).till = s.till ∧
    (alertPulseEndStep s).journal = s.journal ∧
    (alertPulseEndStep s).clock = s.clock ∧
    (alertPulseEndStep s).windowIn = s.windowIn ∧
    (alertPulseEndStep s).sched = s.sched ∧
    (alertPulseEndStep s).exch = s.exch ∧
    (alertPulseEndStep s).uplink = s.uplink ∧
    (alertPulseEndStep s).pool = s.pool ∧
    (alertPulseEndStep s).stations = s.stations ∧
    (alertPulseEndStep s).guest = s.guest ∧
    (alertPulseEndStep s).mon = s.mon := by
  unfold alertPulseEndStep
  dsimp only
  (repeat' split) <;> simp

@[simp] theorem portLampExpiryStep_frame (p : Port) (s : State) :
    (portLampExpiryStep p s).pending = s.pending ∧
    (portLampExpiryStep p s).choices = s.choices ∧
    (portLampExpiryStep p s).now = s.now ∧
    (portLampExpiryStep p s).straps = s.straps ∧
    (portLampExpiryStep p s).settings = s.settings ∧
    (portLampExpiryStep p s).items = s.items ∧
    (portLampExpiryStep p s).labels = s.labels ∧
    (portLampExpiryStep p s).disp = s.disp ∧
    (portLampExpiryStep p s).till = s.till ∧
    (portLampExpiryStep p s).journal = s.journal ∧
    (portLampExpiryStep p s).clock = s.clock ∧
    (portLampExpiryStep p s).windowIn = s.windowIn ∧
    (portLampExpiryStep p s).sched = s.sched ∧
    (portLampExpiryStep p s).exch = s.exch ∧
    (portLampExpiryStep p s).uplink = s.uplink ∧
    (portLampExpiryStep p s).stations = s.stations ∧
    (portLampExpiryStep p s).guest = s.guest ∧
    (portLampExpiryStep p s).mon = s.mon ∧
    (portLampExpiryStep p s).mgmt = s.mgmt := by
  unfold portLampExpiryStep
  dsimp only
  (repeat' split) <;> simp

@[simp] theorem poolResetTraffic_frame (s : State) :
    (poolResetTraffic s).pending = s.pending ∧
    (poolResetTraffic s).choices = s.choices ∧
    (poolResetTraffic s).now = s.now ∧
    (poolResetTraffic s).straps = s.straps ∧
    (poolResetTraffic s).settings = s.settings ∧
    (poolResetTraffic s).items = s.items ∧
    (poolResetTraffic s).labels = s.labels ∧
    (poolResetTraffic s).disp = s.disp ∧
    (poolResetTraffic s).till = s.till ∧
    (poolResetTraffic s).journal = s.journal ∧
    (poolResetTraffic s).clock = s.clock ∧
    (poolResetTraffic s).windowIn = s.windowIn ∧
    (poolResetTraffic s).sched = s.sched ∧
    (poolResetTraffic s).exch = s.exch ∧
    (poolResetTraffic s).uplink = s.uplink ∧
    (poolResetTraffic s).stations = s.stations ∧
    (poolResetTraffic s).guest = s.guest ∧
    (poolResetTraffic s).mon = s.mon ∧
    (poolResetTraffic s).mgmt = s.mgmt := by
  unfold poolResetTraffic
  dsimp only
  simp

@[simp] theorem exchResetTraffic_frame (s : State) :
    (exchResetTraffic s).pending = s.pending ∧
    (exchResetTraffic s).choices = s.choices ∧
    (exchResetTraffic s).now = s.now ∧
    (exchResetTraffic s).straps = s.straps ∧
    (exchResetTraffic s).settings = s.settings ∧
    (exchResetTraffic s).items = s.items ∧
    (exchResetTraffic s).labels = s.labels ∧
    (exchResetTraffic s).disp = s.disp ∧
    (exchResetTraffic s).till = s.till ∧
    (exchResetTraffic s).journal = s.journal ∧
    (exchResetTraffic s).clock = s.clock ∧
    (exchResetTraffic s).windowIn = s.windowIn ∧
    (exchResetTraffic s).sched = s.sched ∧
    (exchResetTraffic s).uplink = s.uplink ∧
    (exchResetTraffic s).pool = s.pool ∧
    (exchResetTraffic s).stations = s.stations ∧
    (exchResetTraffic s).guest = s.guest ∧
    (exchResetTraffic s).mon = s.mon ∧
    (exchResetTraffic s).mgmt = s.mgmt := by
  unfold exchResetTraffic
  dsimp only
  simp

@[simp] theorem mgmtResetTraffic_frame (s : State) :
    (mgmtResetTraffic s).pending = s.pending ∧
    (mgmtResetTraffic s).choices = s.choices ∧
    (mgmtResetTraffic s).now = s.now ∧
    (mgmtResetTraffic s).straps = s.straps ∧
    (mgmtResetTraffic s).settings = s.settings ∧
    (mgmtResetTraffic s).items = s.items ∧
    (mgmtResetTraffic s).labels = s.labels ∧
    (mgmtResetTraffic s).disp = s.disp ∧
    (mgmtResetTraffic s).till = s.till ∧
    (mgmtResetTraffic s).journal = s.journal ∧
    (mgmtResetTraffic s).clock = s.clock ∧
    (mgmtResetTraffic s).windowIn = s.windowIn ∧
    (mgmtResetTraffic s).sched = s.sched ∧
    (mgmtResetTraffic s).exch = s.exch ∧
    (mgmtResetTraffic s).uplink = s.uplink ∧
    (mgmtResetTraffic s).pool = s.pool ∧
    (mgmtResetTraffic s).stations = s.stations ∧
    (mgmtResetTraffic s).guest = s.guest ∧
    (mgmtResetTraffic s).mon = s.mon := by
  unfold mgmtResetTraffic
  dsimp only
  simp

@[simp] theorem trafficReset_frame (s : State) :
    (trafficReset s).pending = s.pending ∧
    (trafficReset s).choices = s.choices ∧
    (trafficReset s).now = s.now ∧
    (trafficReset s).straps = s.straps ∧
    (trafficReset s).settings = s.settings ∧
    (trafficReset s).items = s.items ∧
    (trafficReset s).clock = s.clock ∧
    (trafficReset s).windowIn = s.windowIn ∧
    (trafficReset s).sched = s.sched := by
  unfold trafficReset
  dsimp only
  simp

@[simp] theorem reofferOut_frame (s : State) :
    (reofferOut s).pending = s.pending ∧
    (reofferOut s).choices = s.choices ∧
    (reofferOut s).now = s.now ∧
    (reofferOut s).straps = s.straps ∧
    (reofferOut s).settings = s.settings ∧
    (reofferOut s).items = s.items ∧
    (reofferOut s).labels = s.labels ∧
    (reofferOut s).disp = s.disp ∧
    (reofferOut s).till = s.till ∧
    (reofferOut s).journal = s.journal ∧
    (reofferOut s).clock = s.clock ∧
    (reofferOut s).windowIn = s.windowIn ∧
    (reofferOut s).sched = s.sched ∧
    (reofferOut s).exch = s.exch ∧
    (reofferOut s).uplink = s.uplink ∧
    (reofferOut s).stations = s.stations ∧
    (reofferOut s).guest = s.guest := by
  unfold reofferOut
  dsimp only
  simp

@[simp] theorem reofferFor_frame (g : Generator) (s : State) :
    (reofferFor s g).pending = s.pending ∧
    (reofferFor s g).choices = s.choices ∧
    (reofferFor s g).now = s.now ∧
    (reofferFor s g).straps = s.straps ∧
    (reofferFor s g).settings = s.settings ∧
    (reofferFor s g).items = s.items ∧
    (reofferFor s g).clock = s.clock ∧
    (reofferFor s g).windowIn = s.windowIn ∧
    (reofferFor s g).sched = s.sched ∧
    (reofferFor s g).stations = s.stations ∧
    (reofferFor s g).guest = s.guest := by
  cases g <;> simp [reofferFor]

@[simp] theorem reofferAll_frame (l : List Generator) (s : State) :
    (reofferAll l s).pending = s.pending ∧
    (reofferAll l s).choices = s.choices ∧
    (reofferAll l s).now = s.now ∧
    (reofferAll l s).straps = s.straps ∧
    (reofferAll l s).settings = s.settings ∧
    (reofferAll l s).items = s.items ∧
    (reofferAll l s).clock = s.clock ∧
    (reofferAll l s).windowIn = s.windowIn ∧
    (reofferAll l s).sched = s.sched ∧
    (reofferAll l s).stations = s.stations ∧
    (reofferAll l s).guest = s.guest := by
  unfold reofferAll
  have h : ∀ (k : List Generator) (v : State), (v.pending = s.pending ∧
    v.choices = s.choices ∧
    v.now = s.now ∧
    v.straps = s.straps ∧
    v.settings = s.settings ∧
    v.items = s.items ∧
    v.clock = s.clock ∧
    v.windowIn = s.windowIn ∧
    v.sched = s.sched ∧
    v.stations = s.stations ∧
    v.guest = s.guest) → ((k.foldl reofferFor v).pending = s.pending ∧
    (k.foldl reofferFor v).choices = s.choices ∧
    (k.foldl reofferFor v).now = s.now ∧
    (k.foldl reofferFor v).straps = s.straps ∧
    (k.foldl reofferFor v).settings = s.settings ∧
    (k.foldl reofferFor v).items = s.items ∧
    (k.foldl reofferFor v).clock = s.clock ∧
    (k.foldl reofferFor v).windowIn = s.windowIn ∧
    (k.foldl reofferFor v).sched = s.sched ∧
    (k.foldl reofferFor v).stations = s.stations ∧
    (k.foldl reofferFor v).guest = s.guest) := by
    intro k
    induction k with
    | nil => intro v hv; simpa using hv
    | cons a k ih => intro v hv; exact ih _ (by simpa using hv)
  exact h _ _ (by simp)

@[simp] theorem refuse_frame (r : Request) (s : State) :
    (refuse r s).pending = s.pending ∧
    (refuse r s).choices = s.choices ∧
    (refuse r s).now = s.now ∧
    (refuse r s).straps = s.straps ∧
    (refuse r s).settings = s.settings ∧
    (refuse r s).items = s.items ∧
    (refuse r s).labels = s.labels ∧
    (refuse r s).disp = s.disp ∧
    (refuse r s).till = s.till ∧
    (refuse r s).journal = s.journal ∧
    (refuse r s).clock = s.clock ∧
    (refuse r s).windowIn = s.windowIn ∧
    (refuse r s).sched = s.sched ∧
    (refuse r s).exch = s.exch ∧
    (refuse r s).uplink = s.uplink ∧
    (refuse r s).stations = s.stations ∧
    (refuse r s).guest = s.guest := by
  unfold refuse
  simp

@[simp] theorem readItem_frame (r : Request) (s : State) :
    (readItem r s).pending = s.pending ∧
    (readItem r s).choices = s.choices ∧
    (readItem r s).now = s.now ∧
    (readItem r s).straps = s.straps ∧
    (readItem r s).settings = s.settings ∧
    (readItem r s).items = s.items ∧
    (readItem r s).labels = s.labels ∧
    (readItem r s).disp = s.disp ∧
    (readItem r s).till = s.till ∧
    (readItem r s).journal = s.journal ∧
    (readItem r s).clock = s.clock ∧
    (readItem r s).windowIn = s.windowIn ∧
    (readItem r s).sched = s.sched ∧
    (readItem r s).exch = s.exch ∧
    (readItem r s).uplink = s.uplink ∧
    (readItem r s).stations = s.stations ∧
    (readItem r s).guest = s.guest := by
  unfold readItem withFields refuse
  dsimp only
  (repeat' split) <;> simp

@[simp] theorem readLabelRequest_frame (r : Request) (s : State) :
    (readLabelRequest r s).pending = s.pending ∧
    (readLabelRequest r s).choices = s.choices ∧
    (readLabelRequest r s).now = s.now ∧
    (readLabelRequest r s).straps = s.straps ∧
    (readLabelRequest r s).settings = s.settings ∧
    (readLabelRequest r s).items = s.items ∧
    (readLabelRequest r s).labels = s.labels ∧
    (readLabelRequest r s).disp = s.disp ∧
    (readLabelRequest r s).till = s.till ∧
    (readLabelRequest r s).journal = s.journal ∧
    (readLabelRequest r s).clock = s.clock ∧
    (readLabelRequest r s).windowIn = s.windowIn ∧
    (readLabelRequest r s).sched = s.sched ∧
    (readLabelRequest r s).exch = s.exch ∧
    (readLabelRequest r s).uplink = s.uplink ∧
    (readLabelRequest r s).stations = s.stations ∧
    (readLabelRequest r s).guest = s.guest := by
  unfold readLabelRequest withFields refuse
  dsimp only
  (repeat' split) <;> simp

@[simp] theorem readStationRequest_frame (r : Request) (s : State) :
    (readStationRequest r s).pending = s.pending ∧
    (readStationRequest r s).choices = s.choices ∧
    (readStationRequest r s).now = s.now ∧
    (readStationRequest r s).straps = s.straps ∧
    (readStationRequest r s).settings = s.settings ∧
    (readStationRequest r s).items = s.items ∧
    (readStationRequest r s).labels = s.labels ∧
    (readStationRequest r s).disp = s.disp ∧
    (readStationRequest r s).till = s.till ∧
    (readStationRequest r s).journal = s.journal ∧
    (readStationRequest r s).clock = s.clock ∧
    (readStationRequest r s).windowIn = s.windowIn ∧
    (readStationRequest r s).sched = s.sched ∧
    (readStationRequest r s).exch = s.exch ∧
    (readStationRequest r s).uplink = s.uplink ∧
    (readStationRequest r s).stations = s.stations ∧
    (readStationRequest r s).guest = s.guest := by
  unfold readStationRequest withFields refuse
  dsimp only
  (repeat' split) <;> simp

@[simp] theorem readPendingRequest_frame (r : Request) (s : State) :
    (readPendingRequest r s).pending = s.pending ∧
    (readPendingRequest r s).choices = s.choices ∧
    (readPendingRequest r s).now = s.now ∧
    (readPendingRequest r s).straps = s.straps ∧
    (readPendingRequest r s).settings = s.settings ∧
    (readPendingRequest r s).items = s.items ∧
    (readPendingRequest r s).labels = s.labels ∧
    (readPendingRequest r s).disp = s.disp ∧
    (readPendingRequest r s).till = s.till ∧
    (readPendingRequest r s).journal = s.journal ∧
    (readPendingRequest r s).clock = s.clock ∧
    (readPendingRequest r s).windowIn = s.windowIn ∧
    (readPendingRequest r s).sched = s.sched ∧
    (readPendingRequest r s).exch = s.exch ∧
    (readPendingRequest r s).uplink = s.uplink ∧
    (readPendingRequest r s).stations = s.stations ∧
    (readPendingRequest r s).guest = s.guest := by
  unfold readPendingRequest withFields refuse
  dsimp only
  (repeat' split) <;> simp

@[simp] theorem readSettingRequest_frame (r : Request) (s : State) :
    (readSettingRequest r s).pending = s.pending ∧
    (readSettingRequest r s).choices = s.choices ∧
    (readSettingRequest r s).now = s.now ∧
    (readSettingRequest r s).straps = s.straps ∧
    (readSettingRequest r s).settings = s.settings ∧
    (readSettingRequest r s).items = s.items ∧
    (readSettingRequest r s).labels = s.labels ∧
    (readSettingRequest r s).disp = s.disp ∧
    (readSettingRequest r s).till = s.till ∧
    (readSettingRequest r s).journal = s.journal ∧
    (readSettingRequest r s).clock = s.clock ∧
    (readSettingRequest r s).windowIn = s.windowIn ∧
    (readSettingRequest r s).sched = s.sched ∧
    (readSettingRequest r s).exch = s.exch ∧
    (readSettingRequest r s).uplink = s.uplink ∧
    (readSettingRequest r s).stations = s.stations ∧
    (readSettingRequest r s).guest = s.guest := by
  unfold readSettingRequest withFields refuse
  dsimp only
  (repeat' split) <;> simp

@[simp] theorem readStateRequest_frame (r : Request) (s : State) :
    (readStateRequest r s).pending = s.pending ∧
    (readStateRequest r s).choices = s.choices ∧
    (readStateRequest r s).now = s.now ∧
    (readStateRequest r s).straps = s.straps ∧
    (readStateRequest r s).settings = s.settings ∧
    (readStateRequest r s).items = s.items ∧
    (readStateRequest r s).labels = s.labels ∧
    (readStateRequest r s).disp = s.disp ∧
    (readStateRequest r s).till = s.till ∧
    (readStateRequest r s).journal = s.journal ∧
    (readStateRequest r s).clock = s.clock ∧
    (readStateRequest r s).windowIn = s.windowIn ∧
    (readStateRequest r s).sched = s.sched ∧
    (readStateRequest r s).exch = s.exch ∧
    (readStateRequest r s).uplink = s.uplink ∧
    (readStateRequest r s).stations = s.stations ∧
    (readStateRequest r s).guest = s.guest := by
  unfold readStateRequest withFields refuse
  dsimp only
  (repeat' split) <;> simp

@[simp] theorem programRequest_frame (r : Request) (s : State) :
    (programRequest r s).pending = s.pending ∧
    (programRequest r s).choices = s.choices ∧
    (programRequest r s).now = s.now ∧
    (programRequest r s).straps = s.straps ∧
    (programRequest r s).settings = s.settings ∧
    (programRequest r s).items = s.items ∧
    (programRequest r s).labels = s.labels ∧
    (programRequest r s).disp = s.disp ∧
    (programRequest r s).till = s.till ∧
    (programRequest r s).journal = s.journal ∧
    (programRequest r s).clock = s.clock ∧
    (programRequest r s).windowIn = s.windowIn ∧
    (programRequest r s).sched = s.sched ∧
    (programRequest r s).exch = s.exch ∧
    (programRequest r s).uplink = s.uplink ∧
    (programRequest r s).stations = s.stations ∧
    (programRequest r s).guest = s.guest := by
  unfold programRequest withFields refuse
  dsimp only
  (repeat' split) <;> simp

@[simp] theorem readCountersRequest_frame (r : Request) (s : State) :
    (readCountersRequest r s).pending = s.pending ∧
    (readCountersRequest r s).choices = s.choices ∧
    (readCountersRequest r s).now = s.now ∧
    (readCountersRequest r s).straps = s.straps ∧
    (readCountersRequest r s).settings = s.settings ∧
    (readCountersRequest r s).items = s.items ∧
    (readCountersRequest r s).labels = s.labels ∧
    (readCountersRequest r s).disp = s.disp ∧
    (readCountersRequest r s).till = s.till ∧
    (readCountersRequest r s).journal = s.journal ∧
    (readCountersRequest r s).clock = s.clock ∧
    (readCountersRequest r s).windowIn = s.windowIn ∧
    (readCountersRequest r s).sched = s.sched ∧
    (readCountersRequest r s).exch = s.exch ∧
    (readCountersRequest r s).uplink = s.uplink ∧
    (readCountersRequest r s).stations = s.stations ∧
    (readCountersRequest r s).guest = s.guest := by
  unfold readCountersRequest
  simp

@[simp] theorem clearRequest_frame (r : Request) (s : State) :
    (clearRequest r s).pending = s.pending ∧
    (clearRequest r s).choices = s.choices ∧
    (clearRequest r s).now = s.now ∧
    (clearRequest r s).straps = s.straps ∧
    (clearRequest r s).settings = s.settings ∧
    (clearRequest r s).items = s.items ∧
    (clearRequest r s).labels = s.labels ∧
    (clearRequest r s).disp = s.disp ∧
    (clearRequest r s).till = s.till ∧
    (clearRequest r s).journal = s.journal ∧
    (clearRequest r s).clock = s.clock ∧
    (clearRequest r s).windowIn = s.windowIn ∧
    (clearRequest r s).sched = s.sched ∧
    (clearRequest r s).exch = s.exch ∧
    (clearRequest r s).uplink = s.uplink ∧
    (clearRequest r s).stations = s.stations ∧
    (clearRequest r s).guest = s.guest := by
  unfold clearRequest
  simp

@[simp] theorem writeItemRequest_frame (r : Request) (s : State) :
    (writeItemRequest r s).pending = s.pending ∧
    (writeItemRequest r s).choices = s.choices ∧
    (writeItemRequest r s).now = s.now ∧
    (writeItemRequest r s).straps = s.straps ∧
    (writeItemRequest r s).settings = s.settings ∧
    (writeItemRequest r s).till = s.till ∧
    (writeItemRequest r s).journal = s.journal ∧
    (writeItemRequest r s).clock = s.clock ∧
    (writeItemRequest r s).windowIn = s.windowIn ∧
    (writeItemRequest r s).sched = s.sched ∧
    (writeItemRequest r s).exch = s.exch ∧
    (writeItemRequest r s).uplink = s.uplink ∧
    (writeItemRequest r s).stations = s.stations ∧
    (writeItemRequest r s).guest = s.guest := by
  unfold writeItemRequest withFields refuse
  dsimp only
  (repeat' split) <;> simp

@[simp] theorem deleteItemRequest_frame (r : Request) (s : State) :
    (deleteItemRequest r s).pending = s.pending ∧
    (deleteItemRequest r s).choices = s.choices ∧
    (deleteItemRequest r s).now = s.now ∧
    (deleteItemRequest r s).straps = s.straps ∧
    (deleteItemRequest r s).settings = s.settings ∧
    (deleteItemRequest r s).till = s.till ∧
    (deleteItemRequest r s).journal = s.journal ∧
    (deleteItemRequest r s).clock = s.clock ∧
    (deleteItemRequest r s).windowIn = s.windowIn ∧
    (deleteItemRequest r s).sched = s.sched ∧
    (deleteItemRequest r s).exch = s.exch ∧
    (deleteItemRequest r s).uplink = s.uplink ∧
    (deleteItemRequest r s).stations = s.stations ∧
    (deleteItemRequest r s).guest = s.guest := by
  unfold deleteItemRequest withFields refuse
  dsimp only
  (repeat' split) <;> simp

@[simp] theorem writeLabelRequest_frame (r : Request) (s : State) :
    (writeLabelRequest r s).pending = s.pending ∧
    (writeLabelRequest r s).choices = s.choices ∧
    (writeLabelRequest r s).now = s.now ∧
    (writeLabelRequest r s).straps = s.straps ∧
    (writeLabelRequest r s).settings = s.settings ∧
    (writeLabelRequest r s).till = s.till ∧
    (writeLabelRequest r s).journal = s.journal ∧
    (writeLabelRequest r s).clock = s.clock ∧
    (writeLabelRequest r s).windowIn = s.windowIn ∧
    (writeLabelRequest r s).sched = s.sched ∧
    (writeLabelRequest r s).exch = s.exch ∧
    (writeLabelRequest r s).uplink = s.uplink ∧
    (writeLabelRequest r s).stations = s.stations ∧
    (writeLabelRequest r s).guest = s.guest := by
  unfold writeLabelRequest withFields refuse
  dsimp only
  (repeat' split) <;> simp

@[simp] theorem repushRequest_frame (r : Request) (s : State) :
    (repushRequest r s).pending = s.pending ∧
    (repushRequest r s).choices = s.choices ∧
    (repushRequest r s).now = s.now ∧
    (repushRequest r s).straps = s.straps ∧
    (repushRequest r s).settings = s.settings ∧
    (repushRequest r s).items = s.items ∧
    (repushRequest r s).till = s.till ∧
    (repushRequest r s).journal = s.journal ∧
    (repushRequest r s).clock = s.clock ∧
    (repushRequest r s).windowIn = s.windowIn ∧
    (repushRequest r s).sched = s.sched ∧
    (repushRequest r s).exch = s.exch ∧
    (repushRequest r s).uplink = s.uplink ∧
    (repushRequest r s).stations = s.stations ∧
    (repushRequest r s).guest = s.guest := by
  unfold repushRequest withFields refuse
  dsimp only
  (repeat' split) <;> simp

@[simp] theorem writeStationRequest_frame (r : Request) (s : State) :
    (writeStationRequest r s).pending = s.pending ∧
    (writeStationRequest r s).choices = s.choices ∧
    (writeStationRequest r s).now = s.now ∧
    (writeStationRequest r s).straps = s.straps ∧
    (writeStationRequest r s).settings = s.settings ∧
    (writeStationRequest r s).items = s.items ∧
    (writeStationRequest r s).till = s.till ∧
    (writeStationRequest r s).journal = s.journal ∧
    (writeStationRequest r s).clock = s.clock ∧
    (writeStationRequest r s).windowIn = s.windowIn ∧
    (writeStationRequest r s).sched = s.sched ∧
    (writeStationRequest r s).exch = s.exch ∧
    (writeStationRequest r s).uplink = s.uplink := by
  unfold writeStationRequest withFields refuse
  dsimp only
  (repeat' split) <;> simp

@[simp] theorem deleteStationRequest_frame (r : Request) (s : State) :
    (deleteStationRequest r s).pending = s.pending ∧
    (deleteStationRequest r s).choices = s.choices ∧
    (deleteStationRequest r s).now = s.now ∧
    (deleteStationRequest r s).straps = s.straps ∧
    (deleteStationRequest r s).settings = s.settings ∧
    (deleteStationRequest r s).items = s.items ∧
    (deleteStationRequest r s).labels = s.labels ∧
    (deleteStationRequest r s).disp = s.disp ∧
    (deleteStationRequest r s).till = s.till ∧
    (deleteStationRequest r s).journal = s.journal ∧
    (deleteStationRequest r s).clock = s.clock ∧
    (deleteStationRequest r s).windowIn = s.windowIn ∧
    (deleteStationRequest r s).sched = s.sched ∧
    (deleteStationRequest r s).exch = s.exch ∧
    (deleteStationRequest r s).uplink = s.uplink := by
  unfold deleteStationRequest withFields refuse
  dsimp only
  (repeat' split) <;> simp

@[simp] theorem cancelRequest_frame (r : Request) (s : State) :
    (cancelRequest r s).pending = s.pending ∧
    (cancelRequest r s).choices = s.choices ∧
    (cancelRequest r s).now = s.now ∧
    (cancelRequest r s).straps = s.straps ∧
    (cancelRequest r s).settings = s.settings ∧
    (cancelRequest r s).items = s.items ∧
    (cancelRequest r s).labels = s.labels ∧
    (cancelRequest r s).disp = s.disp ∧
    (cancelRequest r s).till = s.till ∧
    (cancelRequest r s).journal = s.journal ∧
    (cancelRequest r s).clock = s.clock ∧
    (cancelRequest r s).windowIn = s.windowIn ∧
    (cancelRequest r s).exch = s.exch ∧
    (cancelRequest r s).uplink = s.uplink ∧
    (cancelRequest r s).stations = s.stations ∧
    (cancelRequest r s).guest = s.guest := by
  unfold cancelRequest withFields refuse
  dsimp only
  (repeat' split) <;> simp

@[simp] theorem writeSettingRequest_frame (r : Request) (s : State) :
    (writeSettingRequest r s).pending = s.pending ∧
    (writeSettingRequest r s).choices = s.choices ∧
    (writeSettingRequest r s).now = s.now ∧
    (writeSettingRequest r s).straps = s.straps ∧
    (writeSettingRequest r s).items = s.items ∧
    (writeSettingRequest r s).clock = s.clock ∧
    (writeSettingRequest r s).sched = s.sched := by
  unfold writeSettingRequest withFields refuse
  dsimp only
  (repeat' split) <;> simp

@[simp] theorem setClockRequest_frame (r : Request) (s : State) :
    (setClockRequest r s).pending = s.pending ∧
    (setClockRequest r s).choices = s.choices ∧
    (setClockRequest r s).now = s.now ∧
    (setClockRequest r s).straps = s.straps ∧
    (setClockRequest r s).settings = s.settings ∧
    (setClockRequest r s).items = s.items ∧
    (setClockRequest r s).labels = s.labels ∧
    (setClockRequest r s).disp = s.disp ∧
    (setClockRequest r s).till = s.till ∧
    (setClockRequest r s).journal = s.journal ∧
    (setClockRequest r s).sched = s.sched ∧
    (setClockRequest r s).uplink = s.uplink ∧
    (setClockRequest r s).stations = s.stations := by
  unfold setClockRequest withFields refuse
  dsimp only
  (repeat' split) <;> simp

@[simp] theorem forceRequest_frame (r : Request) (s : State) :
    (forceRequest r s).pending = s.pending ∧
    (forceRequest r s).choices = s.choices ∧
    (forceRequest r s).now = s.now ∧
    (forceRequest r s).straps = s.straps ∧
    (forceRequest r s).settings = s.settings ∧
    (forceRequest r s).items = s.items ∧
    (forceRequest r s).labels = s.labels ∧
    (forceRequest r s).disp = s.disp ∧
    (forceRequest r s).clock = s.clock ∧
    (forceRequest r s).windowIn = s.windowIn ∧
    (forceRequest r s).sched = s.sched ∧
    (forceRequest r s).stations = s.stations := by
  unfold forceRequest withFields refuse
  dsimp only
  (repeat' split) <;> simp

@[simp] theorem fullReset_frame (s : State) :
    (fullReset s).pending = s.pending ∧
    (fullReset s).choices = s.choices ∧
    (fullReset s).straps = s.straps := by
  unfold fullReset resetWith powerOnState
  simp

@[simp] theorem resetFullRequest_frame (r : Request) (s : State) :
    (resetFullRequest r s).pending = s.pending ∧
    (resetFullRequest r s).choices = s.choices ∧
    (resetFullRequest r s).straps = s.straps := by
  unfold resetFullRequest withFields refuse
  dsimp only
  (repeat' split) <;> simp

@[simp] theorem resetTrafficRequest_frame (r : Request) (s : State) :
    (resetTrafficRequest r s).pending = s.pending ∧
    (resetTrafficRequest r s).choices = s.choices ∧
    (resetTrafficRequest r s).now = s.now ∧
    (resetTrafficRequest r s).straps = s.straps ∧
    (resetTrafficRequest r s).settings = s.settings ∧
    (resetTrafficRequest r s).items = s.items ∧
    (resetTrafficRequest r s).clock = s.clock ∧
    (resetTrafficRequest r s).windowIn = s.windowIn ∧
    (resetTrafficRequest r s).sched = s.sched := by
  unfold resetTrafficRequest
  simp

end Sys2Proof.Machine
end

