-- ==== Sys2Proof/Laws/Fallback.lean ====
section
/-! SUPPORT. What the entry into FALLBACK leaves of the journal and the ask table, whichever way a cleared address is taken. -/

namespace Sys2Proof.Machine

theorem journalFallback_journal (keepSent : Bool) (s : State) :
    (journalFallback keepSent s).journal = { s.journal with
      held := none
      next := if keepSent then s.journal.next else s.journal.release
      ackTimer := if keepSent then s.journal.ackTimer else none } := by
  cases keepSent <;> simp [journalFallback, rewind, setJournal]

theorem enterFallback_journal (cause : UplinkCause) (s : State) :
    (enterFallback cause s).journal = (journalFallback (cause == .address && Config.clearedKeepsSent) s).journal := by
  simp [enterFallback, journalFallback_journal]

theorem tillFallback_asks_kept (s : State) : (tillFallback true s).till.asks = s.till.asks := by
  simp [tillFallback, setTill]

end Sys2Proof.Machine
end

