-- ==== Sys2Proof/Laws/Keeps.lean ====
section
/-! SUPPORT. How a property of states is kept through the reception of a frame and the taking of a request: it is enough that the
operations they are made of keep it. -/

namespace Sys2Proof.Machine

variable {P : State → Prop}

theorem foldl_keeps {β : Type} {f : State → β → State} (hf : ∀ s b, P s → P (f s b)) :
    ∀ (l : List β) (s : State), P s → P (l.foldl f s)
  | [], _, h => h
  | b :: l, s, h => foldl_keeps hf l (f s b) (hf s b h)

theorem checkBranch_keeps {k : MsgKind} {p : Port} {a : Addr} {n : Nat} {b : List Byte} {s : State} (hs : P s)
    (hc : ∀ o u, P u → P (count o u)) (ho : ∀ c u, P u → P (toOwner k p a c u)) : P (checkBranch k p a n b s) := by
  unfold checkBranch
  (repeat' split) <;> first | exact hc _ _ hs | exact ho _ _ hs

theorem throughGate_keeps {p : Port} {l : Bool} {n : Nat} {k : State → State} {s : State} (hs : P s)
    (hc : ∀ o u, P u → P (count o u)) (hl : ∀ u, P u → P (lightPort p u)) (hk : ∀ u, P u → P (k u)) :
    P (throughGate p l n k s) := by
  unfold throughGate
  (repeat' split) <;> first | exact hk _ (hl _ (hc _ _ hs)) | exact hc _ _ hs | exact hs

theorem receiveBranch_keeps {k : MsgKind} {m : BranchArrival} {s : State} (hs : P s)
    (hc : ∀ o u, P u → P (count o u)) (hl : ∀ p u, P u → P (lightPort p u))
    (hn : ∀ p a u, P u → P (learnSource p a u).after) (ho : ∀ p a b u, P u → P (toOwner k p a b u)) :
    P (receiveBranch k m s) := by
  unfold receiveBranch
  refine throughGate_keeps hs hc (hl _) (fun u hu => ?_)
  have h := hn m.port m.src u hu
  split <;> rename_i he <;> rw [he] at h <;> simp only [Learned.after] at h
  · exact h
  · exact checkBranch_keeps h hc (ho _ _)

theorem parseBranch_keeps {p : Port} {f : Frame} {s : State} (hs : P s)
    (hc : ∀ o u, P u → P (count o u)) (ho : ∀ k a b u, P u → P (toOwner k p a b u)) : P (parseBranch p f s) := by
  unfold parseBranch
  (repeat' split) <;> first | exact hc _ _ hs | exact checkBranch_keeps hs hc (ho _ _)

theorem receiveFrame_keeps {a : FrameArrival} {s : State} (hs : P s)
    (hc : ∀ o u, P u → P (count o u)) (hl : ∀ p u, P u → P (lightPort p u))
    (hn : ∀ p b u, P u → P (learnSource p b u).after) (ho : ∀ k p b c u, P u → P (toOwner k p b c u))
    (hf : ∀ p e f u, P u → P (forwardUnicast p e f u)) (hg : ∀ q f u, P u → P (offerForwarded q f u)) :
    P (receiveFrame a s) := by
  unfold receiveFrame
  refine throughGate_keeps hs hc (hl _) (fun u hu => ?_)
  have h := hn a.port a.frame.src u hu
  split <;> rename_i he <;> rw [he] at h <;> simp only [Learned.after] at h
  · exact h
  · (repeat' split)
    · exact parseBranch_keeps h hc (fun k => ho k _)
    · exact hc _ _ h
    · exact foldl_keeps (f := fun t q => offerForwarded q _ t) (fun _ _ hu => hg _ _ _ hu) _ _ h
    · exact hf _ _ _ _ h

theorem runHead_keeps {sel : Request → Bool} {run : Request → State → State} {s : State} (hs : P s)
    (ht : ∀ r u, P u → P (takeRequest r u)) (hr : ∀ r u, P u → P (run r u)) : P (runHead sel run s) := by
  unfold runHead
  (repeat' split) <;> first | exact hs | exact hr _ _ (ht _ _ hs)

theorem withFields_keeps {n : Nat} {r : Request} {run : List Byte → State → State} {s : State} (hs : P s)
    (ha : ∀ o d u, P u → P (answer r o d u)) (hr : ∀ u, P u → P (run r.fields u)) : P (withFields n r run s) := by
  unfold withFields refuse
  (repeat' split) <;> first | exact ha _ _ _ hs | exact hr _ hs

/-- A command taken from the request queue carries out its request, in the state that taking it leaves. -/
theorem runHead_takes {sel : Request → Bool} {run : Request → State → State} {s : State} {r : Request}
    (ha : s.answerWaits = false) (hr : s.mgmt.requests.head? = some r) (hs : sel r = true) :
    runHead sel run s = run r (takeRequest r s) := by
  unfold runHead
  cases h : s.mgmt.requests with
  | nil => simp [h] at hr
  | cons x xs =>
    simp only [h, List.head?_cons, Option.some.injEq] at hr
    subst hr
    simp [ha, hs]

theorem withFields_enough {n : Nat} {r : Request} {run : List Byte → State → State} {s : State} (h : n ≤ r.fields.length) :
    withFields n r run s = run r.fields s := by
  unfold withFields
  rw [if_neg (by omega)]

theorem withFields_short {n : Nat} {r : Request} {run : List Byte → State → State} {s : State} (h : r.fields.length < n) :
    withFields n r run s = answer r .badField [] s := by
  unfold withFields refuse
  rw [if_pos h]

end Sys2Proof.Machine
end

