-- ==== Sys2Proof/Laws/Tables.lean ====
section
/-! SUPPORT. Laws of the sparse tables: what is read after a write, and that every operation keeps the keys rising. -/

namespace Sys2Proof.Machine

variable {α β : Type}

@[simp] theorem Tbl.get_nil (k : Nat) : Tbl.get ([] : SMap α) k = none := rfl

@[simp] theorem Tbl.get_put_same (m : SMap α) (k : Nat) (a : α) : Tbl.get (Tbl.put m k a) k = some a := by
  induction m with
  | nil => simp [Tbl.put, Tbl.get]
  | cons p m ih =>
    obtain ⟨j, b⟩ := p
    unfold Tbl.put
    split
    · simp [Tbl.get]
    · split
      · simp [Tbl.get]
      · simp [Tbl.get, *]

theorem Tbl.get_put_other (m : SMap α) (k j : Nat) (a : α) (h : j ≠ k) : Tbl.get (Tbl.put m k a) j = Tbl.get m j := by
  induction m with
  | nil => simp [Tbl.put, Tbl.get, Ne.symm h]
  | cons p m ih =>
    obtain ⟨i, b⟩ := p
    unfold Tbl.put
    split
    · simp [Tbl.get, Ne.symm h]
    · split
      · next hik => subst hik; simp [Tbl.get, Ne.symm h]
      · simp [Tbl.get, ih]

theorem Tbl.get_put (m : SMap α) (k j : Nat) (a : α) :
    Tbl.get (Tbl.put m k a) j = if j = k then some a else Tbl.get m j := by
  split
  · next h => subst h; simp
  · next h => exact Tbl.get_put_other m k j a h

@[simp] theorem Tbl.get_del_same (m : SMap α) (k : Nat) : Tbl.get (Tbl.del m k) k = none := by
  induction m with
  | nil => rfl
  | cons p m ih =>
    unfold Tbl.del at *
    by_cases h : p.1 = k
    · simpa [h] using ih
    · simpa [h, Tbl.get] using ih

theorem Tbl.get_del_other (m : SMap α) (k j : Nat) (h : j ≠ k) : Tbl.get (Tbl.del m k) j = Tbl.get m j := by
  induction m with
  | nil => rfl
  | cons p m ih =>
    unfold Tbl.del at *
    by_cases hk : p.1 = k
    · simp only [List.filter, hk, beq_self_eq_true, Bool.not_true, Tbl.get]
      rw [if_neg (Ne.symm h)]; exact ih
    · simp [hk, Tbl.get, ih]

theorem Tbl.get_del (m : SMap α) (k j : Nat) : Tbl.get (Tbl.del m k) j = if j = k then none else Tbl.get m j := by
  split
  · next h => subst h; simp
  · next h => exact Tbl.get_del_other m k j h

@[simp] theorem Tbl.get_map (m : SMap α) (f : α → β) (k : Nat) :
    Tbl.get (m.map (fun p => (p.1, f p.2))) k = (Tbl.get m k).map f := by
  induction m with
  | nil => rfl
  | cons p m ih =>
    simp only [List.map_cons, Tbl.get]
    split <;> simp [ih]

theorem Tbl.mem_of_get {m : SMap α} {k : Nat} {a : α} (h : Tbl.get m k = some a) : (k, a) ∈ m := by
  induction m with
  | nil => cases h
  | cons p m ih =>
    obtain ⟨j, b⟩ := p
    simp only [Tbl.get] at h
    split at h
    · next hj => subst hj; cases h; exact List.mem_cons_self
    · exact List.mem_cons_of_mem _ (ih h)

theorem Tbl.get_of_mem {m : SMap α} (hm : Tbl.wf m) {k : Nat} {a : α} (h : (k, a) ∈ m) : Tbl.get m k = some a := by
  induction m with
  | nil => cases h
  | cons p m ih =>
    obtain ⟨j, b⟩ := p
    rw [Tbl.wf, List.pairwise_cons] at hm
    rcases List.mem_cons.1 h with h | h
    · cases h; simp [Tbl.get]
    · have := hm.1 _ h
      simp only [Tbl.get]
      rw [if_neg (by simpa using Nat.ne_of_lt this)]
      exact ih hm.2 h

theorem Tbl.get_eq_some_iff {m : SMap α} (hm : Tbl.wf m) {k : Nat} {a : α} : Tbl.get m k = some a ↔ (k, a) ∈ m :=
  ⟨Tbl.mem_of_get, Tbl.get_of_mem hm⟩

theorem Tbl.get_eq_none_iff {m : SMap α} {k : Nat} : Tbl.get m k = none ↔ ∀ p ∈ m, p.1 ≠ k := by
  induction m with
  | nil => simp [Tbl.get]
  | cons p m ih =>
    obtain ⟨j, b⟩ := p
    simp only [Tbl.get, List.forall_mem_cons]
    split <;> simp_all

theorem Tbl.mem_put {m : SMap α} {k : Nat} {a : α} {p : Nat × α} (h : p ∈ Tbl.put m k a) : p = (k, a) ∨ p ∈ m := by
  induction m with
  | nil => simpa [Tbl.put] using h
  | cons q m ih =>
    obtain ⟨j, b⟩ := q
    unfold Tbl.put at h
    split at h
    · rcases List.mem_cons.1 h with h | h
      · exact .inl h
      · exact .inr h
    · split at h
      · rcases List.mem_cons.1 h with h | h
        · exact .inl h
        · exact .inr (List.mem_cons_of_mem _ h)
      · rcases List.mem_cons.1 h with h | h
        · exact .inr (h ▸ List.mem_cons_self)
        · exact (ih h).imp_right (List.mem_cons_of_mem _)

theorem Tbl.wf_put {m : SMap α} (hm : Tbl.wf m) (k : Nat) (a : α) : Tbl.wf (Tbl.put m k a) := by
  induction m with
  | nil => simp [Tbl.put, Tbl.wf]
  | cons q m ih =>
    obtain ⟨j, b⟩ := q
    have hm' := List.pairwise_cons.1 hm
    unfold Tbl.put
    split
    · next h =>
      refine List.pairwise_cons.2 ⟨fun p hp => ?_, hm⟩
      rcases List.mem_cons.1 hp with hp | hp
      · subst hp; exact h
      · exact Nat.lt_trans h (hm'.1 p hp)
    · split
      · next hj => subst hj; exact List.pairwise_cons.2 hm'
      · refine List.pairwise_cons.2 ⟨fun p hp => ?_, ih hm'.2⟩
        rcases Tbl.mem_put hp with hp | hp
        · subst hp; simp only; omega
        · exact hm'.1 p hp

theorem Tbl.wf_filter {m : SMap α} (hm : Tbl.wf m) (f : Nat × α → Bool) : Tbl.wf (m.filter f) := List.Pairwise.filter _ hm

theorem Tbl.wf_del {m : SMap α} (hm : Tbl.wf m) (k : Nat) : Tbl.wf (Tbl.del m k) := Tbl.wf_filter hm _

theorem Tbl.wf_map {m : SMap α} (hm : Tbl.wf m) (f : Nat × α → β) : Tbl.wf (m.map (fun p => (p.1, f p))) := by
  unfold Tbl.wf
  rw [List.pairwise_map]
  exact hm

theorem Tbl.get_filter {m : SMap α} (hm : Tbl.wf m) (f : Nat × α → Bool) (k : Nat) :
    Tbl.get (m.filter f) k = (Tbl.get m k).filter (fun a => f (k, a)) := by
  induction m with
  | nil => rfl
  | cons p m ih =>
    obtain ⟨j, b⟩ := p
    have hm' := List.pairwise_cons.1 hm
    by_cases hj : j = k
    · subst hj
      cases hf : f (j, b)
      · have : Tbl.get m j = none := Tbl.get_eq_none_iff.2 (fun p hp => Nat.ne_of_gt (hm'.1 p hp))
        simp [hf, Tbl.get, ih hm'.2, this, Option.filter]
      · simp [hf, Tbl.get, Option.filter]
    · cases hf : f (j, b) <;> simp [hf, Tbl.get, hj, ih hm'.2]

theorem Tbl.length_put_le (m : SMap α) (k : Nat) (a : α) : (Tbl.put m k a).length ≤ m.length + 1 := by
  induction m with
  | nil => simp [Tbl.put]
  | cons q m ih =>
    unfold Tbl.put
    (repeat' split) <;> simp; omega

end Sys2Proof.Machine
end

