-- ==== Sys2Proof/Laws/Labels.lean ====
section
/-! SUPPORT. What the label queue's operations do to the label records: owing an update, removing an entry and dispatching write the
overflow mark and nothing else of any record. -/

namespace Sys2Proof.Machine

@[simp] theorem setLabel_label (n m : Nat) (r : LabelRec) (s : State) :
    (setLabel n r s).label m = if m = n then r else s.label m := by
  unfold setLabel State.label labelAt
  by_cases h : m = n
  · subst h
    by_cases hr : r = unusedLabel
    · simp [hr]
    · simp [hr]
  · by_cases hr : r = unusedLabel
    · simp [hr, Tbl.get_del, h]
    · simp [hr, h, Tbl.get_put_other]

theorem label_of_labels {s t : State} (h : t.labels = s.labels) (n : Nat) : t.label n = s.label n := by
  simp [State.label, h]

/-- Between two states no label record differs but in its overflow mark. -/
def MarksOnly (s t : State) : Prop := ∀ n, ∃ o, t.label n = { s.label n with overflow := o }

theorem MarksOnly.of_labels {s t : State} (h : t.labels = s.labels) : MarksOnly s t :=
  fun n => ⟨(s.label n).overflow, label_of_labels h n⟩

theorem MarksOnly.trans {s t u : State} (h : MarksOnly s t) (k : MarksOnly t u) : MarksOnly s u := by
  intro n
  obtain ⟨o, ho⟩ := h n
  obtain ⟨q, hq⟩ := k n
  exact ⟨q, by rw [hq, ho]⟩

theorem MarksOnly.keeps {s t : State} (h : MarksOnly s t) (n : Nat) :
    (t.label n).radio = (s.label n).radio ∧ (t.label n).base = (s.label n).base ∧ (t.label n).bound = (s.label n).bound ∧
      (t.label n).display = (s.label n).display ∧ (t.label n).reachable = (s.label n).reachable := by
  obtain ⟨o, ho⟩ := h n
  rw [ho]
  exact ⟨rfl, rfl, rfl, rfl, rfl⟩

theorem setLabel_marks (n : Nat) (o : Bool) (s : State) : MarksOnly s (setLabel n { s.label n with overflow := o } s) := by
  intro m
  by_cases h : m = n
  · subst h
    exact ⟨o, by simp⟩
  · exact ⟨(s.label m).overflow, by simp [h]⟩

theorem owe_marks (n : Nat) (s : State) : MarksOnly s (owe n s) := by
  unfold owe
  split
  · split <;> exact .of_labels (by simp)
  · split
    · exact .of_labels rfl
    · split
      · exact .of_labels (by simp)
      · exact (setLabel_marks n true s).trans (.of_labels (by simp))

theorem sweepOne_marks (s : State) (n : Nat) : MarksOnly s (sweepOne s n) := by
  unfold sweepOne
  split
  · exact (setLabel_marks n false s).trans (.of_labels (by simp))
  · exact .of_labels rfl

theorem removeEntry_marks (n : Nat) (s : State) : MarksOnly s (removeEntry n s) := by
  have fold : ∀ (l : List Nat) (t : State), MarksOnly t (l.foldl sweepOne t) := by
    intro l
    induction l with
    | nil => exact fun t => .of_labels rfl
    | cons m l ih => exact fun t => (sweepOne_marks t m).trans (ih _)
  exact (MarksOnly.of_labels (by simp)).trans (fold _ _)

theorem backToWaiting_labels (n k : Nat) (s : State) : (backToWaiting n k s).labels = s.labels := by
  simp [backToWaiting]

theorem push_labels (e : LabelEntry) (a : Addr) (s : State) : (push e a s).labels = s.labels := by
  unfold push offerOr
  dsimp only
  split <;> simp

theorem dispatchLoop_marks (fuel : Nat) (s : State) : MarksOnly s (dispatchLoop fuel s) := by
  induction fuel generalizing s with
  | zero => exact .of_labels rfl
  | succ fuel ih =>
    unfold dispatchLoop
    split
    · exact .of_labels rfl
    · split
      · exact .of_labels rfl
      · exact (removeEntry_marks _ _).trans (ih _)
      · exact (MarksOnly.of_labels (push_labels _ _ _)).trans (ih _)

/-- A dispatch attempt writes overflow marks and nothing else of a label record. -/
theorem dispatch_marks (s : State) : MarksOnly s (dispatch s) := dispatchLoop_marks _ s

/-- What follows a change of the label queue: nothing, or one dispatch attempt, which the change calls for. -/
theorem dispatchOn_cases (s t : State) : dispatchOn s t = t ∨ (queueEvent s t = true ∧ dispatchOn s t = dispatch t) := by
  unfold dispatchOn
  split
  · next h => exact .inr ⟨h, rfl⟩
  · exact .inl rfl

theorem queueEvent_of_queue {s t : State} (h : t.disp.nextStamp = s.disp.nextStamp) (hq : t.tagsInFlight = s.tagsInFlight) :
    queueEvent s t = false := by simp [queueEvent, h, hq]

/-- A change that leaves the dispatcher as it was is followed by no attempt. -/
theorem dispatchOn_of_disp {s t : State} (h : t.disp = s.disp) : dispatchOn s t = t := by
  have hq : t.tagsInFlight = s.tagsInFlight := by simp [State.tagsInFlight, h]
  simp [dispatchOn, queueEvent_of_queue (by rw [h]) hq]

theorem dispatchOn_marks (s t : State) : MarksOnly t (dispatchOn s t) := by
  rcases dispatchOn_cases s t with h | ⟨-, h⟩ <;> rw [h]
  · exact .of_labels rfl
  · exact dispatch_marks t

end Sys2Proof.Machine
end

