-- ==== Sys2Proof/Laws/PerInstr.lean ====
section
/-! SUPPORT. One lemma per command for each family of statements over all commands. -/

namespace Sys2Proof.Laws

/-- A well-formed command that brings a frame brings one of 1 to 8 cells (R139, R155). -/
def CarriedCells.Statement (i : Instr) : Prop :=
  i.wf = true → ∀ n, i.carried = some n → 1 ≤ Machine.cellsFor n ∧ Machine.cellsFor n ≤ 8

/-- A length that passes the port gate takes 1 to 8 cells. -/
theorem cells_of_gateLength {n : Nat} (h : gateLength n = true) : 1 ≤ Machine.cellsFor n ∧ Machine.cellsFor n ≤ 8 := by
  simp only [gateLength, Bool.and_eq_true, decide_eq_true_eq] at h
  unfold Machine.cellsFor
  omega

/-- A command that brings a frame within the gate's lengths. -/
theorem carriedCells_of_gate {i : Instr} {m : Nat} (hc : i.carried = some m) (hw : i.wf = gateLength m) :
    CarriedCells.Statement i := by
  intro h n hn
  rw [hc] at hn
  cases hn
  exact cells_of_gateLength (hw ▸ h)

/-- A command that brings no frame. -/
theorem carriedCells_of_none {i : Instr} (hc : i.carried = none) : CarriedCells.Statement i := by
  intro _ n hn
  rw [hc] at hn
  cases hn

theorem CarriedCells.powerOn (straps : Straps) : CarriedCells.Statement (.powerOn straps) := carriedCells_of_none rfl
theorem CarriedCells.resetPin (straps : Straps) : CarriedCells.Statement (.resetPin straps) := carriedCells_of_none rfl
theorem CarriedCells.linkUp (port : Port) (speed : Speed) : CarriedCells.Statement (.linkUp port speed) := carriedCells_of_none rfl
theorem CarriedCells.linkDown (port : Port) (receiving : Bool) : CarriedCells.Statement (.linkDown port receiving) := carriedCells_of_none rfl
theorem CarriedCells.damagedFrame (port : Port) : CarriedCells.Statement (.damagedFrame port) := carriedCells_of_none rfl
theorem CarriedCells.ordinaryFrame (arrival : FrameArrival) : CarriedCells.Statement (.ordinaryFrame arrival) := carriedCells_of_gate rfl rfl
theorem CarriedCells.priceAsk (message : BranchArrival) : CarriedCells.Statement (.priceAsk message) := carriedCells_of_gate rfl rfl
theorem CarriedCells.saleRecord (message : BranchArrival) : CarriedCells.Statement (.saleRecord message) := carriedCells_of_gate rfl rfl
theorem CarriedCells.takeIntakeEntry : CarriedCells.Statement .takeIntakeEntry := carriedCells_of_none rfl
theorem CarriedCells.itemReply (message : BranchArrival) : CarriedCells.Statement (.itemReply message) := carriedCells_of_gate rfl rfl
theorem CarriedCells.askTimeout (entry : Nat) : CarriedCells.Statement (.askTimeout entry) := carriedCells_of_none rfl
theorem CarriedCells.journalSend : CarriedCells.Statement .journalSend := carriedCells_of_none rfl
theorem CarriedCells.pacingRefill : CarriedCells.Statement .pacingRefill := carriedCells_of_none rfl
theorem CarriedCells.journalAck (message : BranchArrival) : CarriedCells.Statement (.journalAck message) := carriedCells_of_gate rfl rfl
theorem CarriedCells.ackTimeout : CarriedCells.Statement .ackTimeout := carriedCells_of_none rfl
theorem CarriedCells.labelResult (message : BranchArrival) : CarriedCells.Statement (.labelResult message) := carriedCells_of_gate rfl rfl
theorem CarriedCells.pushTimeout (tag : Nat) : CarriedCells.Statement (.pushTimeout tag) := carriedCells_of_none rfl
theorem CarriedCells.clockSecond : CarriedCells.Statement .clockSecond := carriedCells_of_none rfl
theorem CarriedCells.activation : CarriedCells.Statement .activation := carriedCells_of_none rfl
theorem CarriedCells.exchOpen (message : BranchArrival) : CarriedCells.Statement (.exchOpen message) := carriedCells_of_gate rfl rfl
theorem CarriedCells.priceChange (message : BranchArrival) : CarriedCells.Statement (.priceChange message) := carriedCells_of_gate rfl rfl
theorem CarriedCells.exchClose (message : BranchArrival) : CarriedCells.Statement (.exchClose message) := carriedCells_of_gate rfl rfl
theorem CarriedCells.quietTimeout : CarriedCells.Statement .quietTimeout := carriedCells_of_none rfl
theorem CarriedCells.commitChange : CarriedCells.Statement .commitChange := carriedCells_of_none rfl
theorem CarriedCells.probeTimer : CarriedCells.Statement .probeTimer := carriedCells_of_none rfl
theorem CarriedCells.linkEcho (message : BranchArrival) : CarriedCells.Statement (.linkEcho message) := carriedCells_of_gate rfl rfl
theorem CarriedCells.ageingStep : CarriedCells.Statement .ageingStep := carriedCells_of_none rfl
theorem CarriedCells.guestSecondStep : CarriedCells.Statement .guestSecondStep := carriedCells_of_none rfl
theorem CarriedCells.bucketRefill : CarriedCells.Statement .bucketRefill := carriedCells_of_none rfl
theorem CarriedCells.transmitEnd (port : Port) : CarriedCells.Statement (.transmitEnd port) := carriedCells_of_none rfl
theorem CarriedCells.heldMessageReoffer (order : List Generator) : CarriedCells.Statement (.heldMessageReoffer order) := carriedCells_of_none rfl
theorem CarriedCells.occupancySample : CarriedCells.Statement .occupancySample := carriedCells_of_none rfl
theorem CarriedCells.mgmtReq (message : BranchArrival) : CarriedCells.Statement (.mgmtReq message) := carriedCells_of_gate rfl rfl
theorem CarriedCells.itemRead : CarriedCells.Statement .itemRead := carriedCells_of_none rfl
theorem CarriedCells.itemWrite : CarriedCells.Statement .itemWrite := carriedCells_of_none rfl
theorem CarriedCells.itemDelete : CarriedCells.Statement .itemDelete := carriedCells_of_none rfl
theorem CarriedCells.labelRead : CarriedCells.Statement .labelRead := carriedCells_of_none rfl
theorem CarriedCells.labelWrite : CarriedCells.Statement .labelWrite := carriedCells_of_none rfl
theorem CarriedCells.labelRepush : CarriedCells.Statement .labelRepush := carriedCells_of_none rfl
theorem CarriedCells.stationRead : CarriedCells.Statement .stationRead := carriedCells_of_none rfl
theorem CarriedCells.stationWrite : CarriedCells.Statement .stationWrite := carriedCells_of_none rfl
theorem CarriedCells.stationDelete : CarriedCells.Statement .stationDelete := carriedCells_of_none rfl
theorem CarriedCells.pendingRead : CarriedCells.Statement .pendingRead := carriedCells_of_none rfl
theorem CarriedCells.pendingCancel : CarriedCells.Statement .pendingCancel := carriedCells_of_none rfl
theorem CarriedCells.settingRead : CarriedCells.Statement .settingRead := carriedCells_of_none rfl
theorem CarriedCells.settingWrite : CarriedCells.Statement .settingWrite := carriedCells_of_none rfl
theorem CarriedCells.clockSet : CarriedCells.Statement .clockSet := carriedCells_of_none rfl
theorem CarriedCells.uplinkForce : CarriedCells.Statement .uplinkForce := carriedCells_of_none rfl
theorem CarriedCells.counterProgram : CarriedCells.Statement .counterProgram := carriedCells_of_none rfl
theorem CarriedCells.counterSnapshot : CarriedCells.Statement .counterSnapshot := carriedCells_of_none rfl
theorem CarriedCells.counterRead : CarriedCells.Statement .counterRead := carriedCells_of_none rfl
theorem CarriedCells.stateRead : CarriedCells.Statement .stateRead := carriedCells_of_none rfl
theorem CarriedCells.noticeClear : CarriedCells.Statement .noticeClear := carriedCells_of_none rfl
theorem CarriedCells.resetFull : CarriedCells.Statement .resetFull := carriedCells_of_none rfl
theorem CarriedCells.resetTraffic : CarriedCells.Statement .resetTraffic := carriedCells_of_none rfl
theorem CarriedCells.unknownCommand : CarriedCells.Statement .unknownCommand := carriedCells_of_none rfl
theorem CarriedCells.alertPulseEnd : CarriedCells.Statement .alertPulseEnd := carriedCells_of_none rfl
theorem CarriedCells.portLampExpiry (port : Port) : CarriedCells.Statement (.portLampExpiry port) := carriedCells_of_none rfl

end Sys2Proof.Laws
end

