-- ==== Sys2Proof/Laws/Pool.lean ====
section
/-! SUPPORT. The cell pool and the egress queues: what each operation does to the frames a port holds, to the free cells and to the
links, said once. -/

namespace Sys2Proof.Machine

@[simp] theorem cellsOf_nil : cellsOf [] = 0 := rfl

@[simp] theorem cellsOf_cons (f : QFrame) (l : List QFrame) : cellsOf (f :: l) = f.cells + cellsOf l := by simp [cellsOf]

@[simp] theorem cellsOf_append (l k : List QFrame) : cellsOf (l ++ k) = cellsOf l + cellsOf k := by simp [cellsOf]

theorem cellsOf_perm {l k : List QFrame} (h : l.Perm k) : cellsOf l = cellsOf k := (h.map _).sum_eq

theorem cellsOf_filter_add (l : List QFrame) (p : QFrame → Bool) :
    cellsOf (l.filter p) + cellsOf (l.filter (fun f => !p f)) = cellsOf l := by
  induction l with
  | nil => rfl
  | cons f l ih =>
    cases h : p f <;> simp [h] <;> omega

theorem cellsOf_filter_le (l : List QFrame) (p : QFrame → Bool) : cellsOf (l.filter p) ≤ cellsOf l := by
  have := cellsOf_filter_add l p
  omega

/-- A frame that starts leaves the port with the same frames, in the same order. -/
theorem PortUnit.frames_of_takeNext {u v : PortUnit} {f : QFrame} (h : u.takeNext = some (f, v)) (ht : u.tx = none) :
    (f :: (v.urgent ++ (v.store ++ v.guest))) = u.frames ∧ v.link = u.link := by
  unfold PortUnit.takeNext at h
  split at h <;> cases h <;> simp_all [PortUnit.frames]

/-- What `startTx` may do: nothing, or put the head of the first queue that is not empty on the line. -/
theorem startTx_cases (p : Port) (s : State) :
    startTx p s = s ∨ ∃ f v, (s.port p).link.isSome ∧ (s.port p).tx = none ∧ (s.port p).takeNext = some (f, v) ∧
      startTx p s = setPort p { v with tx := some f, activity := some s.now } s := by
  unfold startTx
  dsimp only
  split
  · next h =>
    split
    · next f v hv => exact .inr ⟨f, v, h.1, h.2, hv, rfl⟩
    · exact .inl rfl
  · exact .inl rfl

@[simp] theorem startTx_port_other (p q : Port) (s : State) (h : q ≠ p) : (startTx p s).port q = s.port q := by
  rcases startTx_cases p s with h' | ⟨f, v, -, -, -, h'⟩
  · rw [h']
  · rw [h', setPort_port_other _ _ _ _ h]

@[simp] theorem startTx_frames (p q : Port) (s : State) : ((startTx p s).port q).frames = (s.port q).frames := by
  by_cases hq : q = p
  · subst hq
    rcases startTx_cases q s with h | ⟨f, v, -, ht, hv, h⟩
    · rw [h]
    · rw [h, setPort_port_same, ← (PortUnit.frames_of_takeNext hv ht).1]
      rfl
  · rw [startTx_port_other _ _ _ hq]

@[simp] theorem startTx_link (p q : Port) (s : State) : ((startTx p s).port q).link = (s.port q).link := by
  by_cases hq : q = p
  · subst hq
    rcases startTx_cases q s with h | ⟨f, v, -, ht, hv, h⟩
    · rw [h]
    · rw [h, setPort_port_same, ← (PortUnit.frames_of_takeNext hv ht).2]
  · rw [startTx_port_other _ _ _ hq]

@[simp] theorem startTx_free (p : Port) (s : State) : (startTx p s).pool.free = s.pool.free := by
  rcases startTx_cases p s with h | ⟨f, v, -, -, -, h⟩ <;> rw [h]
  rfl

@[simp] theorem startTx_reoffer (p : Port) (s : State) : (startTx p s).pool.reoffer = s.pool.reoffer := by
  rcases startTx_cases p s with h | ⟨f, v, -, -, -, h⟩ <;> rw [h]
  rfl

/-- A port that cannot start a frame stays as it is. -/
theorem startTx_idle {p : Port} {s : State} (h : (s.port p).link = none ∨ (s.port p).frames = []) : startTx p s = s := by
  rcases startTx_cases p s with h' | ⟨f, v, hl, ht, hv, -⟩
  · exact h'
  · rcases h with h | h
    · simp [h] at hl
    · rw [← (PortUnit.frames_of_takeNext hv ht).1] at h
      cases h

theorem PortUnit.frames_append_perm (u : PortUnit) (f : QFrame) : (u.append f).frames.Perm (f :: u.frames) := by
  have e : ∀ (a b c : List QFrame), (a ++ (b ++ f :: c)).Perm (f :: (a ++ (b ++ c))) := fun a b c => by
    rw [← List.append_assoc, ← List.append_assoc]; exact List.perm_middle
  unfold PortUnit.append PortUnit.frames
  cases f.cls
  · simpa [List.append_assoc] using e u.tx.toList u.urgent (u.store ++ u.guest)
  · simpa [List.append_assoc] using e (u.tx.toList ++ u.urgent) u.store u.guest
  · simpa [List.append_assoc] using e (u.tx.toList ++ u.urgent ++ u.store) u.guest []

@[simp] theorem PortUnit.append_link (u : PortUnit) (f : QFrame) : (u.append f).link = u.link := by
  unfold PortUnit.append
  cases f.cls <;> rfl

/-- `enqueue` adds one frame to its port and takes its cells. -/
theorem enqueue_spec (p : Port) (f : QFrame) (s : State) :
    ((enqueue p f s).port p).frames.Perm (f :: (s.port p).frames) ∧ ((enqueue p f s).port p).link = (s.port p).link ∧
      (∀ q, q ≠ p → (enqueue p f s).port q = s.port q) ∧ (enqueue p f s).pool.free = s.pool.free - f.cells ∧
      (enqueue p f s).pool.reoffer = s.pool.reoffer := by
  have hp : ∀ q, ({ s with pool := { s.pool with free := s.pool.free - f.cells } } : State).port q = s.port q := fun q => rfl
  unfold enqueue
  refine ⟨?_, ?_, fun q hq => ?_, ?_, ?_⟩
  · rw [startTx_frames, setPort_port_same]; exact PortUnit.frames_append_perm _ _
  · rw [startTx_link, setPort_port_same]; exact PortUnit.append_link _ _
  · rw [startTx_port_other _ _ _ hq, setPort_port_other _ _ _ _ hq]; exact hp q
  · rw [startTx_free]; rfl
  · rw [startTx_reoffer]; rfl

/-- The frames of a port after `removeFrames` are those it does not name; their cells return. -/
theorem removeFrames_spec (p : Port) (sel : QFrame → Bool) (why : QFrame → List Occ) (s : State) :
    ((removeFrames p sel why s).port p).frames = (s.port p).frames.filter (fun f => !sel f) ∧
      ((removeFrames p sel why s).port p).link = (s.port p).link ∧
      (∀ q, q ≠ p → (removeFrames p sel why s).port q = s.port q) ∧
      (removeFrames p sel why s).pool.free = s.pool.free + cellsOf ((s.port p).frames.filter sel) := by
  unfold removeFrames
  dsimp only
  split
  · next h =>
    refine ⟨?_, rfl, fun _ _ => rfl, by simp [h]⟩
    rw [List.filter_eq_nil_iff] at h
    exact (List.filter_eq_self.2 (fun a ha => by simpa using h a ha)).symm
  · have hc : ∀ (l : List Occ) (t : State) (q : Port), (countAll l t).port q = t.port q := fun l t q => by
      simp [State.port]
    refine ⟨?_, ?_, fun q hq => ?_, ?_⟩
    · rw [startTx_frames, hc, returnCells_port, setPort_port_same]
      simp only [PortUnit.frames, List.filter_append]
      cases (s.port p).tx with
      | none => rfl
      | some f => cases h : sel f <;> simp [h, Option.filter]
    · rw [startTx_link, hc, returnCells_port, setPort_port_same]
    · rw [startTx_port_other _ _ _ hq, hc, returnCells_port, setPort_port_other _ _ _ _ hq]
    · rw [startTx_free]
      simp

/-- Offering a forwarded frame: admitted to its port when the link is up and the class's condition holds, else counted as an
admission discard (R157 to R160). -/
theorem offerForwarded_spec (p : Port) (f : QFrame) (s : State) :
    (s.linkIsUp p = true ∧ admissible p f s = true ∧ offerForwarded p f s = enqueue p f s) ∨
      (¬(s.linkIsUp p = true ∧ admissible p f s = true) ∧
        offerForwarded p f s = count (occDiscard .admission p (some f.cls)) s) := by
  unfold offerForwarded
  split
  · next h => exact .inl ⟨(Bool.and_eq_true _ _ ▸ h).1, (Bool.and_eq_true _ _ ▸ h).2, rfl⟩
  · next h => exact .inr ⟨by simpa using h, rfl⟩

/-- Offering a generated message: done with and discarded, admitted, or refused with nothing changed (R161). -/
theorem offer_spec (g : Generator) (m : Msg) (s : State) :
    (s.linkIsUp m.port = false ∧ offer g m s = (true, count (occDiscard .admission m.port (some .urgent)) s)) ∨
      (s.linkIsUp m.port = true ∧ cellsFor (frameLength m.frame) ≤ s.pool.free ∧
        offer g m s = (true, enqueue m.port ⟨m.frame, .urgent, .generated g m.kind, false⟩ s)) ∨
      (s.linkIsUp m.port = true ∧ s.pool.free < cellsFor (frameLength m.frame) ∧ offer g m s = (false, s)) := by
  unfold offer
  dsimp only
  split
  · next h => exact .inl ⟨by simpa using h, rfl⟩
  · next h =>
    split
    · next h2 => exact .inr (.inl ⟨by simpa using h, of_decide_eq_true h2, rfl⟩)
    · next h2 => exact .inr (.inr ⟨by simpa using h, Nat.lt_of_not_le (fun hle => h2 (decide_eq_true hle)), rfl⟩)

/-- The cells all ports hold, with one port replaced. -/
theorem held_set (t : PerSeg PortUnit) (n : Nat) (r : Bool) (p : Port) (u : PortUnit) :
    Pool.held ⟨t.set p u, n, r⟩ + cellsOf (t.get p).frames = Pool.held ⟨t, n, r⟩ + cellsOf u.frames := by
  cases p <;> simp [Pool.held, allSegs, PerSeg.set, PerSeg.get] <;> omega

/-- The GUEST cells of all ports, with one port replaced. -/
theorem guestCells_set (t : PerSeg PortUnit) (n : Nat) (r : Bool) (p : Port) (u : PortUnit) :
    Pool.guestCells ⟨t.set p u, n, r⟩ + (t.get p).classCells .guest = Pool.guestCells ⟨t, n, r⟩ + u.classCells .guest := by
  cases p <;> simp [Pool.guestCells, allSegs, PerSeg.set, PerSeg.get] <;> omega

/-! ### Messages that a generator keeps (R161) -/

/-- All that sending a message behind a list can do: it is kept by `hold` behind those that wait; its port's link is down and it is
counted out; it is admitted; or it is refused and kept by `hold`. -/
theorem sendBehind_cases {α : Type} (g : Generator) (waiting : List α) (m : Msg) (hold : State → State) (s : State) :
    (waiting ≠ [] ∧ s.linkIsUp m.port = true ∧ sendBehind g waiting m hold s = hold s) ∨
    (s.linkIsUp m.port = false ∧ sendBehind g waiting m hold s = count (occDiscard .admission m.port (some .urgent)) s) ∨
    (waiting = [] ∧ s.linkIsUp m.port = true ∧ cellsFor (frameLength m.frame) ≤ s.pool.free ∧
      sendBehind g waiting m hold s = enqueue m.port ⟨m.frame, .urgent, .generated g m.kind, false⟩ s) ∨
    (waiting = [] ∧ s.linkIsUp m.port = true ∧ s.pool.free < cellsFor (frameLength m.frame) ∧
      sendBehind g waiting m hold s = hold s) := by
  unfold sendBehind offerOr
  obtain ⟨hl, ho⟩ | ⟨hl, hc, ho⟩ | ⟨hl, hc, ho⟩ := offer_spec g m s
  · exact .inr (.inl ⟨hl, by simp [hl, ho]⟩)
  all_goals
    cases waiting with
    | nil => simp [hl, hc, ho]
    | cons a l => simp [hl]

/-- No message for the port is left, and no other is lost. -/
@[simp] theorem forgetHeld_heldMessages (p : Port) (s : State) :
    (forgetHeld p s).heldMessages = s.heldMessages.filter (fun m => m.port != p) := by
  have hd : ∀ h : Option (Nat × Msg),
      ((h.filter (fun x => x.2.port != p)).map (·.2)).toList = ((h.map (·.2)).toList).filter (fun m => m.port != p) := by
    intro h
    cases h with
    | none => rfl
    | some x => cases hx : x.2.port != p <;> simp [Option.filter, hx]
  have ho : ∀ h : Option Msg, (h.filter (fun m => m.port != p)).toList = h.toList.filter (fun m => m.port != p) := by
    intro h
    cases h with
    | none => rfl
    | some x => cases hx : x.port != p <;> simp [Option.filter, hx]
  simp only [State.heldMessages, forgetHeld, List.filter_append, hd, ho, List.filter_map]
  rfl

end Sys2Proof.Machine
end

