-- ==== Sys2Proof/Laws/Prices.lean ====
section
/-! SUPPORT. Laws of the price engine and of the item table: which labels are in the honour set, what the quoted price is the least
of, what a lookup finds, and what a list keeps when its order is chosen. -/

namespace Sys2Proof.Machine

/-- An order chosen by a free value loses and adds nothing. -/
theorem mem_shuffle {α : Type} (f : Nat → Nat) (x : α) : ∀ (l : List α) (n : Nat), x ∈ shuffle f n l ↔ x ∈ l
  | [], n => by simp [shuffle]
  | [y], n => by simp [shuffle]
  | y :: z :: l, n => by
    have ih := mem_shuffle f x (z :: l) (n + 1)
    unfold shuffle
    dsimp only
    rw [List.mem_insertIdx (Nat.le_of_lt_succ (Nat.mod_lt _ (Nat.succ_pos _)))]
    simp [ih]

/-- The quoted price is the least of the shelf unit price and the prices shown. -/
theorem quotedPrice_least (l : List Content) : ∀ e : Nat, quotedPrice e l ≤ e ∧ (∀ c ∈ l, quotedPrice e l ≤ c.unitPrice) ∧
    (quotedPrice e l = e ∨ ∃ c ∈ l, quotedPrice e l = c.unitPrice) := by
  unfold quotedPrice
  induction l with
  | nil => intro e; simp
  | cons c l ih =>
    intro e
    obtain ⟨h1, h2, h3⟩ := ih (min e c.unitPrice)
    simp only [List.foldl_cons]
    refine ⟨by omega, fun d hd => ?_, ?_⟩
    · rcases List.mem_cons.1 hd with rfl | hd
      · omega
      · exact h2 d hd
    · rcases h3 with h3 | ⟨d, hd, h3⟩
      · rcases Nat.le_total e c.unitPrice with h | h
        · left; omega
        · right; exact ⟨c, by simp, by omega⟩
      · right; exact ⟨d, by simp [hd], h3⟩

theorem mem_honourSet (labels : SMap LabelRec) (r : ItemRec) (c : Content) :
    c ∈ honourSet labels r ↔ ∃ l, r.fields.honour = true ∧ l ∈ r.labels ∧ (labelAt labels l).display = .showing c ∧
      c.version ≠ r.version ∧ c.mode = r.fields.mode := by
  unfold honourSet
  split
  · next h =>
    simp only [List.mem_filterMap, h, true_and]
    constructor
    · rintro ⟨l, hl, hh⟩
      unfold honoured at hh
      split at hh
      · next hd =>
        split at hh
        · cases hh
          exact ⟨l, hl, hd, ‹_›⟩
        · cases hh
      · cases hh
    · rintro ⟨l, hl, hd, h2⟩
      refine ⟨l, hl, ?_⟩
      unfold honoured
      simp [hd, h2]
  · next h => simp [h]

theorem slotHit_eq_some {items : SMap ItemRec} {code way slot : Nat} {r : ItemRec} :
    slotHit items code way = some (slot, r) ↔ slot = slotOf code way ∧ Tbl.get items slot = some r ∧ r.code = code := by
  unfold slotHit
  split
  · next q hq =>
    split
    · next hc =>
      constructor
      · rintro ⟨⟩
        exact ⟨rfl, hq, hc⟩
      · rintro ⟨rfl, h, _⟩
        rw [hq] at h
        cases h
        rfl
    · next hc =>
      constructor
      · rintro ⟨⟩
      · rintro ⟨rfl, h, h2⟩
        rw [hq] at h
        cases h
        exact absurd h2 hc
  · next hq =>
    constructor
    · rintro ⟨⟩
    · rintro ⟨rfl, h, _⟩
      rw [hq] at h
      cases h

/-- What a lookup that hits has found: the record of one of the four ways of the code's bucket. -/
theorem findItem_found {items : SMap ItemRec} {code slot : Nat} {r : ItemRec} (h : findItem items code = some (slot, r)) :
    validCode code = true ∧ (∃ w, w < 4 ∧ slot = slotOf code w) ∧ Tbl.get items slot = some r ∧ r.code = code := by
  unfold findItem at h
  split at h
  · next hv =>
    obtain ⟨w, hw, hh⟩ := List.exists_of_findSome?_eq_some h
    obtain ⟨rfl, hg, hc⟩ := slotHit_eq_some.1 hh
    refine ⟨hv, ⟨w, ?_, rfl⟩, hg, hc⟩
    fin_cases hw <;> decide
  · cases h

/-- A lookup that misses: no way of the bucket holds the code. -/
theorem findItem_missed {items : SMap ItemRec} {code : Nat} (h : findItem items code = none) (hv : validCode code = true) {w : Nat}
    (hw : w < 4) {r : ItemRec} (hg : Tbl.get items (slotOf code w) = some r) : r.code ≠ code := by
  intro hc
  unfold findItem at h
  rw [if_pos hv, List.findSome?_eq_none_iff] at h
  have := h w (by simp only [List.mem_cons, List.not_mem_nil, or_false]; omega)
  rw [(slotHit_eq_some (slot := slotOf code w) (r := r)).2 ⟨rfl, hg, hc⟩] at this
  cases this

/-- A free way is empty. -/
theorem freeWay_empty {items : SMap ItemRec} {code w : Nat} (h : freeWay items code = some w) :
    w < 4 ∧ Tbl.get items (slotOf code w) = none := by
  unfold freeWay at h
  have hm := List.mem_of_find?_eq_some h
  have hp := List.find?_some h
  refine ⟨?_, by simpa using hp⟩
  fin_cases hm <;> decide

end Sys2Proof.Machine
end

