-- ==== Sys2Proof/Tests/Slice0.lean ====
section
/-! SUPPORT. Tests: the worked cases of the manual, one small test for the commands, refusals of ill-formed operands, and for every
obligation with hypotheses a state and operands that meet them. Every expected figure is the manual's own or worked by hand from it. -/

namespace Sys2Proof.Tests

open Sys2Proof Sys2Proof.Machine

set_option Elab.async false

/-! ### Small states -/

/-- The state a command leaves. -/
def after (i : Instr) (s : State) : State :=
  match Sys2Proof.Machine.exec i s with
  | .next t => t
  | _ => s

def station4 : Addr := 0x0A0000000401
def till5 : Addr := 0x0A0000000105
def base2 : Addr := 0x0A0000000202
def phone : Addr := 0x0A0000000377
def router : Addr := 0x0A00000000FE

/-- A port with its link up and nothing queued. -/
def upPort : PortUnit := idlePort (some .mbps1000)

/-- Every link up, head office known, the uplink UP; the straps of 12.7. -/
def branch : State :=
  let s := powerOnState ⟨0x31, false⟩
  { s with
    settings := { s.settings with headOffice := 0x0A00000000F0 }
    uplink := { s.uplink with state := .up }
    guest := { s.guest with rate := 2500000 }
    pool := { s.pool with ports := ⟨upPort, upPort, upPort, upPort, upPort⟩ } }

/-- The stations of 8.6, with the management station and a guest phone. -/
def staffed : State :=
  { branch with
    stations := ⟨[(till5.toNat, ⟨till5, .till, .tillStation, false, 12, false⟩),
      (base2.toNat, ⟨base2, .label, .baseStation 2, true, 7, false⟩),
      (phone.toNat, ⟨phone, .guest, .guestClient, false, 3, false⟩),
      (station4.toNat, ⟨station4, .office, .officeStation, false, 40, false⟩)], 0⟩
    guest := { branch.guest with table := [(phone.toNat, ⟨phone, 3600, 4000, 0, 0, 0, 0⟩)], level := 2500 } }

/-- A request at the head of the queue, the first sender known. -/
def headRequest (code : Nat) (fields : List Byte) : Request := ⟨station4, .office, 7, code, fields⟩

def asked (code : Nat) (fields : List Byte) (s : State) : State :=
  { s with mgmt := { s.mgmt with requests := [headRequest code fields], firstSender := some (station4, .office) } }

theorem asked_takes (code : Nat) (fields : List Byte) (s : State) (h : s.answerWaits = false) :
    Takes (asked code fields s) (headRequest code fields) code := ⟨h, rfl, rfl⟩

/-- A message with its body padded to the least frame (13.1). -/
def message (p : Port) (a : Addr) (body : List Byte) : BranchArrival :=
  ⟨p, a, BitVec.ofNat 16 body.length, body ++ List.replicate (42 - body.length) 0, false⟩

/-- The conditions of `Arrives`, to be evaluated. -/
def arrivesB (m : BranchArrival) (k : MsgKind) (s : State) : Bool :=
  decide ((s.linkIsUp m.port = true ∨ m.beforeLoss = true) ∧ (64 ≤ arrivalLength m ∧ arrivalLength m ≤ 1522) ∧
    (isGroup m.src = false ∧ m.src ≠ 0 ∧ m.src ≠ s.settings.stationAddr) ∧
    (minBody k).any (· ≤ m.bodyLength.toNat) = true ∧ m.bodyLength.toNat ≤ m.bytes.length)

theorem arrives_of {m : BranchArrival} {k : MsgKind} {s : State} (h : arrivesB m k s = true) : Arrives m k s := by
  have ⟨link, size, source, body, whole⟩ := of_decide_eq_true h
  have ⟨least, eq, le⟩ := (Option.any_eq_true _ _).1 body
  exact ⟨link, size.1, size.2, source, ⟨least, eq, of_decide_eq_true le⟩, whole⟩

theorem office_of {m : BranchArrival} {k : MsgKind} {s : State} (h : arrivesB m k s = true) (hp : m.port = .uplink)
    (hh : s.settings.headOffice ≠ 0) : FromHeadOffice m k s := ⟨arrives_of h, hp, hh⟩

/-! ### Operands out of range are refused by the well-formedness check -/

/-- R139: a frame of 63 bytes. -/
theorem wf_refuses_short_frame : (Instr.ordinaryFrame ⟨.till, ⟨router, till5, 0x0800, List.replicate 45 0⟩, false⟩).wf = false := by
  decide +kernel

/-- R139: a frame of 1,523 bytes. -/
theorem wf_refuses_long_frame : (Instr.ordinaryFrame ⟨.till, ⟨router, till5, 0x0800, List.replicate 1505 0⟩, false⟩).wf = false := by
  decide +kernel

/-- R139: a branch message in a frame of 63 bytes. -/
theorem wf_refuses_short_message : (Instr.priceAsk ⟨.till, till5, 14, List.replicate 41 0, false⟩).wf = false := by decide +kernel

/-- R32: the entries are 0 to 255. -/
theorem wf_refuses_ask_entry : (Instr.askTimeout 256).wf = false ∧ (Instr.askTimeout 255).wf = true := by decide

/-- R66: the push tags are 0 to 65,535. -/
theorem wf_refuses_push_tag : (Instr.pushTimeout 65536).wf = false ∧ (Instr.pushTimeout 65535).wf = true := by decide

/-- R161: every generator is named, and once. -/
theorem wf_refuses_reoffer_order :
    (Instr.heldMessageReoffer [.tillService]).wf = false ∧
    (Instr.heldMessageReoffer (.tillService :: .tillService :: allGenerators.drop 2)).wf = false ∧
    (Instr.heldMessageReoffer allGenerators).wf = true := by decide

/-! ### Prices: the cases of 1.8 and 1.9 -/

/-- An EACH item with honour off, a pack of one piece. -/
def each (base : Nat) (promo : Promotion) : ItemFields := ⟨.each, base, 0, 1, .piece, 1, false, promo⟩

def weighed (base ref : Nat) : ItemFields := ⟨.weighed, base, 0, 1, .gram, ref, false, .absent⟩

/-- Q, X and the CLAMPED flag of a quote from the table. -/
def quoted (f : ItemFields) (k : QtyKind) (q : Nat) : Nat × Nat × Bool :=
  let quote := quoteItem [] ⟨1, f, 1, []⟩ k q
  (quote.price, quote.extended, quote.flags.clamped)

theorem case_A : comparePrice ⟨.each, 349, 0, 400, .gram, 1000, false, .percent 2500⟩ = 655 ∧
    quoted ⟨.each, 349, 0, 400, .gram, 1000, false, .percent 2500⟩ .count 3 = (262, 786, false) := by decide

theorem case_B : quoted (weighed 1299 1000) .grams 437 = (1299, 568, false) ∧
    quoted (weighed 1299 1000) .count 437 = (1299, 0, false) := by decide

theorem case_C : quoted (each 199 (.multibuy 3 500)) .count 7 = (199, 1199, false) := by decide

theorem case_D : unitPrice (each 399 (.fixed 450)) = 399 := by decide

theorem case_E : quoted (each 9999999 .absent) .count 20 = (9999999, 99999999, true) := by decide

/-- Case F at 06:01:00: label 12 still shows 349 at version 7, the record stands at version 8. -/
theorem case_F :
    let labels : SMap LabelRec := [(12, ⟨5, 0, some 1, .showing ⟨349, 349, .each, .absent, 7⟩, true, false⟩)]
    let quote := quoteItem labels ⟨1, { each 379 .absent with honour := true }, 8, [12]⟩ .count 2
    quote.price = 349 ∧ quote.extended = 698 ∧ quote.flags.honoured = true := by decide

theorem limits_1_9 :
    quoted (each 100 (.percent 10000)) .count 5 = (0, 0, false) ∧ quoted (each 1 (.percent 5000)) .count 1 = (0, 0, false) ∧
    quoted (each 100 (.multibuy 3 400)) .count 3 = (100, 300, false) ∧
    quoted (each 250 (.multibuy 4 800)) .count 3 = (250, 750, false) ∧ quoted (each 250 .absent) .count 0 = (250, 250, false) ∧
    quoted (each 250 .absent) .count 12000 = (250, 2499750, true) ∧
    quoted (weighed 9999999 1000) .grams 99999 = (9999999, 99999999, true) ∧
    comparePrice ⟨.each, 120, 0, 6, .piece, 1, false, .absent⟩ = 20 ∧ comparePrice (weighed 1299 100) = 130 := by decide

/-- 1.9, an unreachable label and a differing deal: 150 each, 450 for three, both honour flags. -/
theorem honour_and_deal :
    let labels : SMap LabelRec :=
      [(40, ⟨5, 0, some 1, .showing ⟨150, 150, .each, .multibuy 2 250, 8⟩, false, false⟩),
       (41, ⟨6, 0, some 1, .showing ⟨170, 170, .each, .absent, 7⟩, true, false⟩), (42, ⟨7, 0, some 1, .blankShown, true, false⟩)]
    let quote := quoteItem labels ⟨1, { each 180 (.multibuy 2 300) with honour := true }, 9, [40, 41, 42]⟩ .count 3
    quote.price = 150 ∧ quote.extended = 450 ∧ quote.flags.honoured = true ∧ quote.flags.dealDiffers = true := by decide

/-- 1.2: the codes of bucket 1 take the ways in order, and a fifth is refused. -/
theorem bucket_fills :
    let t := [1, 8193, 16385, 24577].foldl (fun m c => (createItem c (each 1 .absent) m).2) []
    t.map (·.1) = [4, 5, 6, 7] ∧ (createItem 32769 (each 1 .absent) t).1 = .full := by decide

/-! ### Other figures of the manual -/

/-- R50: the forward distance from 4,294,967,294 to 2 is 3. -/
theorem distance_wraps : seqDistance 4294967294 2 = 3 := by decide

/-- R127: eight round trips of mean 40, and the mean of 43 after a further good echo of 61 ms. -/
theorem learned_rtt :
    ([38, 42, 40, 39, 44, 41, 37, 43] : List Nat).sum / 8 = 40 ∧ (joinHistory 61 [38, 42, 40, 39, 44, 41, 37, 43]).sum / 8 = 43 := by
  decide

/-- R155: the table of cells. -/
theorem cells_table : [64, 192, 193, 384, 1344, 1345, 1522].map cellsFor = [1, 1, 2, 2, 7, 8, 8] := by decide

/-- R162: transmission times. -/
theorem transmit_times : transmitTime .mbps1000 64 = 672 ∧ transmitTime .mbps100 64 = 6720 := by decide

/-- R174, R175: DEGRADED in the window gives 312,500, refilled 312 and 313 in turn. -/
theorem degraded_in_window :
    ({ branch with windowIn := true, uplink := { branch.uplink with state := .degraded } } : State).aggregateRate = 312500 ∧
    refill 312500 131072 3609 0 = (3921, 500) ∧ refill 312500 131072 3321 500 = (3634, 0) := by decide

/-- R104: words of a body, an odd last byte high. -/
theorem word_sum_odd : wordSum [0x01, 0x02, 0x03] = 0x0102 + 0x0300 := by decide

/-- R87: the reset window, and one across midnight. -/
theorem windows : windowAt 3600 18000 3600 = true ∧ windowAt 3600 18000 18000 = false ∧ windowAt 79200 7200 79200 = true ∧
    windowAt 79200 7200 7200 = false ∧ windowAt 5 5 5 = false := by decide

/-- R149: with the reset matrix a group frame from TILL is copied to OFFICE alone. -/
theorem reset_matrix : policyCell resetPolicy .till .office = .permit ∧ policyCell resetPolicy .till .label = .deny ∧
    policyCell resetPolicy .guest .uplink = .shaped ∧ policyCell resetPolicy .label .office = .permit := by decide

/-- 13.3: the bytes of a PRICE-ASK's code and quantity, most significant first. -/
theorem fields_big_endian : field [0x01, 0x02, 0x03, 0x04] 1 2 = 0x0203 ∧ be 3 0x010203 = [1, 2, 3] := by decide

/-! ### One step of each command -/

/-- The bytes of the frame a port sends, from its branch header on. -/
def sending (p : Port) (s : State) : List Byte := ((s.port p).tx.map (·.frame.payload)).getD []

/-- 12.7: the straps 0x31 give the station address 02-00-00-00-00-31. -/
theorem test_power_on : (after (.powerOn ⟨0x31, false⟩) staffed).settings.stationAddr = 0x020000000031 ∧
    (after (.powerOn ⟨0x31, false⟩) staffed).stations.table = [] := by decide +kernel

/-- R194: a TRUST-UPLINK strap latched high turns the setting on; links are down until established (R154). -/
theorem test_reset_pin : (after (.resetPin ⟨0, true⟩) staffed).settings.trustUplink = true ∧
    (after (.resetPin ⟨0, true⟩) staffed).linkIsUp .till = false := by decide +kernel

/-- A port's link down in `branch`. -/
def linkLost (p : Port) (s : State) : State := setPort p (idlePort none) s

/-- R124: the first probe is built at once, with sequence 1, and goes out on P0. -/
theorem test_link_up : (after (.linkUp .uplink .mbps100) (linkLost .uplink branch)).uplink.probe = some ⟨1, 0, false⟩ ∧
    field (sending .uplink (after (.linkUp .uplink .mbps100) (linkLost .uplink branch))) 0 2 = 0x0140 := by decide +kernel

/-- A STORE frame of `n` cells. -/
def storeFrame (n : Nat) : QFrame := ⟨⟨router, station4, 0x0800, List.replicate (192 * n - 18) 0⟩, .store, .forwarded, false⟩

def urgentFrame (n : Nat) : QFrame := { storeFrame n with cls := .urgent }

def guestFrame (n : Nat) : QFrame := { storeFrame n with cls := .guest }

/-- OFFICE sends a GUEST frame of 2 cells; a STORE frame of 1 and an URGENT one of 3 wait. -/
def busyOffice : State :=
  let s := setPort .office { upPort with tx := some (guestFrame 2), store := [storeFrame 1], urgent := [urgentFrame 3] } branch
  { s with pool := { s.pool with free := 8186 } }

/-- R164: all six cells return. -/
theorem test_link_down : (after (.linkDown .office true) busyOffice).pool.free = 8192 ∧
    ((after (.linkDown .office true) busyOffice).port .office).frames = [] := by decide +kernel

/-- A counter of discards with every reason, port and class. -/
def discards (quals ports classes : Nat) : Counter := ⟨.event .framesDiscarded (BitVec.ofNat 16 quals) (BitVec.ofNat 8 ports) (BitVec.ofNat 8 classes), 0, false, false⟩

def counting (c : Counter) (s : State) : State := { s with mon := { s.mon with counters := s.mon.counters.set 0 c } }

def firstCount (s : State) : Nat := (s.mon.counters.map (·.value)).headD 0

/-- R139: reason FCS, the lowest qualifier bit, against the port; a discard without class passes every class set. -/
theorem test_damaged_frame : firstCount (after (.damagedFrame .label) (counting (discards 1 4 1) branch)) = 1 ∧
    firstCount (after (.damagedFrame .label) (counting (discards 510 31 7) branch)) = 0 := by decide +kernel

def frame (a b : Addr) (n : Nat) : Frame := ⟨b, a, 0x0800, List.replicate (n - 18) 0⟩

/-- 8.6, step 1: till 5 to the router goes URGENT to P0, marked as a payment. -/
theorem test_till_to_router :
    let t := after (.ordinaryFrame ⟨.till, frame till5 router 64, false⟩) staffed
    ((t.port .uplink).tx.map (fun f => (f.cls, f.payment))) = some (.urgent, true) ∧ t.pool.free = 8191 := by decide +kernel

/-- 10.6, tick 998: phone 1 is charged on both buckets. -/
theorem test_guest_charged :
    let s := { staffed with guest := { staffed.guest with table := [(phone.toNat, ⟨phone, 9, 4250, 0, 0, 0, 0⟩)] } }
    let t := after (.ordinaryFrame ⟨.guest, frame phone router 1522, false⟩) s
    t.guest.level = 978 ∧ t.guest.table.map (·.2.level) = [2728] := by decide +kernel

/-- The 14 bytes of a PRICE-ASK (13.3). -/
def askBody (till tag code kind quantity : Nat) : List Byte := be 1 till ++ be 2 tag ++ be 6 code ++ be 1 kind ++ be 4 quantity

/-- 8.6, step 4, with the ask of 2.4. -/
theorem test_price_ask :
    (after (.priceAsk (message .till till5 (askBody 5 0x0A01 4006381333931 1 2))) staffed).till.intake =
      [⟨till5, .ask 5 0x0A01 4006381333931 .count 2⟩] := by decide +kernel

/-- R27: a record body of 240 bytes is taken, one of 241 is a foreign ask. -/
theorem test_sale_record :
    let m : Nat → BranchArrival := fun n => message .till till5 (be 1 9 ++ be 4 77 ++ List.replicate n 1)
    (after (.saleRecord (m 240)) staffed).till.intake = [⟨till5, .sale 9 77 (List.replicate 240 1)⟩] ∧
    (after (.saleRecord (m 241)) staffed).till.intake = [] := by decide +kernel

/-- 2.4 at 0 ms: entry 0 last served at generation 41. -/
def beforeReferral : State :=
  { staffed with till := { staffed.till with
      intake := [⟨till5, .ask 17 0x0A01 4006381333931 .count 2⟩], generations := [(0, 41)] } }

/-- 2.4 at 0 ms: the entry is live at generation 42 and the ITEM-QUERY carries the pair (0, 42). -/
theorem test_take_intake :
    let t := after .takeIntakeEntry beforeReferral
    t.till.generation 0 = 42 ∧ t.till.asks = [(0, ⟨till5, 0x0A01, 4006381333931, .count, 2, 0⟩)] ∧
    field (sending .uplink t) 4 2 = 0x002A := by decide +kernel

/-- 2.4 from 3,500 ms: till 22's ask is live at generation 43. -/
def referred : State :=
  { staffed with
    now := 4100
    till := { staffed.till with asks := [(0, ⟨0x0A0000000122, 0x0107, 4006381333931, .grams, 250, 3500⟩)], generations := [(0, 43)] } }

/-- The body of an ITEM-REPLY (13.3). -/
def replyBody (n gen code : Nat) (f : ItemFields) : List Byte := be 1 n ++ be 1 gen ++ be 6 code ++ be 1 1 ++ be 1 1 ++ itemFieldBytes f

/-- 2.4 at 4,100 ms: adopted at version 1, and answered MODE-MISMATCH with Q 215 and X 0. -/
theorem test_item_reply :
    let t := after (.itemReply (message .uplink router (replyBody 0 43 4006381333931 (each 215 .absent)))) referred
    (lookupItem t.items 4006381333931).map (·.version) = some 1 ∧ t.till.asks = [] ∧ field (sending .till t) 12 1 = 5 ∧
    field (sending .till t) 14 4 = 215 ∧ field (sending .till t) 18 4 = 0 := by decide +kernel

/-- 2.4 at 3,700 ms: generation 42 is late. -/
theorem test_late_reply :
    (after (.itemReply (message .uplink router (replyBody 0 42 4006381333931 (each 215 .absent)))) referred).till = referred.till := by
  decide +kernel

/-- R36: at 3 s the entry is answered UNKNOWN with NO-LINK and freed; a millisecond earlier nothing happens. -/
theorem test_ask_timeout :
    (after (.askTimeout 0) { referred with now := 6500 }).till.asks = [] ∧
    field (sending .till (after (.askTimeout 0) { referred with now := 6500 })) 12 2 = 0x0304 ∧
    (after (.askTimeout 0) { referred with now := 6499 }).till = referred.till := by decide +kernel

/-- Records 101 to 105 of 3.7. -/
def journal37 : Journal :=
  ⟨(List.range 5).map (fun i => ⟨101 + i, 9, 500 + i, 0, List.replicate 16 0⟩), 101, 101, 106, false, 4000, none, none, true, true⟩

/-- 3.7 at 0: the first send. -/
theorem test_journal_send :
    let t := after .journalSend { branch with journal := journal37 }
    t.journal.next = 102 ∧ t.journal.credit = 3000 ∧ t.journal.ackTimer = some 0 ∧ field (sending .uplink t) 4 4 = 101 := by
  decide +kernel

/-- R55: 20 thousandths of a record a tick outside the window, held at 4,000. -/
theorem test_pacing_refill :
    (after .pacingRefill { branch with journal := { journal37 with credit := 980 } }).journal.credit = 1000 ∧
    (after .pacingRefill { branch with journal := journal37 }).journal.credit = 4000 := by decide +kernel

/-- 3.7 from 50 to 200 ms: all five are SENT. -/
def sent37 : State := { branch with now := 200, journal := { journal37 with next := 106, ackTimer := some 0, credit := 3000 } }

/-- 3.7 at 200, 300 and 400: valid, stale and bad. -/
theorem test_journal_ack :
    let t := after (.journalAck (message .uplink router (be 4 103))) sent37
    t.journal.release = 104 ∧ t.journal.records.map (·.seq) = [104, 105] ∧ t.journal.ackTimer = some 200 ∧
    (after (.journalAck (message .uplink router (be 4 102))) t).journal = t.journal ∧
    (after (.journalAck (message .uplink router (be 4 107))) t).journal = t.journal := by decide +kernel

/-- 3.7 at 30,200: the rewind, and nothing a millisecond before. -/
theorem test_ack_timeout :
    let s := { sent37 with journal := { sent37.journal with ackTimer := some 200 } }
    (after .ackTimeout { s with now := 30200 }).journal.next = 101 ∧
    (after .ackTimeout { s with now := 30199 }).journal.next = 106 := by decide +kernel

/-- The item of 4.9 at version 5, base 259. -/
def item49 : ItemRec := ⟨5012345678900, ⟨.each, 259, 0, 500, .gram, 1000, true, .absent⟩, 5, [200, 201]⟩

/-- 4.9 at 2 s: both pushes of version 4 in flight and superseded. -/
def shelf : State :=
  { staffed with
    now := 3000
    items := [(slotOf 5012345678900 0, item49)]
    labels := [(200, ⟨900, 2, some 5012345678900, .showing ⟨249, 498, .each, .absent, 3⟩, true, false⟩),
      (201, ⟨901, 2, some 5012345678900, .showing ⟨249, 498, .each, .absent, 3⟩, true, false⟩)]
    disp := ⟨[⟨200, true, false, 0, 0, some ⟨512, 2, 900, .price ⟨229, 458, .each, .absent, 4⟩, 0, 0, true, false⟩⟩,
      ⟨201, true, false, 0, 1, some ⟨513, 2, 901, .price ⟨229, 458, .each, .absent, 4⟩, 0, 1, true, false⟩⟩], 2, 514, 2, none⟩ }

/-- The shelf with a third label whose entry waits, the pushes of the other two in flight in the other order; the window is 1. -/
def queued : State :=
  { shelf with
    settings := { shelf.settings with baseWindow := 1 }
    labels := shelf.labels ++ [(202, ⟨902, 2, none, .neverShown, true, false⟩)]
    disp := ⟨[⟨201, true, false, 1, 0, some ⟨513, 2, 901, .blank, 20, 1, true, true⟩⟩, ⟨202, false, false, 2, 1, none⟩,
      ⟨200, true, false, 0, 2, some ⟨512, 2, 900, .blank, 10, 0, false, false⟩⟩], 3, 514, 2, none⟩ }

/-- 4.9 at 3: label 200 shows 229 at version 4; its entry returns HIGH and is pushed under tag 514 with 259 and 518, version 5. -/
theorem test_label_result :
    let t := after (.labelResult (message .label base2 (be 2 512 ++ be 1 1))) shelf
    (t.label 200).display = .showing ⟨229, 458, .each, .absent, 4⟩ ∧
    (t.entryOf 200).map (·.high) = some true ∧
    ((t.entryOf 200).bind (·.flight)).map (·.snapshot) = some (.price ⟨259, 518, .each, .absent, 5⟩) ∧ t.disp.nextTag = 515 := by
  decide +kernel

/-- 4.9 at 27 with the retry limit at 2: label 201 is given up, and shows what it showed. -/
theorem test_push_timeout :
    let q : List LabelEntry := [⟨201, true, true, 1, 9, some ⟨516, 2, 901, .price ⟨259, 518, .each, .absent, 5⟩, 7000, 4, false, false⟩⟩]
    let s := { shelf with
      now := 27000, disp := ⟨q, 10, 517, 5, none⟩, settings := { shelf.settings with retryLimit := 2 } }
    let t := after (.pushTimeout 516) s
    (t.label 201).reachable = false ∧ (t.label 201).display = .showing ⟨249, 498, .each, .absent, 3⟩ ∧ t.disp.queue = [] ∧
    t.mgmt.notices.map (·.body) = [.labelGaveUp 201 901 2 (some 5012345678900) (some .timeout)] := by decide +kernel

/-- 5.9: the clock of day 812 reaches the close second 05:00:00. -/
theorem test_clock_second :
    let t := after .clockSecond { branch with clock := ⟨true, 812, 17999, 999⟩, windowIn := true }
    t.clock = ⟨true, 812, 18000, 0⟩ ∧ t.windowIn = false := by decide +kernel

/-- R85: midnight, and the clock held at its last second. -/
theorem test_clock_ends :
    (after .clockSecond { branch with clock := ⟨true, 812, 86399, 999⟩ }).clock = ⟨true, 813, 0, 0⟩ ∧
    (after .clockSecond { branch with clock := ⟨true, 65535, 86399, 999⟩ }).clock = ⟨true, 65535, 86399, 999⟩ := by decide +kernel

def noFields : PartialFields := ⟨none, none, none, none, none, none, none, none⟩

/-- 5.9 at 06:00:00, the entry of stamp 1: item 1,111 goes to base 379 and version 8. -/
def opening : State :=
  { branch with
    clock := ⟨true, 812, 21600, 0⟩
    items := [(4444, ⟨1111, ⟨.each, 349, 0, 1, .piece, 1, true, .absent⟩, 7, []⟩)]
    sched := ⟨[⟨⟨1111, 70178400, 1, .set { noFields with base := some 379 }⟩, 77, 1⟩], 6⟩ }

theorem test_activation :
    let t := after .activation opening
    (lookupItem t.items 1111).map (fun r => (r.fields.base, r.version)) = some (379, 8) ∧ t.sched.entries = [] ∧
    (after .activation { opening with clock := ⟨true, 812, 21599, 999⟩ }).sched = opening.sched := by decide +kernel

/-- 6.8: the branch of 01:09:50, day 813. -/
def night : State :=
  { branch with
    clock := ⟨true, 813, 4190, 500⟩, windowIn := true
    sched := ⟨[⟨⟨7777, 70268400, 12, .set { noFields with base := some 455 }⟩, 77, 5⟩], 6⟩
    exch := ⟨.idle, 77, []⟩ }

/-- 6.8: READY, with free entries 8,191 and last committed 77, and the clock at 01:10:00. -/
theorem test_exch_open :
    let t := after (.exchOpen (message .uplink router (be 4 78 ++ be 2 5 ++ be 6 70247400))) night
    t.exch.state = .staging ⟨78, 5, 1, 0, 0, none, 0, [], 0, []⟩ ∧ t.clock = ⟨true, 813, 4200, 0⟩ ∧
    field (sending .uplink t) 8 1 = 1 ∧ field (sending .uplink t) 9 2 = 8191 ∧ field (sending .uplink t) 11 4 = 77 := by
  decide +kernel

/-- 6.8 after record 4, before record 5. -/
def staging68 : StagingCtx :=
  ⟨78, 5, 5, 4, 1213459, none, 1, [2], 0,
    [⟨1111, 70264800, 3, .bind 12⟩, ⟨1111, 70264800, 4, .set { noFields with base := some 369 }⟩]⟩

def staged : State := { night with exch := ⟨.staging staging68, 77, []⟩ }

/-- 6.8, record 5. By R104 its words sum to 78 + 5 + 1,072 + 10,208 + 3,333 + 1,024 + 10,240 = 25,960; the sums printed in 6.8 do
not follow from R104 and 13.5 (log 32). -/
theorem test_price_change :
    let t := after (.priceChange (message .uplink router (be 4 78 ++ be 2 5 ++ be 6 70264800 ++ be 6 3333 ++ be 1 4 ++ be 2 40))) staged
    t.exch.state = .staging { staging68 with
      expected := 6, received := 5, sum := 1239419, staging := staging68.staging ++ [⟨3333, 70264800, 5, .unbind 40⟩] } := by
  decide +kernel

/-- 6.8 before the close. -/
def closing : StagingCtx :=
  { staging68 with expected := 6, received := 5, sum := 1334334, staging := staging68.staging ++ [⟨3333, 70264800, 5, .unbind 40⟩] }

/-- 6.8: the close passes; with the sum 932,217 the batch is discarded. -/
theorem test_exch_close :
    let s := { night with exch := ⟨.staging closing, 77, []⟩ }
    (after (.exchClose (message .uplink router (be 4 78 ++ be 2 5 ++ be 4 1334334))) s).exch.state =
      .committing ⟨78, 5, 1, 0, [2], closing.staging⟩ ∧
    (after (.exchClose (message .uplink router (be 4 78 ++ be 2 5 ++ be 4 932217))) s).exch.state = .idle := by decide +kernel

/-- R107: 60 s of silence. -/
theorem test_quiet_timeout :
    (after .quietTimeout { staged with now := 60000 }).exch.state = .idle ∧
    (after .quietTimeout { staged with now := 59999 }).exch.state = .staging staging68 := by decide +kernel

/-- 6.8: the commit in its three steps: the entries' stamps in list order, and batch 78 committed. -/
theorem test_commit_change :
    let s := { night with exch := ⟨.committing ⟨78, 5, 1, 0, [2], closing.staging⟩, 77, []⟩ }
    let t := after .commitChange (after .commitChange (after .commitChange s))
    t.sched.entries.map (·.stamp) = [6, 7, 8, 5] ∧ t.exch.state = .idle ∧ t.exch.lastBatch = 78 := by decide +kernel

/-- 7.9 at 9,000: the third lost probe makes FALLBACK, and probe 110 follows at once. -/
theorem test_probe_timer :
    let s := { branch with
      now := 9000, uplink := ⟨.degraded, false, 110, some ⟨109, 8000, false⟩, none, some 8000, 0, 0, 2, none, []⟩ }
    (after .probeTimer s).uplink.state = .fallback ∧ (after .probeTimer s).uplink.probe = some ⟨110, 9000, false⟩ ∧
    (after .probeTimer s).uplink.lostRun = 0 := by decide +kernel

/-- 7.9 at 2,180: the second slow echo makes DEGRADED; a round trip of 140 ms is still good in UP. -/
theorem test_link_echo :
    let s : Nat → State := fun now => { branch with
      now := now, uplink := ⟨.up, false, 104, some ⟨103, 2000, false⟩, none, some 2000, 1, 0, 0, none, []⟩ }
    let m := message .uplink router (be 4 103 ++ be 4 2000)
    (after (.linkEcho m) (s 2180)).uplink.state = .degraded ∧ (after (.linkEcho m) (s 2140)).uplink.state = .up ∧
    (after (.linkEcho m) (s 2140)).uplink.history = [140] := by decide +kernel

/-- 8.6, last paragraph: the step that brings an age of 300 to 301 removes a LEARNED entry; a LOADED one stays. -/
theorem test_ageing_step :
    let s := { branch with stations := ⟨[(till5.toNat, ⟨till5, .till, .tillStation, false, 300, false⟩),
      (base2.toNat, ⟨base2, .label, .baseStation 2, true, 300, false⟩)], 0⟩ }
    (after .ageingStep s).stations.table = [(base2.toNat, ⟨base2, .label, .baseStation 2, true, 301, false⟩)] := by decide +kernel

/-- R170, R171: the lease ends, the entry goes with it, the address cools off for the full time. -/
theorem test_guest_second :
    let s := { staffed with guest := { staffed.guest with table := [(phone.toNat, ⟨phone, 1, 4000, 0, 0, 0, 0⟩)], coolOff := [(router, 1)] } }
    let t := after .guestSecondStep s
    t.guest.table = [] ∧ t.guest.coolOff = [(phone, 600)] ∧ Tbl.get t.stations.table phone.toNat = none := by decide +kernel

/-- 10.6, tick 998: the aggregate gains 2,500, each client 250. -/
theorem test_bucket_refill :
    let t := after .bucketRefill { staffed with guest := { staffed.guest with level := 0 } }
    t.guest.level = 2500 ∧ t.guest.table.map (·.2.level) = [4250] := by decide +kernel

/-- R162: the URGENT frame goes before the STORE frame. -/
theorem test_transmit_end :
    let t := after (.transmitEnd .office) busyOffice
    (t.port .office).tx = some (urgentFrame 3) ∧ t.pool.free = 8188 := by decide +kernel

/-- R161: a held JOURNAL-SEND is admitted when its cells suffice. -/
theorem test_reoffer :
    let m := build branch .uplink 0x0A00000000F0 .journalSend (List.replicate 32 0)
    let s := { branch with journal := { branch.journal with held := some m }, pool := { branch.pool with free := 1 } }
    (after (.heldMessageReoffer allGenerators) s).journal.held = none ∧
    (after (.heldMessageReoffer allGenerators) s).pool.free = 0 := by decide +kernel

/-- 11.4, tick 6: two live asks join one. -/
theorem test_occupancy_sample :
    let c : CounterMode → Counter := fun m => ⟨.occupancy .askTable m, 6, false, false⟩
    let a : LiveAsk := ⟨till5, 1, 1, .count, 1, 0⟩
    let s := { branch with
      till := { branch.till with asks := [(0, a), (1, a), (2, a)] }
      mon := { branch.mon with counters := [c .plain, c (.level 2 false), c (.edge 2 false), c (.level 2 true)] } }
    (after .occupancySample s).mon.counters.map (fun c => (c.value, c.lastMet)) = [(9, false), (7, false), (7, true), (6, false)] := by
  decide +kernel

/-- R190: the ninth request is lost into the overflow figure. -/
theorem test_mgmt_req :
    let m := message .office station4 (be 2 7 ++ be 1 0x60 ++ be 1 10)
    let s := { staffed with mgmt := { staffed.mgmt with requests := List.replicate 8 (headRequest 1 []) } }
    (after (.mgmtReq m) staffed).mgmt.requests.map (·.tag) = [7] ∧ (after (.mgmtReq m) s).mgmt.overflow = 1 := by decide +kernel

/-- The result byte of the MGMT-ANS that OFFICE sends (13.6). -/
def result (s : State) : Nat := field (sending .office s) 7 1

theorem test_item_read :
    result (after .itemRead (asked 0x01 (be 6 1111) opening)) = 1 ∧ result (after .itemRead (asked 0x01 (be 6 1112) opening)) = 3 ∧
    result (after .itemRead (asked 0x01 (be 6 0) opening)) = 5 := by decide +kernel

/-- 4.9 at 0: the write to base 229 moves the version and owes both labels. -/
theorem test_item_write :
    let s := { shelf with
      items := [(slotOf 5012345678900 0, { item49 with fields := { item49.fields with base := 249 }, version := 3 })]
      disp := ⟨[], 0, 512, 0, none⟩ }
    let t := after .itemWrite (asked 0x02 (be 6 5012345678900 ++ itemFieldBytes { item49.fields with base := 229 }) s)
    (lookupItem t.items 5012345678900).map (·.version) = some 4 ∧
    t.disp.queue.map (fun e => (e.label, e.high, (e.flight.map (·.tag)).getD 0)) = [(200, false, 512), (201, false, 513)] := by
  decide +kernel

theorem test_item_delete :
    let t := after .itemDelete (asked 0x03 (be 6 5012345678900) shelf)
    t.items = [] ∧ (t.label 200).bound = none ∧ (t.entryOf 201).map (fun e => (e.flight.map (·.rebound)).getD false) = some true := by
  decide +kernel

/-- 13.6: the radio identity stands at offset 4 of the answer's frame payload after header, tag, code and result. -/
theorem test_label_read : field (sending .office (after .labelRead (asked 0x10 (be 2 200) shelf))) 8 3 = 900 ∧
    result (after .labelRead (asked 0x10 (be 2 32768) shelf)) = 5 := by decide +kernel

/-- R83: a label given a radio identity owes an update at once, pushed BLANK. -/
theorem test_label_write :
    let t := after .labelWrite (asked 0x11 (be 2 7 ++ be 3 77 ++ be 1 2 ++ be 1 0 ++ be 6 0) staffed)
    (t.label 7).radio = 77 ∧ ((t.entryOf 7).bind (·.flight)).map (·.snapshot) = some .blank ∧ result t = 1 := by decide +kernel

/-- R72, R74: identity 0 alone leaves the WAITING entry; with a new base station number too, the attempt removes it. -/
theorem test_label_identity_zero :
    let f : Nat → List Byte := fun base => be 2 202 ++ be 3 0 ++ be 1 base ++ be 1 0 ++ be 6 0
    (after .labelWrite (asked 0x11 (f 2) queued)).disp = queued.disp ∧
    (after .labelWrite (asked 0x11 (f 3) queued)).disp.queue.map (·.label) = [201, 200] := by decide +kernel

theorem test_label_repush :
    let s := { shelf with labels := [(201, ⟨901, 2, none, .neverShown, false, false⟩)], disp := ⟨[], 0, 0, 0, none⟩ }
    ((after .labelRepush (asked 0x12 (be 2 201) s)).label 201).reachable = true ∧
    result (after .labelRepush (asked 0x12 (be 2 5) s)) = 3 := by decide +kernel

theorem test_station_read : result (after .stationRead (asked 0x20 (be 6 0x0A0000000105) staffed)) = 1 ∧
    result (after .stationRead (asked 0x20 (be 6 0x0A0000000106) staffed)) = 3 := by decide +kernel

/-- R145: a BASE-STATION is refused on OFFICE. -/
theorem test_station_write :
    let t := after .stationWrite (asked 0x21 (be 6 0x0A0000000209 ++ be 1 2 ++ be 1 2 ++ be 1 3) staffed)
    (Tbl.get t.stations.table 0x0A0000000209).map (fun e => (e.cls, e.loaded)) = some (.baseStation 3, true) ∧
    result (after .stationWrite (asked 0x21 (be 6 0x0A0000000209 ++ be 1 4 ++ be 1 2 ++ be 1 3) staffed)) = 5 := by decide +kernel

theorem test_station_delete :
    let t := after .stationDelete (asked 0x22 (be 6 0x0A0000000377) staffed)
    Tbl.get t.stations.table phone.toNat = none ∧ t.guest.table = [] ∧ t.guest.coolOff = [] := by decide +kernel

/-- R97: the count, then the entry from its item code on. -/
theorem test_pending_read :
    let t := after .pendingRead (asked 0x30 (be 2 0) opening)
    field (sending .office t) 8 2 = 1 ∧ field (sending .office t) 10 6 = 1111 := by decide +kernel

theorem test_pending_cancel :
    (after .pendingCancel (asked 0x31 (be 6 1111 ++ be 6 70178400 ++ be 1 1) opening)).sched.entries = [] ∧
    result (after .pendingCancel (asked 0x31 (be 6 1111 ++ be 6 70178400 ++ be 1 2) opening)) = 3 := by decide +kernel

theorem test_setting_read : field (sending .office (after .settingRead (asked 0x40 (be 1 0x14) branch))) 8 6 = 12288 := by
  decide +kernel

/-- R193: an ask timeout of 11 s is clamped to 10; R150: PERMIT to GUEST→UPLINK is taken as SHAPED. -/
theorem test_setting_write :
    (after .settingWrite (asked 0x41 (be 1 0x10 ++ be 6 11) branch)).settings.askTimeout = 10 ∧
    result (after .settingWrite (asked 0x41 (be 1 0x10 ++ be 6 11) branch)) = 2 ∧
    result (after .settingWrite (asked 0x41 (be 1 0x3D ++ be 6 1) branch)) = 2 := by decide +kernel

/-- 5.9 at 06:05:00: CLOCK-SET day 812, 04:30:00 opens the window. -/
theorem test_clock_set :
    let t := after .clockSet (asked 0x42 (be 2 812 ++ be 4 16200) { opening with clock := ⟨true, 812, 21900, 0⟩ })
    t.clock = ⟨true, 812, 16200, 0⟩ ∧ t.windowIn = true ∧ result t = 1 := by decide +kernel

theorem test_uplink_force :
    let t := after .uplinkForce (asked 0x43 (be 1 1) branch)
    t.uplink.state = .fallback ∧ t.uplink.force = true ∧
    (after .uplinkForce (asked 0x43 (be 1 0) t)).uplink.state = .fallback := by decide +kernel

/-- 11.4: counter 2 on ASK-TABLE, EDGE, threshold 2; a threshold of 0 is refused. -/
theorem test_counter_program :
    let t := after .counterProgram (asked 0x50 ([2, 0x41, 0, 0, 0, 0, 3, 0, 2, 0]) branch)
    (t.mon.counters.map (·.source))[2]? = some (.occupancy .askTable (.edge 2 false)) ∧
    result (after .counterProgram (asked 0x50 ([2, 0x41, 0, 0, 0, 0, 3, 0, 0, 0]) branch)) = 5 := by decide +kernel

/-- R187: nothing is answered before the next sample instant, which answers DONE with number 1. -/
theorem test_counter_snapshot :
    let t := after .counterSnapshot (asked 0x51 [] branch)
    (t.port .office).tx = none ∧ result (after .occupancySample t) = 1 ∧ field (sending .office (after .occupancySample t)) 8 2 = 1 := by
  decide +kernel

theorem test_counter_read : result (after .counterRead (asked 0x52 [] branch)) = 1 := by decide +kernel

/-- R47: the ask timeout ends the section TILL; R192: there are ten sections. -/
theorem test_state_read : field (sending .office (after .stateRead (asked 0x60 (be 1 1) branch))) 17 1 = 3 ∧
    result (after .stateRead (asked 0x60 (be 1 11) branch)) = 5 := by decide +kernel

/-- 12.7 at 9,000: one notice removed, the numbers go on. -/
theorem test_notice_clear :
    let t := after .noticeClear (asked 0x61 [] (raiseNotice (.journalHigh 12288) branch))
    t.mgmt.notices = [] ∧ field (sending .office t) 8 2 = 1 ∧ t.mgmt.nextNotice = 2 := by decide +kernel

theorem test_reset_full :
    let t := after .resetFull (asked 0x62 (be 1 1) staffed)
    t.stations.table = [] ∧ t.linkIsUp .office = true ∧ result t = 1 ∧ t.mgmt.firstSender = none := by decide +kernel

/-- R154, R137: LOADED entries stay, and the uplink begins again in FALLBACK. -/
theorem test_reset_traffic :
    let t := after .resetTraffic (asked 0x62 (be 1 2) staffed)
    t.stations.table.map (·.2.addr) = [base2] ∧ t.uplink.state = .fallback := by decide +kernel

theorem test_unknown_command : result (after .unknownCommand (asked 0x63 [] branch)) = 7 := by decide +kernel

/-- R197: a pulse of 4 ms ends in a gap of 4 ms. -/
theorem test_alert_pulse :
    let s : Nat → AlertPhase → State := fun now a => { branch with
      now := now, settings := { branch.settings with alertMode := .pulse, pulseWidth := 8 }, mgmt := { branch.mgmt with alert := a, owed := 2 } }
    (after .alertPulseEnd (s 4 (.pulsing 0 4))).mgmt.alert = .gap 4 4 ∧
    (after .alertPulseEnd (s 8 (.gap 4 4))).mgmt.alert = .pulsing 8 8 ∧ (after .alertPulseEnd (s 8 (.gap 4 4))).mgmt.owed = 1 := by
  decide +kernel

/-- R198: lit at 29 ms, dark at 30 ms. -/
theorem test_port_lamp :
    let s : Nat → State := fun now => setPort .till { upPort with activity := some 0 } { branch with now := now }
    (after (.portLampExpiry .till) (s 29)).lit (.port .till) = true ∧
    (after (.portLampExpiry .till) (s 30)).lit (.port .till) = false := by decide +kernel

/-! ### For every obligation with hypotheses, a state and operands that meet them -/

/-- One command due: the due part of an empty queue; nothing due at reset: the tick part, with each count on either side of 999. -/
theorem witness_EmptyQueueStep :
    (beforeReferral.pending = [] ∧ beforeReferral.dueNow ≠ []) ∧ (State.reset.pending = [] ∧ State.reset.dueNow = []) ∧
    (let s : Nat → State := fun n => { State.reset with
        clock := ⟨true, 1, 1, n⟩, stations := ⟨[], n⟩, guest := { State.reset.guest with sinceStep := n } }
     (s 998).dueNow = [] ∧ (s 999).dueNow = [] ∧ (s 999).clock.isHeld = false) := by decide +kernel

theorem witness_WhoWritesWhat : ∃ t, Sys2Proof.Machine.exec .pacingRefill branch = .next t := ⟨_, rfl⟩

/-- A part with frames queued and in transmission, a port whose link is down, a message held, one pending entry, guests and stations. -/
def living : State :=
  { staffed with
    sched := night.sched
    till := { staffed.till with backlog := [build staffed .till till5 .priceAns (List.replicate 27 0)] }
    pool := (linkLost .label (setPort .office (busyOffice.port .office) { staffed with pool := { staffed.pool with free := 8186 } })).pool
    pending := [.transmitEnd .office] }

theorem witness_EveryStepKeepsTheCells : CellsHold living ∧ ∃ t, Sys2Proof.Machine.step living = .next t := by
  refine ⟨⟨by decide +kernel, by decide +kernel, fun p => ?_, by decide +kernel⟩, _, rfl⟩
  cases p <;> refine ⟨by decide +kernel, fun h => ?_⟩ <;> first | rfl | exact absurd h (by decide)

theorem witness_EveryStepKeepsThePendingList : PendingHolds living ∧ ∃ t, Sys2Proof.Machine.step living = .next t :=
  ⟨⟨by decide, by simp [living, night], by decide⟩, _, rfl⟩

theorem staffed_guests : GuestsHold staffed := by
  refine ⟨by decide, by decide, by decide, by decide, fun k => ?_⟩
  by_cases h : k = phone.toNat
  · subst h
    exact ⟨fun _ => rfl, fun _ => ⟨_, rfl, rfl⟩⟩
  · have hg : Tbl.get staffed.guest.table k = none := by
      simp [staffed, Tbl.get, Ne.symm h]
    rw [hg]
    refine ⟨fun ⟨e, he, hc⟩ => ?_, fun hn => by cases hn⟩
    simp only [staffed, Tbl.get] at he
    (repeat' split at he) <;> first
      | exact absurd (Eq.symm ‹phone.toNat = k›) h
      | (cases he; exact absurd hc (by decide))
      | cases he

theorem witness_EveryStepKeepsGuestsAndStations : GuestsHold living ∧ ∃ t, Sys2Proof.Machine.step living = .next t :=
  ⟨staffed_guests, _, rfl⟩

/-- The item of 4.9 and its two labels, bound to it and in its list. -/
theorem shelf_bindings : BindingsHold shelf := by
  refine ⟨by decide, fun p hp => ?_, by decide, fun n c => ?_⟩
  · simp only [shelf, List.mem_singleton] at hp
    subst hp
    exact ⟨by decide, ⟨0, by decide, rfl⟩, by decide, by decide⟩
  · by_cases hc : c = 5012345678900
    · subst hc
      have hl : lookupItem shelf.items 5012345678900 = some item49 := by decide +kernel
      rw [hl]
      by_cases h1 : n = 200
      · subst h1
        exact ⟨fun _ => ⟨item49, rfl, by decide⟩, fun _ => by decide +kernel⟩
      · by_cases h2 : n = 201
        · subst h2
          exact ⟨fun _ => ⟨item49, rfl, by decide⟩, fun _ => by decide +kernel⟩
        · simp [State.label, labelAt, shelf, Tbl.get, Ne.symm h1, Ne.symm h2, unusedLabel, item49, h1, h2]
    · have hl : lookupItem shelf.items c = none := by
        have hs (w : Nat) : slotHit shelf.items c w = none := by
          have hi : item49.code ≠ c := fun h => hc (h.symm.trans rfl)
          simp only [slotHit, shelf, Tbl.get]
          split
          · next r h =>
            split at h
            · injection h with h
              subst h
              simp [hi]
            · cases h
          · rfl
        simp [lookupItem, findItem, hs]
      rw [hl]
      refine ⟨fun h => ?_, fun ⟨_, h, _⟩ => by cases h⟩
      simp only [State.label, labelAt, shelf, Tbl.get] at h
      (repeat' split at h) <;> simp_all [unusedLabel]

theorem witness_EveryStepKeepsTheBindings : BindingsHold shelf ∧ ∃ t, Sys2Proof.Machine.step shelf = .next t :=
  ⟨shelf_bindings, _, rfl⟩

/-- 4.9 at 2 s: two pushes in flight at base station 2, tags 512 and 513; the step carries out a LABEL_RESULT. -/
theorem witness_EveryStepKeepsTheLabelQueue :
    let s : State := { shelf with pending := [.labelResult (message .label base2 (be 2 512 ++ be 1 1))] }
    LabelQueueHolds s ∧ ∃ t, Sys2Proof.Machine.step s = .next t :=
  ⟨by unfold LabelQueueHolds; decide +kernel, _, rfl⟩

theorem witness_EveryStepKeepsTheSizes : SizesHold living ∧ ∃ t, Sys2Proof.Machine.step living = .next t :=
  ⟨by unfold SizesHold; decide +kernel, _, rfl⟩

/-- 1.1, at the ends: every promotion kind, the whole percentage, each reference quantity. -/
theorem witness_ShelfPrices :
    (each 349 (.percent 10000)).promo = .percent 10000 ∧ (each 349 (.fixed 9999999)).promo = .fixed 9999999 ∧
    (each 0 .absent).promo = .absent ∧ (each 199 (.multibuy 2 0)).promo = .multibuy 2 0 ∧ (each 199 .absent).mode = .each ∧
    ((weighed 1299 1).mode = .weighed ∧ (weighed 1299 1).refQuantity = 1) ∧ (weighed 1299 1000).refQuantity = 1000 ∧
    (weighed 1299 100).refQuantity = 100 := by decide

/-- Case F: label 12 is in the honour set. -/
theorem witness_HonouredQuote :
    let labels : SMap LabelRec := [(12, ⟨5, 0, some 1, .showing ⟨349, 349, .each, .multibuy 2 600, 7⟩, true, false⟩)]
    let r : ItemRec := ⟨1, { each 379 .absent with honour := true }, 8, [12]⟩
    r.fields.honour = true ∧ 12 ∈ r.labels ∧ (labelAt labels 12).display = .showing ⟨349, 349, .each, .multibuy 2 600, 7⟩ ∧
      (7 : Nat) ≠ r.version ∧ SaleMode.each = r.fields.mode := by decide

/-- Both kinds, a mismatch, and quantities 0, at the maximum and above it. -/
theorem witness_ExtendedPrice :
    ((each 5 .absent).mode = .each ∧ (weighed 5 1).mode = .weighed) ∧ ¬(9999 < 9999) ∧ 9999 < 10000 ∧
    ¬((each 5 .absent).mode = .weighed) := by decide

theorem witness_FullReset : Takes (asked 0x62 (be 1 1) staffed) (headRequest 0x62 (be 1 1)) 0x62 ∧ field (be 1 1) 0 1 = 1 ∧
    be 1 1 ≠ [] ∧ (asked 0x62 (be 1 1) staffed).linkIsUp .office = true ∧
    (linkLost .office (asked 0x62 (be 1 1) staffed)).linkIsUp .office = false := ⟨asked_takes _ _ _ rfl, by decide +kernel⟩

/-- The kinds 0 and 3, on either side of the two listed, and no kind at all. -/
theorem witness_FullReset_refused : (∀ f ∈ [be 1 0, be 1 3, []], Takes (asked 0x62 f staffed) (headRequest 0x62 f) 0x62) ∧
    (∀ f ∈ [be 1 0, be 1 3], field f 0 1 ≠ 1 ∧ field f 0 1 ≠ 2) := ⟨fun f _ => asked_takes 0x62 f staffed rfl, by decide⟩

theorem witness_FullReset_down : Takes (linkLost .office (asked 0x62 (be 1 1) staffed)) (headRequest 0x62 (be 1 1)) 0x62 :=
  ⟨rfl, rfl, rfl⟩

/-- With a batch open, with one committing, and with a WAITING entry before two IN-FLIGHT ones, the later sent first in the list. -/
theorem witness_TrafficReset :
    Takes (asked 0x62 (be 1 2) staged) (headRequest 0x62 (be 1 2)) 0x62 ∧ field (be 1 2) 0 1 = 2 ∧ be 1 2 ≠ [] ∧
    Takes (asked 0x62 (be 1 2) { night with exch := ⟨.committing ⟨78, 5, 1, 0, [2], []⟩, 77, []⟩ }) (headRequest 0x62 (be 1 2)) 0x62 ∧
    Takes (asked 0x62 (be 1 2) queued) (headRequest 0x62 (be 1 2)) 0x62 ∧ (queued.disp.queue.map (·.label)).Nodup ∧
    (∀ e ∈ queued.disp.queue, (queued.label e.label).radio ≠ 0) :=
  ⟨asked_takes _ _ _ rfl, by decide, by decide, asked_takes _ _ _ rfl, asked_takes _ _ _ rfl, by decide, by decide⟩

/-- R84: the entries after RESET TRAFFIC, those sent before behind the one that waited, in order of sending; both are HIGH now (R67),
and the window of 1 lets the first go out again. -/
theorem test_reset_traffic_requeues :
    let t := after .resetTraffic (asked 0x62 (be 1 2) queued)
    t.disp.queue.map (fun e => (e.label, e.attempts, e.flight.isSome)) = [(202, 2, false), (200, 0, true), (201, 1, false)] ∧
    t.labels = queued.labels := by decide +kernel

/-- On TILL; on P0 with and without a head-office address. -/
theorem witness_LinkUpAndDamagedFrame :
    (linkLost .till branch).linkIsUp .till = false ∧
    ((linkLost .uplink branch).linkIsUp .uplink = false ∧ (linkLost .uplink branch).settings.headOffice ≠ 0) ∧
    (State.reset.linkIsUp .uplink = false ∧ State.reset.settings.headOffice = 0) ∧
    branch.linkIsUp .till = true := by decide +kernel

/-- A port with frames; P0; a port with an answer held for it; P2 with a push held for it. -/
theorem witness_LinkDown : busyOffice.linkIsUp .office = true ∧ busyOffice.linkIsUp .uplink = true ∧ busyOffice.disp.held = none ∧
    (let m := build branch .office station4 .mgmtAns []
     let s : State := { branch with mgmt := { branch.mgmt with outbox := [⟨m, none⟩] } }
     s.linkIsUp .office = true ∧ m ∈ s.heldMessages ∧ m.port = .office) ∧
    (let m := build shelf .label base2 .labelPush []
     let s : State := { shelf with disp := { shelf.disp with held := some (513, m) } }
     s.linkIsUp .label = true ∧ s.disp.held = some (513, m) ∧ m.port = .label) := by decide +kernel

/-- R161: a link loss takes the messages held for its port with it, and one for a port whose link is down is never held; one for
another port waits on. -/
theorem test_held_for_a_lost_link :
    let m : Port → OutItem := fun p => ⟨build branch p station4 .mgmtAns [], none⟩
    let s : State := { branch with mgmt := { branch.mgmt with outbox := [m .office, m .uplink] } }
    (after (.linkDown .office false) s).mgmt.outbox = [m .uplink] ∧
    (sendOut (m .till) (linkLost .till s)).mgmt.outbox = [m .office, m .uplink] ∧
    (sendOut (m .till) s).mgmt.outbox = [m .office, m .uplink, m .till] := by decide +kernel

theorem witness_TransmitEnd : (busyOffice.port .office).tx = some (guestFrame 2) ∧ busyOffice.linkIsUp .office = true := by
  decide +kernel

/-- Each class at its limit: exactly 512 cells left, a full share of STORE cells, 1,024 GUEST cells; and one cell less free. And a
generated message of one cell: the link down; exactly one cell free; none free. -/
theorem witness_AdmissionAndOffers :
    let free : Nat → State := fun n => { branch with pool := { branch.pool with free := n } }
    let store (n : Nat) : State := setPort .till { upPort with store := List.replicate n (storeFrame 8) } (free 8192)
    let m := build branch .till till5 .priceAns (List.replicate 27 0)
    let guest (n : Nat) : State := setPort .guest { upPort with guest := List.replicate n (guestFrame 8) } (free 8192)
    (free 520).linkIsUp .till = true ∧
    ((urgentFrame 8).cells ≤ (free 8).pool.free ∧ ¬((urgentFrame 8).cells ≤ (free 7).pool.free)) ∧
    ((storeFrame 8).cells + 512 ≤ (free 520).pool.free ∧ ¬((storeFrame 8).cells + 512 ≤ (free 519).pool.free)) ∧
    (((store 255).port .till).classCells .store + (storeFrame 8).cells = 2048 ∧
      ¬(((store 256).port .till).classCells .store + (storeFrame 8).cells ≤ 2048)) ∧
    ((guest 127).pool.guestCells + (guestFrame 8).cells = 1024 ∧ ¬((guest 128).pool.guestCells + (guestFrame 8).cells ≤ 1024)) ∧
    (linkLost .till branch).linkIsUp .till = false ∧ m.port = .till ∧ (free 1).linkIsUp m.port = true ∧
    cellsFor (frameLength m.frame) = 1 ∧ (free 1).pool.free = 1 ∧ (free 0).pool.free = 0 := by decide +kernel

/-- OFFICE to TILL, PERMIT, with frames of the least and the greatest length; and with the cell at DENY. -/
theorem witness_OrdinaryFrameForwarded :
    Receives .office false staffed ∧ (frameLength (frame station4 till5 64) = 64 ∧ frameLength (frame station4 till5 1522) = 1522) ∧
    GoodSource station4 staffed ∧ Known .office station4 ⟨station4, .office, .officeStation, false, 40, false⟩ staffed ∧
    isGroup till5 = false ∧ till5 ≠ staffed.settings.stationAddr ∧
    Known .till till5 ⟨till5, .till, .tillStation, false, 12, false⟩ staffed ∧
    policyCell staffed.settings.policy .office .till ≠ .deny ∧ policyCell staffed.settings.policy .till .label = .deny ∧
    Known .label base2 ⟨base2, .label, .baseStation 2, true, 7, false⟩ staffed := by
  unfold Receives GoodSource Known
  decide +kernel

/-- A till's frame to the router in each uplink state; a guest's with exactly the bytes it needs. -/
theorem witness_GatesToUplink :
    (Receives .till false staffed ∧ GoodSource till5 staffed ∧
      Known .till till5 ⟨till5, .till, .tillStation, false, 12, false⟩ staffed ∧ isGroup router = false ∧
      router ≠ staffed.settings.stationAddr ∧ Tbl.get staffed.stations.table router.toNat = none ∧
      policyCell staffed.settings.policy .till .uplink ≠ .deny ∧ staffed.uplink.state = .up) ∧
    (Receives .guest false staffed ∧ GoodSource phone staffed ∧
      Known .guest phone ⟨phone, .guest, .guestClient, false, 3, false⟩ staffed ∧
      Tbl.get staffed.guest.table phone.toNat = some ⟨phone, 3600, 4000, 0, 0, 0, 0⟩ ∧
      policyCell staffed.settings.policy .guest .uplink ≠ .deny ∧ staffed.guest.rate ≠ 0 ∧
      frameLength (frame phone router 1522) ≤ staffed.guest.level ∧ ¬(frameLength (frame phone router 1522) ≤ 1521)) := by
  unfold Receives GoodSource Known
  decide +kernel

theorem witness_GatesToUplink_held_back :
    (∀ u ∈ [UplinkState.degraded, .fallback, .recovering],
      Receives .till false { staffed with uplink := { staffed.uplink with state := u } } ∧
      Known .till till5 ⟨till5, .till, .tillStation, false, 12, false⟩ { staffed with uplink := { staffed.uplink with state := u } }) := by
  unfold Receives Known
  decide +kernel

/-- An OFFICE station's frame to itself's segment, to TILL, to an unknown address, and to all stations; a till's and a guest's to all. -/
theorem witness_FilteredSentAndCopied :
    (∀ p ∈ [Seg.till, .guest, .office], Receives p false staffed) ∧
    (∀ n ∈ [64, 1522], frameLength (frame station4 till5 n) = n) ∧ GoodSource till5 staffed ∧ GoodSource phone staffed ∧
    GoodSource station4 staffed ∧ Known .office station4 ⟨station4, .office, .officeStation, false, 40, false⟩ staffed ∧
    Known .till till5 ⟨till5, .till, .tillStation, false, 12, false⟩ staffed ∧
    Known .guest phone ⟨phone, .guest, .guestClient, false, 3, false⟩ staffed ∧
    (till5 ≠ staffed.settings.stationAddr ∧ station4 ≠ staffed.settings.stationAddr ∧ router ≠ staffed.settings.stationAddr ∧
      broadcast ≠ staffed.settings.stationAddr) ∧
    isGroup till5 = false ∧ isGroup station4 = false ∧ isGroup router = false ∧ isGroup broadcast = true ∧
    (Tbl.get staffed.stations.table station4.toNat).map (·.seg) = some .office ∧
    (Tbl.get staffed.stations.table till5.toNat).map (·.seg) = some .till ∧
    Tbl.get staffed.stations.table router.toNat = none ∧ policyCell staffed.settings.policy .office .till = .permit ∧
    policyCell staffed.settings.policy .office .guest = .deny ∧ (Tbl.get staffed.stations.table phone.toNat).map (·.seg) = some .guest := by
  unfold Receives GoodSource Known
  decide +kernel

/-- The router's frame to all stations, to an unknown address, to one of P0, to a till and a base station, one permitted and one
denied, and to a guest with exactly the bytes it needs, and one less. -/
theorem witness_FramesFromUplink :
    let s : Nat → State := fun n => { staffed with
      stations := ⟨(router.toNat + 1, ⟨BitVec.ofNat 48 (router.toNat + 1), .uplink, .other, true, 0, false⟩) :: staffed.stations.table, 0⟩
      guest := { staffed.guest with table := [(phone.toNat, ⟨phone, 3600, n, 0, 0, 0, 0⟩)] } }
    Receives .uplink false (s 1) ∧ GoodSource router (s 1) ∧ (∀ n ∈ [64, 1522], frameLength (frame router phone n) = n) ∧
    (isGroup till5 = false ∧ isGroup base2 = false ∧ isGroup phone = false ∧ isGroup router = false) ∧
    (till5 ≠ (s 1).settings.stationAddr ∧ base2 ≠ (s 1).settings.stationAddr ∧ phone ≠ (s 1).settings.stationAddr ∧
      router ≠ (s 1).settings.stationAddr) ∧
    (isGroup broadcast = true ∧ broadcast ≠ (s 1).settings.stationAddr) ∧ Tbl.get (s 1).stations.table router.toNat = none ∧
    Known .uplink (BitVec.ofNat 48 (router.toNat + 1)) ⟨BitVec.ofNat 48 (router.toNat + 1), .uplink, .other, true, 0, false⟩ (s 1) ∧
    Known .office station4 ⟨station4, .office, .officeStation, false, 40, false⟩ (s 1) ∧
    Known .label base2 ⟨base2, .label, .baseStation 2, true, 7, false⟩ (s 1) ∧
    Known .guest phone ⟨phone, .guest, .guestClient, false, 3, false⟩ (s 1) ∧
    policyCell (s 1).settings.policy .uplink .office = .permit ∧ policyCell (s 1).settings.policy .uplink .label = .deny ∧
    policyCell (s 1).settings.policy .uplink .guest ≠ .deny ∧
    Tbl.get (s 64).guest.table phone.toNat = some ⟨phone, 3600, 64, 0, 0, 0, 0⟩ ∧ 64 ≤ 64 ∧ 63 < 64 := by
  unfold Receives GoodSource Known
  decide +kernel

/-- The LEARNED OFFICE station heard on TILL, LABEL and GUEST, the phone heard on OFFICE; on GUEST in cool-off, with the guest table
full and with one place left; the LOADED base station heard on OFFICE, with and without its mark; a source that is a group address. -/
theorem witness_MovedAndMisplacedSources :
    let office : Station := ⟨station4, .office, .officeStation, false, 40, false⟩
    let guests : Nat → SMap GuestRec := fun n => (List.range n).map (fun i => (i, GuestRec.mk (BitVec.ofNat 48 i) 1 0 0 0 0 0))
    (∀ p ∈ [Seg.till, .label, .guest, .office], Receives p false staffed) ∧
    GoodSource phone staffed ∧ GoodSource station4 staffed ∧ GoodSource base2 staffed ∧ ¬GoodSource broadcast staffed ∧
    (∀ n ∈ [64, 1522], frameLength (frame station4 till5 n) = n) ∧ Known office.seg station4 office staffed ∧ office.seg ≠ .till ∧
    office.seg ≠ .guest ∧ office.cls ≠ .guestClient ∧
    Known .guest phone ⟨phone, .guest, .guestClient, false, 3, false⟩ staffed ∧ isGroup broadcast = true ∧
    broadcast ≠ staffed.settings.stationAddr ∧ staffed.stations.table.length ≤ 2048 ∧
    staffed.guest.coolOff.any (fun c => c.1 == station4) = false ∧ [(station4, 600)].any (fun c => c.1 == station4) = true ∧
    512 ≤ (guests 512).length ∧ (guests 511).length < 512 ∧
    (∀ b ∈ [true, false], Known .label base2 ⟨base2, .label, .baseStation 2, true, 7, b⟩
      { staffed with stations := ⟨[(base2.toNat, ⟨base2, .label, .baseStation 2, true, 7, b⟩)], 0⟩ }) := by
  unfold Receives GoodSource Known
  decide +kernel

/-- A new source on each of the three segments, with the table one short of full. A new phone: admitted; turned away in cool-off;
turned away by a full guest table, and admitted with one place left. -/
theorem witness_NewSources :
    let guests : Nat → SMap GuestRec := fun n => (List.range n).map (fun i => (i, GuestRec.mk (BitVec.ofNat 48 i) 1 0 0 0 0 0))
    (∀ p ∈ [Seg.till, .label, .office], Receives p false branch) ∧ GoodSource till5 branch ∧
    Tbl.get branch.stations.table till5.toNat = none ∧ router ≠ branch.settings.stationAddr ∧
    ((List.range 2047).map (fun n => (n, Station.mk (BitVec.ofNat 48 n) .till .other false 0 false))).length < 2048 ∧
    Tbl.get ((List.range 2047).map (fun n => (n, Station.mk (BitVec.ofNat 48 n) .till .other false 0 false))) till5.toNat = none ∧
    Receives .guest false branch ∧ GoodSource phone branch ∧ Tbl.get branch.stations.table phone.toNat = none ∧
    isGroup broadcast = true ∧ broadcast ≠ branch.settings.stationAddr ∧ branch.guest.coolOff.any (fun c => c.1 == phone) = false ∧
    [(phone, 600)].any (fun c => c.1 == phone) = true ∧ 512 ≤ (guests 512).length ∧ (guests 511).length < 512 := by
  unfold Receives GoodSource
  decide +kernel

/-- An ask and a sale record of 240 bytes; the intake queue one short of full, and full. A request with 7 waiting, and with 8. -/
theorem witness_TillAndManagementIntake :
    let ask := message .till till5 (askBody 5 0x0A01 4006381333931 2 250)
    let sale := message .till till5 (be 1 9 ++ be 4 77 ++ List.replicate 240 1)
    (Arrives ask .priceAsk staffed ∧ Arrives sale .saleRecord staffed ∧
      Arrives (message .office station4 (be 2 7 ++ be 1 0x60 ++ be 1 10)) .mgmtReq staffed) ∧
    (Known .till till5 ⟨till5, .till, .tillStation, false, 12, false⟩ staffed ∧
      Known .office station4 ⟨station4, .office, .officeStation, false, 40, false⟩ staffed) ∧
    qtyKindOf (field (bodyOf ask) 9 1) = some .grams ∧ sale.bodyLength.toNat ≤ 245 ∧
    (List.replicate 63 (IntakeEntry.mk till5 (.sale 1 1 []))).length < 64 ∧
    ¬((List.replicate 64 (IntakeEntry.mk till5 (.sale 1 1 []))).length < 64) ∧
    (List.replicate 7 (headRequest 1 [])).length < 8 ∧ 8 ≤ (List.replicate 8 (headRequest 1 [])).length := by
  refine ⟨⟨arrives_of ?_, arrives_of ?_, arrives_of ?_⟩, ?_⟩
  case refine_4 => unfold Known; decide +kernel
  all_goals decide +kernel

/-- 2.4 at 4,100 ms: a match with a description to adopt; 3,700 ms: no match; and a match whose code has come to be present. -/
theorem witness_ItemReplyEndsReferral :
    let m := message .uplink router (replyBody 0 43 4006381333931 (each 215 .absent))
    let late := message .uplink router (replyBody 0 42 4006381333931 (each 215 .absent))
    let unknown := message .uplink router (be 1 0 ++ be 1 43 ++ be 6 4006381333931 ++ be 1 2 ++ be 1 0)
    FromHeadOffice m .itemReply referred ∧ FromHeadOffice late .itemReply referred ∧ FromHeadOffice unknown .itemReply referred ∧
    (Tbl.get referred.till.asks (field (bodyOf m) 0 1) = some ⟨0x0A0000000122, 0x0107, 4006381333931, .grams, 250, 3500⟩ ∧
      referred.till.generation 0 = field (bodyOf m) 1 1 ∧ 4006381333931 = field (bodyOf m) 2 6) ∧
    lookupItem referred.items 4006381333931 = none ∧ replyContent (bodyOf m) = .known (each 215 .absent) true ∧
    freeWay referred.items 4006381333931 = some 0 ∧ (each 215 .absent).valid = true ∧ replyContent (bodyOf unknown) = .unknown ∧
    (lookupItem (Tbl.put [] (slotOf 4006381333931 0) ⟨4006381333931, each 1 .absent, 1, []⟩) 4006381333931).isSome = true ∧
    referred.till.generation 0 ≠ field (bodyOf late) 1 1 :=
  ⟨office_of (by decide +kernel) rfl (by decide), office_of (by decide +kernel) rfl (by decide),
    office_of (by decide +kernel) rfl (by decide), by decide +kernel⟩

/-- 3.7: valid at d = 4 of s = 5 (the last SENT record) and at d = 2; not valid one beyond, before the release point, and at 0. -/
theorem witness_JournalAck :
    (∀ n ∈ [105, 103, 106, 100, 0], FromHeadOffice (message .uplink router (be 4 n)) .journalAck sent37) ∧
    seqDistance 101 105 < sent37.journal.sentCount ∧ ¬(seqDistance 101 106 < sent37.journal.sentCount) ∧
    ¬(seqDistance 101 100 < sent37.journal.sentCount) := by
  refine ⟨fun n hn => ?_, by decide +kernel⟩
  simp only [List.mem_cons, List.not_mem_nil, or_false] at hn
  obtain rfl | rfl | rfl | rfl | rfl := hn <;> exact office_of (by decide +kernel) rfl (by decide)

/-- 4.9 at 3; and with the label's radio identity changed since. -/
theorem witness_LabelShown :
    let m := message .label base2 (be 2 512 ++ be 1 1)
    Arrives m .labelResult shelf ∧ Known .label base2 ⟨base2, .label, .baseStation 2, true, 7, false⟩ shelf ∧
    (StationClass.baseStation 2).isBase = true ∧ (shelf.flightOf (field (bodyOf m) 0 2)).map (·.1.label) = some 200 ∧
    field (bodyOf m) 2 1 = 1 ∧ (shelf.label 200).radio = 900 ∧ (shelf.label 200).radio ≠ 899 :=
  ⟨arrives_of (by decide +kernel), by unfold Known; decide +kernel, rfl, by decide +kernel⟩

/-- Push 513 with each outcome, 0 and 5 among them, and a tag of no push; the retry limit at 3 and at 1 for one attempt used; and a
sender that is no base station. -/
theorem witness_LabelFailures :
    let m : Nat → Nat → BranchArrival := fun tag o => message .label base2 (be 2 tag ++ be 1 o)
    let flight : Flight := ⟨513, 2, 901, .price ⟨229, 458, .each, .absent, 4⟩, 0, 1, false, false⟩
    let s : State := { shelf with disp := { shelf.disp with queue := [⟨201, true, false, 0, 1, some flight⟩] } }
    let other : State := { s with
      stations := { s.stations with table := Tbl.put s.stations.table base2.toNat ⟨base2, .label, .other, false, 0, false⟩ } }
    (∀ o ∈ [0, 2, 3, 4, 5], arrivesB (m 513 o) .labelResult s = true ∧ field (bodyOf (m 513 o)) 2 1 = o) ∧
    Known .label base2 ⟨base2, .label, .baseStation 2, true, 7, false⟩ s ∧ (StationClass.baseStation 2).isBase = true ∧
    s.flightOf (field (bodyOf (m 513 2)) 0 2) = some (⟨201, true, false, 0, 1, some flight⟩, flight) ∧
    s.flightOf (field (bodyOf (m 514 2)) 0 2) = none ∧ arrivesB (m 514 2) .labelResult s = true ∧
    (s.label 201).radio ≠ 0 ∧ 0 + 1 < s.settings.retryLimit ∧ 1 ≤ 0 + 1 ∧
    Known .label base2 ⟨base2, .label, .other, false, 0, false⟩ other ∧ StationClass.other.isBase = false ∧
    arrivesB (m 513 2) .labelResult other = true := by
  unfold Known
  decide +kernel

/-- 13.2: LABEL-GAVE-UP carries 2 for RADIO-BUSY and 3 for NO-REPLY, and 0 where there is no last outcome. -/
theorem test_last_outcome :
    [some .radioBusy, some .noReply, none].map (fun o => (noticeFieldBytes (.labelGaveUp 201 901 2 none o)).getLast?) =
      [some 2, some 3, some 0] := by decide

/-- 6.8: the open; the open of the batch last committed. The outbox one short of its limit. -/
theorem witness_ExchangeOpen :
    let m : Nat → BranchArrival := fun b => message .uplink router (be 4 b ++ be 2 5 ++ be 6 70247400)
    FromHeadOffice (m 78) .exchOpen night ∧ FromHeadOffice (m 77) .exchOpen night ∧ night.exch.outbox.length < 7 ∧
    night.exch.state = .idle ∧ night.uplink.state = .up ∧ night.exch.lastBatch < 78 ∧ ¬(night.exch.lastBatch < 77) ∧
    windowAt night.settings.openSecond night.settings.closeSecond (70247400 % 86400) = true ∧ 5 ≤ 8192 - night.sched.entries.length :=
  ⟨office_of (by decide +kernel) rfl (by decide), office_of (by decide +kernel) rfl (by decide), by decide +kernel⟩

/-- Six and seven messages in the outbox; a batch committing; a batch open, before and at the second the window closes. -/
theorem witness_ExchangeOpen_busy :
    let m : Nat → BranchArrival := fun time => message .uplink router (be 4 78 ++ be 2 5 ++ be 6 time)
    let busy : State := { night with exch := ⟨.committing ⟨78, 5, 1, 0, [2], []⟩, 77, []⟩ }
    let answers : Nat → List Msg := fun n => List.replicate n (build night .uplink router .exchAnswer (List.replicate 12 0))
    (FromHeadOffice (m 70247400) .exchOpen staged ∧ FromHeadOffice (m 70261200) .exchOpen staged ∧
      FromHeadOffice (m 70247400) .exchOpen busy) ∧
    ((answers 6).length < 7 ∧ 7 ≤ (answers 7).length) ∧ staged.windowIn = true ∧ staged.settings.anyTime = false ∧
    windowAt staged.settings.openSecond staged.settings.closeSecond (70247400 % 86400) = true ∧
    windowAt staged.settings.openSecond staged.settings.closeSecond (70261200 % 86400) = false :=
  ⟨⟨office_of (by decide +kernel) rfl (by decide), office_of (by decide +kernel) rfl (by decide),
    office_of (by decide +kernel) rfl (by decide)⟩, by decide +kernel⟩

/-- R102, R120: BUSY while a batch is open, its context as it stood; the seventh message in the outbox has the next one dropped. -/
theorem test_exch_open_busy :
    let m := message .uplink router (be 4 79 ++ be 2 5 ++ be 6 70247400)
    let full : State := { night with exch := { night.exch with outbox := List.replicate 7 (build night .uplink router .exchAnswer []) } }
    field (sending .uplink (after (.exchOpen m) staged)) 8 1 = 2 ∧ (after (.exchOpen m) staged).exch.state = staged.exch.state ∧
    (after (.exchOpen m) full).clock = night.clock ∧ (after (.exchOpen m) full).exch = full.exch := by decide +kernel

/-- 6.8: record 5 in sequence and valid; out of sequence; and one of change kind 5, which is refused. -/
theorem witness_PriceChangeRecord :
    let m : Nat → Nat → BranchArrival := fun seq kind =>
      message .uplink router (be 4 78 ++ be 2 seq ++ be 6 70264800 ++ be 6 3333 ++ be 1 kind ++ be 2 40)
    FromHeadOffice (m 5 4) .priceChange staged ∧ FromHeadOffice (m 6 4) .priceChange staged ∧
    FromHeadOffice (m 5 5) .priceChange staged ∧ staged.exch.state = .staging staging68 ∧
    field (bodyOf (m 5 4)) 0 4 = staging68.batch ∧ staging68.broken = none ∧ field (bodyOf (m 5 4)) 4 2 = staging68.expected ∧
    staging68.received ≠ 8192 ∧ changeOf (bodyOf (m 5 4)) = some ⟨3333, 70264800, 5, .unbind 40⟩ ∧ changeOf (bodyOf (m 5 5)) = none :=
  ⟨office_of (by decide +kernel) rfl (by decide), office_of (by decide +kernel) rfl (by decide),
    office_of (by decide +kernel) rfl (by decide), by decide +kernel⟩

/-- 6.8: the close that passes, the one with the wrong sum, and that of an empty batch. -/
theorem witness_ExchangeClose :
    let s := { night with exch := ⟨.staging closing, 77, []⟩ }
    let none5 := { night with exch := ⟨.staging { closing with received := 0, sum := 0, staging := [] }, 77, []⟩ }
    let m : Nat → Nat → BranchArrival := fun n sum => message .uplink router (be 4 78 ++ be 2 n ++ be 4 sum)
    FromHeadOffice (m 5 1334334) .exchClose s ∧ FromHeadOffice (m 5 932217) .exchClose s ∧ FromHeadOffice (m 0 0) .exchClose none5 ∧
    field (bodyOf (m 5 1334334)) 6 4 = closing.sum ∧ field (bodyOf (m 5 932217)) 6 4 ≠ closing.sum ∧
    field (bodyOf (m 5 1334334)) 4 2 = closing.received ∧ closing.staging ≠ [] ∧
    closing.staging.length ≤ 8192 - s.sched.entries.length :=
  ⟨office_of (by decide +kernel) rfl (by decide), office_of (by decide +kernel) rfl (by decide),
    office_of (by decide +kernel) rfl (by decide), by decide +kernel⟩

/-- 7.9 at 2,180, in each of the four states. -/
theorem witness_LinkEcho :
    ∀ u ∈ [UplinkState.up, .degraded, .fallback, .recovering],
      let s : State := { branch with
        now := 2180, uplink := ⟨u, false, 104, some ⟨103, 2000, false⟩, none, some 2000, 1, 2, 0, none, []⟩ }
      let m := message .uplink router (be 4 103 ++ be 4 2000)
      arrivesB m .linkEcho s = true ∧ s.settings.headOffice ≠ 0 ∧ s.uplink.probe = some ⟨103, 2000, false⟩ ∧
      103 = field (bodyOf m) 0 4 ∧ 2000 = field (bodyOf m) 4 4 := by decide +kernel

/-- 2.4 at 0: a miss with entry 0 free; a miss in FALLBACK; a miss with every entry live; and a hit. -/
theorem witness_AskTaken :
    let full : SMap LiveAsk := (List.range 256).map (fun n => (n, LiveAsk.mk station4 n 1 .count 1 0))
    beforeReferral.till.backlog = [] ∧ beforeReferral.till.asks.any (fun p => p.2.src == till5 && p.2.tag == 0x0A01) = false ∧
    validCode 4006381333931 = true ∧ lookupItem beforeReferral.items 4006381333931 = none ∧
    freeAsk beforeReferral.till.asks = some 0 ∧ beforeReferral.settings.headOffice ≠ 0 ∧ freeAsk full = none ∧
    full.any (fun p => p.2.src == till5 && p.2.tag == 0x0A01) = false ∧ State.reset.uplink.state = .fallback ∧
    (lookupItem shelf.items 5012345678900).isSome = true := by decide +kernel

/-- A duplicate, a new record with the journal empty, and a full journal. -/
theorem witness_SaleTaken :
    let row : TillRow := ⟨77, 5⟩
    (Tbl.get [(9, row)] 9 = some row ∧ row.saleSeq = 77) ∧ row.saleSeq ≠ 76 ∧ Tbl.get ([] : SMap TillRow) 9 = none ∧
    branch.journal.count < 16384 ∧ 16384 ≤ ({ branch.journal with free := 16385 } : Journal).count ∧ branch.till.backlog = [] := by
  decide +kernel

/-- 2.4 at 6,500 and at 6,499, and a free entry; with an answer waiting and the link of P1 up, and with it down. 3.7 at 30,200 and at
30,199. -/
theorem witness_AskAndAckTimeouts :
    let waiting : State := { referred with till := { referred.till with backlog := [build referred .till till5 .priceAns []] } }
    ((Tbl.get referred.till.asks 0).map (·.sent) = some 3500 ∧ referred.settings.askTimeout * 1000 ≤ elapsed 6500 3500 ∧
      elapsed 6499 3500 < referred.settings.askTimeout * 1000 ∧ Tbl.get referred.till.asks 1 = none) ∧
    (waiting.till.backlog ≠ [] ∧ waiting.linkIsUp .till = true ∧ (Tbl.get waiting.till.asks 0).map (·.sent) = some 3500) ∧
    (linkLost .till waiting).linkIsUp .till = false ∧
    (sent37.journal.ackTimer = some 0 ∧ sent37.settings.ackTimeout * 1000 ≤ elapsed 30000 0 ∧
      elapsed 29999 0 < sent37.settings.ackTimeout * 1000) := by decide +kernel

/-- 3.7 at 0; with one cell free, and with none. -/
theorem witness_JournalSend :
    let s := { branch with journal := journal37 }
    let m := build s .uplink s.settings.headOffice .journalSend (List.replicate 32 0)
    s.uplink.state = .up ∧ s.settings.headOffice ≠ 0 ∧ 0 < s.journal.heldCount ∧ s.journal.sentCount < 64 ∧
    1000 ≤ s.journal.credit ∧ s.journal.held = none ∧
    (s.journal.records.find? (fun x => x.seq == s.journal.next)).isSome = true ∧ s.linkIsUp .uplink = true ∧
    cellsFor (frameLength m.frame) = 1 := by decide +kernel

/-- 4.9 at 27 with the retry limit at 3 and at 2: attempts 2. -/
theorem witness_PushTimeout :
    let q : List LabelEntry := [⟨201, true, true, 1, 9, some ⟨516, 2, 901, .blank, 7000, 4, false, false⟩⟩]
    let s : State := { shelf with now := 27000, disp := ⟨q, 10, 517, 5, none⟩ }
    s.flightOf 516 = some (⟨201, true, true, 1, 9, some ⟨516, 2, 901, .blank, 7000, 4, false, false⟩⟩,
      ⟨516, 2, 901, .blank, 7000, 4, false, false⟩) ∧
    s.settings.pushTimeout * 1000 ≤ elapsed s.now 7000 ∧ (s.label 201).radio ≠ 0 ∧ 1 + 1 < s.settings.retryLimit ∧ 2 ≤ 1 + 1 ∧
    elapsed 26999 7000 < s.settings.pushTimeout * 1000 ∧ s.flightOf 517 = none := by
  decide +kernel

/-- Within a day, at midnight, and at the window's close with a batch open. -/
theorem witness_ClockSecond :
    let s : Nat → Nat → State := fun d n => { staged with clock := ⟨true, d, n, 999⟩ }
    (s 813 17999).clock.isSet = true ∧ ¬((s 813 17999).clock.day = 65535 ∧ (s 813 17999).clock.second = 86399) ∧
    (s 65534 86399).clock.second = 86399 ∧ ¬((s 65534 86399).clock.day = 65535) ∧ (s 813 17999).windowIn = true ∧
    (s 813 17999).settings.anyTime = false ∧ (s 813 17999).exch.state = .staging staging68 := by decide +kernel

/-- A SET over a record, one that creates, one whose bucket is full, one whose fields do not agree; the same bucket's item deleted; a
code with no item. -/
theorem witness_Activation :
    opening.sched.entries = [⟨⟨1111, 70178400, 1, .set { noFields with base := some 379 }⟩, 77, 1⟩] ∧ opening.clock.isSet = true ∧
    70178400 ≤ opening.clock.day * 86400 + opening.clock.second ∧ (findItem opening.items 1111).isSome = true ∧
    (ItemFields.apply ⟨.each, 349, 0, 1, .piece, 1, true, .absent⟩ { noFields with base := some 379 }).valid = true ∧
    validCode 2222 = true ∧ lookupItem opening.items 2222 = none ∧ (creationDefaults.apply noFields).valid = true ∧
    freeWay opening.items 2222 = some 0 ∧
    (let bucket : SMap ItemRec := (List.range 4).map (fun w => (slotOf 1111 w, ⟨1111 + 8192 * (w + 1), creationDefaults, 1, []⟩))
     validCode 1111 = true ∧ lookupItem bucket 1111 = none ∧ freeWay bucket 1111 = none) ∧
    (creationDefaults.apply { noFields with mode := some .weighed, promo := some (.multibuy 3 500) }).valid = false := by decide +kernel

/-- A BIND of a label that another item has, with three labels on the item and with four; of one on its list already; an UNBIND of
that one, and of another. -/
theorem witness_Activation_binding :
    let labels : List Nat → SMap ItemRec := fun l => [(slotOf 2 0, ⟨2, creationDefaults, 1, [9, 8]⟩), (slotOf 1111 0, ⟨1111, creationDefaults, 7, l⟩)]
    let s : State := { opening with items := labels [1, 2, 3], labels := [(9, ⟨77, 1, some 2, .neverShown, true, false⟩)] }
    lookupItem s.items 1111 = some ⟨1111, creationDefaults, 7, [1, 2, 3]⟩ ∧ 9 ∉ [1, 2, 3] ∧ [1, 2, 3].length < 4 ∧
    (s.label 9).bound = some 2 ∧ 2 ≠ 1111 ∧ lookupItem s.items 2 = some ⟨2, creationDefaults, 1, [9, 8]⟩ ∧
    (s.label 9).bound ≠ some 3 ∧ 3 ∈ [1, 2, 3] ∧
    lookupItem (labels [1, 2, 3, 4]) 1111 = some ⟨1111, creationDefaults, 7, [1, 2, 3, 4]⟩ ∧ 9 ∉ [1, 2, 3, 4] ∧ 4 ≤ [1, 2, 3, 4].length := by
  decide +kernel

/-- 60 s of silence and a millisecond less; a commit with a waiting entry alike, with a new one, with the last change. -/
theorem witness_QuietTimeoutAndCommitChange :
    staged.exch.state = .staging staging68 ∧ 60000 ≤ elapsed 60000 staging68.quiet ∧ elapsed 59999 staging68.quiet < 60000 ∧
    (let c : Change := ⟨7777, 70268400, 1, .set noFields⟩
     night.sched.entries.any (fun x => x.change.alike c) = true) ∧
    (let c : Change := ⟨1111, 70264800, 3, .bind 12⟩
     night.sched.entries.any (fun x => x.change.alike c) = false) ∧ night.sched.entries.length < 8192 ∧
    8192 ≤ (List.replicate 8192 (PendingEntry.mk ⟨7777, 70268400, 12, .delete⟩ 77 5)).length := by decide +kernel

/-- 7.9 at 9,000: the interval just run, the probe lost; and the same with the probe answered. -/
theorem witness_ProbeTimer :
    let s : Bool → State := fun answered => { branch with
      now := 9000, uplink := ⟨.degraded, false, 110, some ⟨109, 8000, answered⟩, none, some 8000, 0, 0, 2, none, []⟩ }
    ∀ b ∈ [true, false], (s b).uplink.timer = some 8000 ∧ (s b).settings.probeInterval ≤ elapsed (s b).now 8000 ∧
      (s b).uplink.probe = some ⟨109, 8000, b⟩ := by decide +kernel

/-- The same stations and guests for both steps; a guest whose lease goes on, and one whose lease ends. -/
theorem witness_SecondSteps : GuestsHold staffed ∧ Tbl.get staffed.guest.table phone.toNat = some ⟨phone, 3600, 4000, 0, 0, 0, 0⟩ ∧
    Tbl.get staffed.guest.table 1 = none ∧ staffed.guest.expiring = [] ∧
    ({ staffed.guest with table := [(phone.toNat, ⟨phone, 1, 0, 0, 0, 0, 0⟩)] } : Guest).expiring = [phone] ∧
    (List.replicate 63 (router, 1)).length < 64 := ⟨staffed_guests, by decide +kernel⟩

/-- The journal's message alone, with its one cell free, and with none; every generator with a message; one for a port whose link is
down. -/
theorem witness_HeldMessagesOffered :
    let m := build branch .uplink 0x0A00000000F0 .journalSend (List.replicate 32 0)
    let s : Nat → State := fun n => { branch with journal := { branch.journal with held := some m }, pool := { branch.pool with free := n } }
    let u : State := { s 1 with
      till := { branch.till with backlog := [m] }, uplink := { branch.uplink with held := some m }, exch := ⟨.idle, 0, [m, m]⟩
      disp := { branch.disp with held := some (5, m) }, mgmt := { branch.mgmt with outbox := [⟨m, none⟩] } }
    (s 1).journal.held = some m ∧ (s 1).till.backlog = [] ∧ (s 1).disp.held = none ∧ (s 1).uplink.held = none ∧
    (s 1).exch.outbox = [] ∧ (s 1).mgmt.outbox = [] ∧ (s 1).linkIsUp m.port = true ∧
    cellsFor (frameLength m.frame) ≤ (s 1).pool.free ∧ (s 0).pool.free < cellsFor (frameLength m.frame) ∧
    (u.till.backlog ≠ [] ∧ u.journal.held = some m ∧ u.disp.held = some (5, m) ∧ u.uplink.held = some m ∧ u.exch.outbox ≠ [] ∧
      u.mgmt.outbox ≠ []) ∧ (linkLost .uplink u).linkIsUp m.port = false := by decide +kernel

/-- No snapshot due; one due, with its request waiting. -/
theorem witness_OccupancySample : branch.mon.due = false ∧ (after .counterSnapshot (asked 0x51 [] branch)).mon.due = true ∧
    (after .counterSnapshot (asked 0x51 [] branch)).mon.waiting = [headRequest 0x51 []] := by decide +kernel

/-- A pulse and a gap of 8 ms at their end; a lamp at 30 ms. -/
theorem witness_PulseAndLampEnd : 8 ≤ elapsed 8 0 ∧ 30 ≤ elapsed 29 4294967295 := by decide +kernel

theorem witness_RequestTakenAndAnswered :
    State.reset.mgmt.firstSender = none ∧ State.reset.settings.noticeAddr = 0 ∧ (asked 1 [] branch).mgmt.firstSender ≠ none ∧
    branch.mgmt.outbox = [] ∧ [OutItem.mk (build branch .office station4 .mgmtAns []) none] ≠ [] ∧ branch.linkIsUp .office = true ∧ (linkLost .office branch).linkIsUp .office = false ∧
    ({ branch with pool := { branch.pool with free := 0 } } : State).pool.free = 0 := by decide +kernel

theorem witness_NoticeRaised :
    branch.settings.alertMode = .level ∧ branch.mgmt.alert = .idle ∧ branch.mgmt.owed = 0 ∧
    32 ≤ (List.replicate 32 (Notice.mk 1 (.journalHigh 1) 0 0 false false)).length := by decide

/-- Every read, with its fields just long enough, for what is there and for what is not. -/
theorem witness_ReadsAnswer :
    Takes (asked 0x01 (be 6 1111) opening) (headRequest 0x01 (be 6 1111)) 0x01 ∧
    Takes (asked 0x10 (be 2 32767) shelf) (headRequest 0x10 (be 2 32767)) 0x10 ∧
    Takes (asked 0x20 (be 6 0x0A0000000105) staffed) (headRequest 0x20 (be 6 0x0A0000000105)) 0x20 ∧
    Takes (asked 0x30 (be 2 0) opening) (headRequest 0x30 (be 2 0)) 0x30 ∧
    Takes (asked 0x40 (be 1 0x4E) branch) (headRequest 0x40 (be 1 0x4E)) 0x40 ∧
    Takes (asked 0x52 [] branch) (headRequest 0x52 []) 0x52 ∧ Takes (asked 0x60 (be 1 10) branch) (headRequest 0x60 (be 1 10)) 0x60 ∧
    (lookupItem opening.items 1111).isSome = true ∧ validCode 100000000000000 = false ∧ lookupItem opening.items 99999999999999 = none ∧
    (Tbl.get staffed.stations.table 0x0A0000000105).isSome = true ∧ Tbl.get staffed.stations.table 1 = none ∧
    branch.settings.value 0x4E = some 131072 ∧ branch.settings.value 0x4F = none :=
  ⟨asked_takes _ _ _ rfl, asked_takes _ _ _ rfl, asked_takes _ _ _ rfl, asked_takes _ _ _ rfl, asked_takes _ _ _ rfl,
    asked_takes _ _ _ rfl, asked_takes _ _ _ rfl, by decide +kernel⟩

/-- A write over a record, one that creates, one that is refused; a delete that hits and one that misses. -/
theorem witness_ItemsWritten :
    let fields : Nat → List Byte := fun c => be 6 c ++ itemFieldBytes (each 5 .absent)
    Takes (asked 0x02 (fields 1111) opening) (headRequest 0x02 (fields 1111)) 0x02 ∧
    Takes (asked 0x03 (be 6 1111) opening) (headRequest 0x03 (be 6 1111)) 0x03 ∧
    (fields 1111).length = 24 ∧ itemFieldsOf (fields 1111) 6 = some (each 5 .absent) ∧ field (fields 1111) 0 6 = 1111 ∧
    validCode 1111 = true ∧ (each 5 .absent).valid = true ∧ (each 10000000 .absent).valid = false ∧
    (lookupItem opening.items 1111).isSome = true ∧ lookupItem opening.items 2222 = none ∧ freeWay opening.items 2222 ≠ none ∧
    (findItem opening.items 1111).isSome = true ∧ findItem opening.items 2222 = none ∧
    (lookupItem opening.items 1111).map (·.labels) = some [] :=
  ⟨asked_takes _ _ _ rfl, asked_takes _ _ _ rfl, by decide +kernel⟩

/-- Label 32,767 given an identity and no item; 32,768 refused; a repush of a label in use. -/
theorem witness_LabelsWritten :
    let f : Nat → List Byte := fun n => be 2 n ++ be 3 77 ++ be 1 7 ++ be 1 0 ++ be 6 0
    BindingsHold (asked 0x11 (f 32767) shelf) ∧ Takes (asked 0x11 (f 32767) shelf) (headRequest 0x11 (f 32767)) 0x11 ∧
    Takes (asked 0x12 (be 2 201) shelf) (headRequest 0x12 (be 2 201)) 0x12 ∧
    (f 32767).length = 13 ∧ boundOf (f 32767) = some none ∧ field (f 32767) 0 2 = 32767 ∧ 32767 < field (f 32768) 0 2 ∧
    field (f 32767) 5 1 = 7 ∧ radioTaken 32767 77 shelf = false ∧ (rebind 32767 none shelf).1 = .done ∧
    radioTaken 32767 900 shelf = true ∧ (shelf.label 201).radio ≠ 0 ∧ (shelf.label 5).radio = 0 ∧ (shelf.label 32767).radio ≠ 77 ∧
    (shelf.label 200).radio = 900 :=
  ⟨shelf_bindings, asked_takes _ _ _ rfl, asked_takes _ _ _ rfl, by decide +kernel⟩

/-- Label 201, its binding kept, with its entry in flight and with a WAITING one: identity 0, or its own and another base station. -/
theorem witness_LabelsWritten_kept :
    let f : Nat → Nat → List Byte := fun radio base => be 2 201 ++ be 3 radio ++ be 1 base ++ be 1 1 ++ be 6 5012345678900
    let s : State := { shelf with disp := ⟨[⟨201, true, false, 0, 0, none⟩], 1, 0, 0, none⟩ }
    (BindingsHold (asked 0x11 (f 0 2) s) ∧ Takes (asked 0x11 (f 0 2) s) (headRequest 0x11 (f 0 2)) 0x11 ∧
      BindingsHold (asked 0x11 (f 901 3) s) ∧ Takes (asked 0x11 (f 901 3) s) (headRequest 0x11 (f 901 3)) 0x11) ∧
    (boundOf (f 0 2) = (some (shelf.label 201).bound) ∧ boundOf (f 901 3) = some (shelf.label 201).bound) ∧
    (field (f 0 2) 2 3 = 0 ∧ field (f 901 3) 2 3 = (shelf.label 201).radio ∧ radioTaken 201 901 shelf = false ∧
      radioTaken 201 0 shelf = false) ∧
    ((shelf.label 201).base = 2 ∧ field (f 901 3) 5 1 = 3) ∧ (∃ e ∈ s.disp.queue, e.label = 201 ∧ e.flight = none) ∧
    ¬∃ e ∈ shelf.disp.queue, e.label = 201 ∧ e.flight = none :=
  ⟨⟨shelf_bindings, asked_takes _ _ _ rfl, shelf_bindings, asked_takes _ _ _ rfl⟩, by decide +kernel⟩

/-- A base station written, at a new address and over the guest; a group address and class GUEST-CLIENT refused; a guest's entry deleted; an address of no entry. -/
theorem witness_StationsWritten :
    let f : Nat → List Byte := fun a => be 6 a ++ be 1 2 ++ be 1 2 ++ be 1 7
    Takes (asked 0x21 (f 0x0A0000000209) staffed) (headRequest 0x21 (f 0x0A0000000209)) 0x21 ∧
    Takes (asked 0x22 (be 6 0x0A0000000377) staffed) (headRequest 0x22 (be 6 0x0A0000000377)) 0x22 ∧
    (f 1).length = 9 ∧ stationOf (f 0x0A0000000209) staffed = some ⟨0x0A0000000209, .label, .baseStation 7, true, 0, false⟩ ∧
    stationOf (f 0x010000000001) staffed = none ∧ Tbl.get staffed.stations.table 0x0A0000000209 = none ∧
    staffed.stations.table.length < 2048 ∧
    stationOf (f phone.toNat) staffed = some ⟨phone, .label, .baseStation 7, true, 0, false⟩ ∧
    stationOf (be 6 0x0A0000000209 ++ be 1 3 ++ be 1 3 ++ be 1 0) staffed = none ∧ segIndex .label = field (f 1) 6 1 ∧
    Tbl.get staffed.stations.table (field (be 6 0x0A0000000377) 0 6) = some ⟨phone, .guest, .guestClient, false, 3, false⟩ ∧
    phone.toNat = field (be 6 0x0A0000000377) 0 6 ∧ Tbl.get staffed.stations.table 1 = none :=
  ⟨asked_takes _ _ _ rfl, asked_takes _ _ _ rfl, by decide +kernel⟩

/-- A cancel that names the entry, and one while COMMITTING; the last second of the day and one beyond; force on, off and neither. -/
theorem witness_CancelClockAndForce :
    let f : List Byte := be 6 1111 ++ be 6 70178400 ++ be 1 1
    Takes (asked 0x31 f opening) (headRequest 0x31 f) 0x31 ∧
    Takes (asked 0x42 (be 2 812 ++ be 4 86399) opening) (headRequest 0x42 (be 2 812 ++ be 4 86399)) 0x42 ∧
    Takes (asked 0x43 (be 1 1) branch) (headRequest 0x43 (be 1 1)) 0x43 ∧
    (let committing : State := { opening with exch := ⟨.committing ⟨78, 5, 1, 0, [], []⟩, 77, []⟩ }
     committing.exch.state = .committing ⟨78, 5, 1, 0, [], []⟩ ∧ Takes (asked 0x31 f committing) (headRequest 0x31 f) 0x31 ∧
     Takes (asked 0x31 [] committing) (headRequest 0x31 []) 0x31) ∧
    opening.exch.state = .idle ∧ f.length = 13 ∧ changeKindOf (field f 12 1) = some .set ∧ validCode (field f 0 6) = true ∧
    field f 6 6 ≤ 5662310399 ∧ changeKindOf 5 = none ∧ field (be 2 812 ++ be 4 86399) 2 4 < 86400 ∧
    86400 ≤ field (be 2 812 ++ be 4 86400) 2 4 ∧ field (be 1 1) 0 1 = 1 ∧ field (be 1 0) 0 1 = 0 ∧ 1 < field (be 1 2) 0 1 :=
  ⟨asked_takes _ _ _ rfl, asked_takes _ _ _ rfl, asked_takes _ _ _ rfl,
    ⟨rfl, asked_takes _ _ _ rfl, asked_takes _ _ _ rfl⟩, by decide +kernel⟩

/-- A numeric setting at and beyond the ends of its range; a group and an individual address; enumerated values listed and not
listed; the station address of a LEARNED and of a LOADED entry; the policy cells; no setting. -/
theorem witness_SettingWritten :
    let f : Nat → Nat → List Byte := fun n v => be 1 n ++ be 6 v
    Takes (asked 0x41 (f 0x10 11) branch) (headRequest 0x41 (f 0x10 11)) 0x41 ∧ (f 0x10 11).length = 7 ∧
    numericRange 0x10 = some (1, 10) ∧ branch.settings.policy.length = 20 ∧ isGroup (BitVec.ofNat 48 0x010000000000) = true ∧
    isGroup (BitVec.ofNat 48 0x0A00000000F1) = false ∧ field (f 0x3D 1) 0 1 = 0x3D ∧ field (f 0x3D 1) 1 6 = 1 ∧
    field (f 0x44 2) 0 1 = 0x31 + 19 ∧ (1 ∈ [0, 1] ∧ 2 ∉ [0, 1] ∧ field (f 0x22 2) 1 6 = 2) ∧ (4 ∈ [1, 2, 4, 8] ∧ 3 ∉ [1, 2, 4, 8]) ∧
    (BitVec.ofNat 48 0x0A0000000401 = station4 ∧ isGroup station4 = false ∧
      (Tbl.get staffed.stations.table 0x0A0000000401).any (·.loaded) = false ∧
      (Tbl.get staffed.stations.table 0x0A0000000401).map (·.addr.toNat) = some 0x0A0000000401 ∧
      0x0A0000000401 ≠ staffed.settings.stationAddr.toNat ∧ (Tbl.get staffed.stations.table 0x0A0000000202).any (·.loaded) = true) ∧
    field (f 0x31 1) 0 1 = 0x31 + 0 ∧ field (f 0x3D 2) 0 1 = 0x31 + 12 ∧ 2 < field (f 0x31 3) 1 6 ∧ branch.settings.value 0x45 = none ∧ branch.settings.value 0x44 ≠ none ∧
    (field (f 3 0) 0 1 = 3 ∧ field (f 3 0) 1 6 = 0 ∧ branch.settings.headOffice ≠ 0 ∧ branch.uplink.state ≠ .fallback) :=
  ⟨asked_takes _ _ _ rfl, by decide +kernel⟩

theorem witness_CountersProgrammed :
    let f : Nat → List Byte := fun n => [BitVec.ofNat 8 n, 0x41, 0, 0, 0, 0, 3, 0, 2, 0]
    Takes (asked 0x50 (f 7) branch) (headRequest 0x50 (f 7)) 0x50 ∧ Takes (asked 0x51 [] branch) (headRequest 0x51 []) 0x51 ∧
    (f 7).length = 10 ∧
    (asked 0x50 (f 7) branch).mgmt.firstSender ≠ none ∧ branch.linkIsUp .office = true ∧
    counterSourceOf (f 7) = some (.occupancy .askTable (.edge 2 false)) ∧ field (f 7) 0 1 ≤ 7 ∧ 7 < field (f 8) 0 1 ∧
    counterSourceOf [0, 0x47, 0, 0, 0, 0, 1, 0, 2, 0] = none ∧ counterSourceOf [0, 31, 0, 0, 0, 0, 0, 0, 0, 0] = none ∧
    counterSourceOf [0, 0, 0, 0, 0, 0, 3, 0, 5, 1] = some .none ∧ counterSourceOf [0, 0x46, 0, 0, 0, 0, 1, 0, 5, 1] ≠ none ∧
    counterSourceOf [0, 1, 0, 0, 31, 0, 0, 0, 0, 0] = some (.event .framesReceived 0 31 0) ∧
    counterSourceOf [0, 1, 0, 0, 32, 0, 0, 0, 0, 0] = none :=
  ⟨asked_takes _ _ _ rfl, asked_takes _ _ _ rfl, by decide +kernel⟩

/-- R202: a code outside the list of its field is refused: mode 4 with NONE; invert 2 with NONE, PLAIN or an event. -/
theorem test_counter_codes :
    counterSourceOf [0, 0, 0, 0, 0, 0, 4, 0, 0, 0] = none ∧ counterSourceOf [0, 0, 0, 0, 0, 0, 0, 0, 0, 2] = none ∧
    counterSourceOf [0, 0x41, 0, 0, 0, 0, 1, 0, 0, 2] = none ∧ counterSourceOf [0, 1, 0, 0, 31, 0, 0, 0, 0, 2] = none := by
  decide +kernel

theorem witness_ClearAndUnknown :
    Takes (asked 0x61 [] branch) (headRequest 0x61 []) 0x61 ∧ Takes (asked 0x63 [] branch) (headRequest 0x63 []) 0x63 ∧
    commandCodes.contains 0x63 = false := ⟨asked_takes _ _ _ rfl, asked_takes _ _ _ rfl, by decide⟩

end Sys2Proof.Tests
end

/-! The step on an empty queue: the due commands queued, or one millisecond (log 1, log 3). -/

namespace Sys2Proof.Machine

theorem mem_dueIf {b : Bool} {i j : Instr} : j ∈ dueIf b i ↔ b = true ∧ j = i := by
  cases b <;> simp [dueIf]

/-- A step with no command waiting is the part's own doing. -/
theorem step_of_pending_nil {s : State} (h : s.pending = []) : step s = .next (idle s) := by
  unfold step
  rw [h]

theorem idle_of_dueNow_nil {s : State} (h : s.dueNow = []) : idle s = tick s := by
  unfold idle
  rw [h]

theorem idle_of_dueNow_ne_nil {s : State} (h : s.dueNow ≠ []) :
    idle s = { s with pending := s.dueNow, choices := s.choices + 6 + s.dueNow.length } := by
  unfold idle
  split
  case h_1 hnil => exact absurd hnil h
  case h_2 hcons => rw [hcons]

/-- R85: a second of the clock ends with a millisecond exactly when the clock is SET, not held, and 999 ms of it have passed. -/
theorem Clock.tick_ends_iff (c : Clock) :
    c.tick.2 = true ↔ c.isSet = true ∧ c.isHeld = false ∧ 999 ≤ c.phase := by
  unfold Clock.tick
  by_cases hrun : (c.isSet && !c.isHeld) = true
  · rw [if_pos hrun]
    simp only [Bool.and_eq_true, Bool.not_eq_true'] at hrun
    obtain ⟨hset, hheld⟩ := hrun
    split <;> simp_all
  · rw [if_neg hrun]
    simp only [Bool.and_eq_true, Bool.not_eq_true'] at hrun
    exact ⟨fun h => absurd h Bool.false_ne_true, fun ⟨hset, hheld, _⟩ => absurd ⟨hset, hheld⟩ hrun⟩

/-- A millisecond by itself moves the clock's phase alone; the day and the second wait for CLOCK_SECOND. -/
theorem Clock.tick_keeps_reading (c : Clock) : c.tick.1.day = c.day ∧ c.tick.1.second = c.second := by
  unfold Clock.tick
  split
  · split <;> exact ⟨rfl, rfl⟩
  · exact ⟨rfl, rfl⟩

/-- The commands of a tick, in whatever order the free value puts those behind the refills. -/
theorem mem_tick_pending (s : State) (i : Instr) :
    i ∈ (tick s).pending ↔ i = .pacingRefill ∨ i = .bucketRefill ∨ i = .occupancySample ∨
      (s.clock.tick.2 = true ∧ i = .clockSecond) ∨ (999 ≤ s.stations.sinceStep ∧ i = .ageingStep) ∨
      (999 ≤ s.guest.sinceStep ∧ i = .guestSecondStep) := by
  simp [tick, mem_shuffle, mem_dueIf]

/-- A tick changes the running time, the clock's phase and the two counts of 1,000 ms, and no other block. -/
theorem tick_frame (s : State) (b : Block) (htime : b ≠ .time) (hclock : b ≠ .clock) (hstations : b ≠ .stations)
    (hguest : b ≠ .guest) : b.same s (tick s) := by
  cases b
  case time => exact absurd rfl htime
  case clock => exact absurd rfl hclock
  case stations => exact absurd rfl hstations
  case guest => exact absurd rfl hguest
  all_goals rfl

/-- Settles O2: with something due, the due commands are the queue; with nothing due, the step is `tick`. -/
theorem emptyQueueStep : Obligations.EmptyQueueStep := by
  intro s hempty
  refine ⟨fun hdue => ?_, fun hnone => ?_⟩
  · refine ⟨_, step_of_pending_nil hempty, ?_⟩
    rw [idle_of_dueNow_ne_nil hdue]
    exact ⟨rfl, fun b => by cases b <;> rfl⟩
  · refine ⟨_, step_of_pending_nil hempty, ?_⟩
    rw [idle_of_dueNow_nil hnone]
    obtain ⟨hday, hsecond⟩ := s.clock.tick_keeps_reading
    refine ⟨rfl, rfl, ?sample, ?ageing, ?guestSecond, ?clockSecond, rfl, rfl, rfl, hday, hsecond, tick_frame s⟩
    case sample => simp [mem_tick_pending]
    case ageing => simp [mem_tick_pending]
    case guestSecond => simp [mem_tick_pending]
    case clockSecond => simp [mem_tick_pending, Clock.tick_ends_iff]

end Sys2Proof.Machine

/-! The price engine: stages 1 and 2 by promotion kind and sale mode (R17, R18), and the fields of a quote (R19 to R24). -/

namespace Sys2Proof.Machine

/-! ### Stage 1: the shelf unit price (R17) -/

theorem unitPrice_of_absent {f : ItemFields} (h : f.promo = .absent) : unitPrice f = f.base := by
  simp only [unitPrice, h]

theorem unitPrice_of_percent {f : ItemFields} {p : Nat} (h : f.promo = .percent p) :
    unitPrice f = f.base - (f.base * p + 5000) / 10000 := by
  simp only [unitPrice, h]

theorem unitPrice_of_fixed {f : ItemFields} {v : Nat} (h : f.promo = .fixed v) : unitPrice f = min v f.base := by
  simp only [unitPrice, h]

theorem unitPrice_of_multibuy {f : ItemFields} {n t : Nat} (h : f.promo = .multibuy n t) : unitPrice f = f.base := by
  simp only [unitPrice, h]

/-- The whole price taken off: the rounding half does not reach another penny. -/
theorem unitPrice_of_percent_whole {f : ItemFields} (h : f.promo = .percent 10000) : unitPrice f = 0 := by
  rw [unitPrice_of_percent h]
  omega

/-- A promotion never raises a price. -/
theorem unitPrice_le_base (f : ItemFields) : unitPrice f ≤ f.base := by
  cases h : f.promo with
  | absent => exact (unitPrice_of_absent h).le
  | percent p => exact unitPrice_of_percent h ▸ Nat.sub_le _ _
  | fixed v => exact unitPrice_of_fixed h ▸ Nat.min_le_right _ _
  | multibuy n t => exact (unitPrice_of_multibuy h).le

/-- A discount of at most the whole price, rounded to the nearest penny, is at most the price. -/
theorem percent_discount_le (b : Nat) {p : Nat} (hp : p ≤ 10000) : (b * p + 5000) / 10000 ≤ b := by
  have hmul : b * p ≤ b * 10000 := Nat.mul_le_mul_left b hp
  omega

/-! ### Stage 2: the compare price (R18) -/

theorem comparePrice_of_each {f : ItemFields} (h : f.mode = .each) :
    comparePrice f = min maxPrice ((unitPrice f * f.refQuantity + f.packQuantity / 2) / f.packQuantity) := by
  simp only [comparePrice, h]

theorem comparePrice_of_weighed {f : ItemFields} (h : f.mode = .weighed) :
    comparePrice f = min maxPrice (if f.refQuantity = 100 then (unitPrice f * 100 + 500) / 1000 else unitPrice f) := by
  simp only [comparePrice, h]

/-- Settles O12: stage 1 by promotion kind, stage 2 by sale mode and reference quantity. -/
theorem shelfPrices : Obligations.ShelfPrices := by
  intro f
  refine ⟨fun _ => unitPrice_of_percent, fun _ => unitPrice_of_fixed, unitPrice_of_absent, fun _ _ => unitPrice_of_multibuy,
    unitPrice_of_percent_whole, unitPrice_le_base f, fun _ _ => percent_discount_le f.base, comparePrice_of_each,
    fun hmode href => ?kilogramOrPiece, fun hmode href => ?hundredGrams⟩
  case kilogramOrPiece =>
    have hne : f.refQuantity ≠ 100 := by omega
    rw [comparePrice_of_weighed hmode, if_neg hne, maxPrice]
  case hundredGrams => rw [comparePrice_of_weighed hmode, if_pos href, maxPrice]

/-! ### Stage 3: the honour set in a quote (R19, R20) -/

/-- R20: the terms differ when some content of the set shows a MULTIBUY that is not the record's. -/
theorem dealDiffers_iff (p : Promotion) (shown : List Content) :
    dealDiffers p shown = true ↔ ∃ c ∈ shown, ∃ n t, c.promo = .multibuy n t ∧ p ≠ .multibuy n t := by
  unfold dealDiffers
  rw [List.any_eq_true]
  refine exists_congr fun c => and_congr_right fun _ => ?_
  cases c.promo <;> simp

theorem quoteItem_price (labels : SMap LabelRec) (r : ItemRec) (k : QtyKind) (quantity : Nat) :
    (quoteItem labels r k quantity).price = quotedPrice (unitPrice r.fields) (honourSet labels r) := rfl

theorem quoteItem_honoured_iff (labels : SMap LabelRec) (r : ItemRec) (k : QtyKind) (quantity : Nat) :
    (quoteItem labels r k quantity).flags.honoured = true ↔ (quoteItem labels r k quantity).price < unitPrice r.fields :=
  decide_eq_true_iff

theorem quoteItem_dealDiffers (labels : SMap LabelRec) (r : ItemRec) (k : QtyKind) (quantity : Nat) :
    (quoteItem labels r k quantity).flags.dealDiffers = dealDiffers r.fields.promo (honourSet labels r) := rfl

/-! ### Stage 4: the outcome, the extended price and the CLAMPED flag (R22 to R24) -/

theorem kindFits_iff (m : SaleMode) (k : QtyKind) :
    kindFits m k = true ↔ (m = .each ∧ k = .count) ∨ (m = .weighed ∧ k = .grams) := by
  cases m <;> cases k <;> simp [kindFits]

theorem rawExtended_of_multibuy {f : ItemFields} {n t : Nat} (hmode : f.mode = .each) (hpromo : f.promo = .multibuy n t)
    (price q : Nat) : rawExtended f price q = min (q / n * t + q % n * price) (q * price) := by
  simp only [rawExtended, hmode, hpromo]

/-- A quantity of the kind that is sold: FOUND, the extended price held at its maximum, and CLAMPED when either was held. -/
theorem quoteItem_of_fits (labels : SMap LabelRec) {r : ItemRec} {k : QtyKind} (h : kindFits r.fields.mode k = true)
    (quantity : Nat) :
    let quote := quoteItem labels r k quantity
    let x := rawExtended r.fields quote.price (normalQuantity k quantity)
    quote.outcome = .found ∧ quote.extended = min maxExtended x ∧
      (quote.flags.clamped = true ↔ maxQuantity k < quantity ∨ maxExtended < x) := by
  simp [quoteItem, quoteWith, h]

/-- A quantity of the other kind: MODE-MISMATCH, 0, and nothing held. -/
theorem quoteItem_of_mismatch (labels : SMap LabelRec) {r : ItemRec} {k : QtyKind} (h : kindFits r.fields.mode k = false)
    (quantity : Nat) :
    let quote := quoteItem labels r k quantity
    quote.outcome = .modeMismatch ∧ quote.extended = 0 ∧ quote.flags.clamped = false := by
  simp [quoteItem, quoteWith, h]

/-- Settles O13: the quoted price is the least of E and what the honour set shows (`quotedPrice_least`, `mem_honourSet`). -/
theorem honouredQuote : Obligations.HonouredQuote := by
  intro labels r k quantity quote inSet
  have hmem (c : Content) : c ∈ honourSet labels r ↔ ∃ l, inSet l c := mem_honourSet labels r c
  obtain ⟨hle, hleShown, hattained⟩ := quotedPrice_least (honourSet labels r) (unitPrice r.fields)
  refine ⟨hle, fun l c hc => hleShown c ((hmem c).2 ⟨l, hc⟩), ?attained, quoteItem_honoured_iff labels r k quantity,
    ?deal, fun n t hpromo hmode hk => ?multibuy⟩
  case attained =>
    refine hattained.imp_right fun ⟨c, hc, hprice⟩ => ?_
    obtain ⟨l, hl⟩ := (hmem c).1 hc
    exact ⟨l, c, hl, hprice⟩
  case deal =>
    rw [quoteItem_dealDiffers, dealDiffers_iff]
    constructor
    · rintro ⟨c, hc, n, t, hshown, hother⟩
      obtain ⟨l, hl⟩ := (hmem c).1 hc
      exact ⟨l, c, n, t, hl, hshown, hother⟩
    · rintro ⟨l, c, n, t, hl, hshown, hother⟩
      exact ⟨c, (hmem c).2 ⟨l, hl⟩, n, t, hshown, hother⟩
  case multibuy =>
    have hfits : kindFits r.fields.mode k = true := (kindFits_iff _ _).2 (.inl ⟨hmode, hk⟩)
    obtain ⟨-, hextended, -⟩ := quoteItem_of_fits labels hfits quantity
    rw [rawExtended_of_multibuy hmode hpromo] at hextended
    subst hk
    exact hextended

/-- Settles O14: by whether the quantity is of the kind that is sold. -/
theorem extendedPrice : Obligations.ExtendedPrice := by
  intro labels r k quantity quote most q fits x
  have hmost : most = maxQuantity k := by cases k <;> rfl
  have hq : q = normalQuantity k quantity := by simp only [q, normalQuantity, hmost]
  have hx : x = rawExtended r.fields quote.price (normalQuantity k quantity) := hq ▸ rfl
  refine ⟨fun hfits => ?_, fun hmismatch => ?_, rfl, rfl, rfl, rfl⟩
  · rw [hmost, hx]
    exact quoteItem_of_fits labels ((kindFits_iff _ _).2 hfits) quantity
  · have hkind : kindFits r.fields.mode k = false := Bool.eq_false_iff.2 fun h => hmismatch ((kindFits_iff _ _).1 h)
    exact quoteItem_of_mismatch labels hkind quantity

end Sys2Proof.Machine

/-! The meaning of a command as a function, and the fields that each command leaves as they were. -/

namespace Sys2Proof.Machine

/-- The state a command leaves. -/
def after (c : Instr) (s : State) : State :=
  match exec c s with
  | .next t => t
  | _ => s

/-- No arm of `exec` faults or refuses. -/
theorem exec_eq_after (c : Instr) (s : State) : exec c s = .next (after c s) := by
  cases c <;> rfl

theorem eq_after {c : Instr} {s t : State} (h : exec c s = .next t) : t = after c s := by
  rw [exec_eq_after] at h
  exact (Host.Outcome.next.inj h).symm

/-! ### One equation for each command -/

@[simp] theorem after_powerOn (straps : Straps) (s : State) : after (.powerOn straps) s = resetWith straps s := rfl
@[simp] theorem after_resetPin (straps : Straps) (s : State) : after (.resetPin straps) s = resetWith straps s := rfl
@[simp] theorem after_linkUp (p : Port) (speed : Speed) (s : State) : after (.linkUp p speed) s = linkUpStep p speed s := rfl
@[simp] theorem after_linkDown (p : Port) (receiving : Bool) (s : State) : after (.linkDown p receiving) s = linkDownStep p receiving s := rfl
@[simp] theorem after_damagedFrame (p : Port) (s : State) : after (.damagedFrame p) s = receiveDamaged p s := rfl
@[simp] theorem after_ordinaryFrame (arrival : FrameArrival) (s : State) : after (.ordinaryFrame arrival) s = receiveFrame arrival s := rfl
@[simp] theorem after_priceAsk (m : BranchArrival) (s : State) : after (.priceAsk m) s = receiveBranch .priceAsk m s := rfl
@[simp] theorem after_saleRecord (m : BranchArrival) (s : State) : after (.saleRecord m) s = receiveBranch .saleRecord m s := rfl
@[simp] theorem after_takeIntakeEntry (s : State) : after .takeIntakeEntry s = takeIntakeStep s := rfl
@[simp] theorem after_itemReply (m : BranchArrival) (s : State) : after (.itemReply m) s = receiveBranch .itemReply m s := rfl
@[simp] theorem after_askTimeout (entry : Nat) (s : State) : after (.askTimeout entry) s = askTimeoutStep entry s := rfl
@[simp] theorem after_journalSend (s : State) : after .journalSend s = journalSendStep s := rfl
@[simp] theorem after_pacingRefill (s : State) : after .pacingRefill s = pacingRefillStep s := rfl
@[simp] theorem after_journalAck (m : BranchArrival) (s : State) : after (.journalAck m) s = receiveBranch .journalAck m s := rfl
@[simp] theorem after_ackTimeout (s : State) : after .ackTimeout s = ackTimeoutStep s := rfl
@[simp] theorem after_labelResult (m : BranchArrival) (s : State) : after (.labelResult m) s = receiveBranch .labelResult m s := rfl
@[simp] theorem after_pushTimeout (tag : Nat) (s : State) : after (.pushTimeout tag) s = dispatchOn s (expirePush tag s) := rfl
@[simp] theorem after_clockSecond (s : State) : after .clockSecond s = clockSecondStep s := rfl
@[simp] theorem after_activation (s : State) : after .activation s = activationStep s := rfl
@[simp] theorem after_exchOpen (m : BranchArrival) (s : State) : after (.exchOpen m) s = receiveBranch .exchOpen m s := rfl
@[simp] theorem after_priceChange (m : BranchArrival) (s : State) : after (.priceChange m) s = receiveBranch .priceChange m s := rfl
@[simp] theorem after_exchClose (m : BranchArrival) (s : State) : after (.exchClose m) s = receiveBranch .exchClose m s := rfl
@[simp] theorem after_quietTimeout (s : State) : after .quietTimeout s = quietTimeoutStep s := rfl
@[simp] theorem after_commitChange (s : State) : after .commitChange s = commitChangeStep s := rfl
@[simp] theorem after_probeTimer (s : State) : after .probeTimer s = probeTimerStep s := rfl
@[simp] theorem after_linkEcho (m : BranchArrival) (s : State) : after (.linkEcho m) s = receiveBranch .linkEcho m s := rfl
@[simp] theorem after_ageingStep (s : State) : after .ageingStep s = ageingStepBody s := rfl
@[simp] theorem after_guestSecondStep (s : State) : after .guestSecondStep s = guestSecondStepBody s := rfl
@[simp] theorem after_bucketRefill (s : State) : after .bucketRefill s = bucketRefillStep s := rfl
@[simp] theorem after_transmitEnd (p : Port) (s : State) : after (.transmitEnd p) s = transmitEndStep p s := rfl
@[simp] theorem after_heldMessageReoffer (order : List Generator) (s : State) : after (.heldMessageReoffer order) s = reofferAll order s := rfl
@[simp] theorem after_occupancySample (s : State) : after .occupancySample s = occupancySampleStep s := rfl
@[simp] theorem after_mgmtReq (m : BranchArrival) (s : State) : after (.mgmtReq m) s = receiveBranch .mgmtReq m s := rfl
@[simp] theorem after_itemRead (s : State) : after .itemRead s = runHead (isCode 0x01) readItem s := rfl
@[simp] theorem after_itemWrite (s : State) : after .itemWrite s = runHead (isCode 0x02) writeItemRequest s := rfl
@[simp] theorem after_itemDelete (s : State) : after .itemDelete s = runHead (isCode 0x03) deleteItemRequest s := rfl
@[simp] theorem after_labelRead (s : State) : after .labelRead s = runHead (isCode 0x10) readLabelRequest s := rfl
@[simp] theorem after_labelWrite (s : State) : after .labelWrite s = runHead (isCode 0x11) writeLabelRequest s := rfl
@[simp] theorem after_labelRepush (s : State) : after .labelRepush s = runHead (isCode 0x12) repushRequest s := rfl
@[simp] theorem after_stationRead (s : State) : after .stationRead s = runHead (isCode 0x20) readStationRequest s := rfl
@[simp] theorem after_stationWrite (s : State) : after .stationWrite s = runHead (isCode 0x21) writeStationRequest s := rfl
@[simp] theorem after_stationDelete (s : State) : after .stationDelete s = runHead (isCode 0x22) deleteStationRequest s := rfl
@[simp] theorem after_pendingRead (s : State) : after .pendingRead s = runHead (isCode 0x30) readPendingRequest s := rfl
@[simp] theorem after_pendingCancel (s : State) : after .pendingCancel s = runHead (isCode 0x31) cancelRequest s := rfl
@[simp] theorem after_settingRead (s : State) : after .settingRead s = runHead (isCode 0x40) readSettingRequest s := rfl
@[simp] theorem after_settingWrite (s : State) : after .settingWrite s = runHead (isCode 0x41) writeSettingRequest s := rfl
@[simp] theorem after_clockSet (s : State) : after .clockSet s = runHead (isCode 0x42) setClockRequest s := rfl
@[simp] theorem after_uplinkForce (s : State) : after .uplinkForce s = runHead (isCode 0x43) forceRequest s := rfl
@[simp] theorem after_counterProgram (s : State) : after .counterProgram s = runHead (isCode 0x50) programRequest s := rfl
@[simp] theorem after_counterSnapshot (s : State) : after .counterSnapshot s = runHead (isCode 0x51) markSnapshot s := rfl
@[simp] theorem after_counterRead (s : State) : after .counterRead s = runHead (isCode 0x52) readCountersRequest s := rfl
@[simp] theorem after_stateRead (s : State) : after .stateRead s = runHead (isCode 0x60) readStateRequest s := rfl
@[simp] theorem after_noticeClear (s : State) : after .noticeClear s = runHead (isCode 0x61) clearRequest s := rfl
@[simp] theorem after_resetFull (s : State) : after .resetFull s = runHead isOtherReset resetFullRequest s := rfl
@[simp] theorem after_resetTraffic (s : State) : after .resetTraffic s = runHead isTrafficReset resetTrafficRequest s := rfl
@[simp] theorem after_unknownCommand (s : State) : after .unknownCommand s = runHead isUnknown (fun r t => answer r .unknownCommand [] t) s := rfl
@[simp] theorem after_alertPulseEnd (s : State) : after .alertPulseEnd s = alertPulseEndStep s := rfl
@[simp] theorem after_portLampExpiry (p : Port) (s : State) : after (.portLampExpiry p) s = portLampExpiryStep p s := rfl

/-! ### Fields through the taking of a request -/

section
variable {sel : Request → Bool} {run : Request → State → State} {s : State}

/-- What taking a request and carrying it out leave, `runHead` leaves. -/
theorem runHead_frame {α : Type} (f : State → α) (ht : ∀ r u, f (takeRequest r u) = f u) (hr : ∀ r u, f (run r u) = f u) :
    f (runHead sel run s) = f s :=
  runHead_keeps (P := fun u => f u = f s) rfl (fun r u h => (ht r u).trans h) (fun r u h => (hr r u).trans h)

@[simp] theorem runHead_pending (h : ∀ r u, (run r u).pending = u.pending) : (runHead sel run s).pending = s.pending :=
  runHead_frame State.pending (by simp) h
@[simp] theorem runHead_choices (h : ∀ r u, (run r u).choices = u.choices) : (runHead sel run s).choices = s.choices :=
  runHead_frame State.choices (by simp) h
@[simp] theorem runHead_now (h : ∀ r u, (run r u).now = u.now) : (runHead sel run s).now = s.now :=
  runHead_frame State.now (by simp) h
@[simp] theorem runHead_straps (h : ∀ r u, (run r u).straps = u.straps) : (runHead sel run s).straps = s.straps :=
  runHead_frame State.straps (by simp) h
@[simp] theorem runHead_settings (h : ∀ r u, (run r u).settings = u.settings) : (runHead sel run s).settings = s.settings :=
  runHead_frame State.settings (by simp) h
@[simp] theorem runHead_items (h : ∀ r u, (run r u).items = u.items) : (runHead sel run s).items = s.items :=
  runHead_frame State.items (by simp) h
@[simp] theorem runHead_labels (h : ∀ r u, (run r u).labels = u.labels) : (runHead sel run s).labels = s.labels :=
  runHead_frame State.labels (by simp) h
@[simp] theorem runHead_disp (h : ∀ r u, (run r u).disp = u.disp) : (runHead sel run s).disp = s.disp :=
  runHead_frame State.disp (by simp) h
@[simp] theorem runHead_till (h : ∀ r u, (run r u).till = u.till) : (runHead sel run s).till = s.till :=
  runHead_frame State.till (by simp) h
@[simp] theorem runHead_journal (h : ∀ r u, (run r u).journal = u.journal) : (runHead sel run s).journal = s.journal :=
  runHead_frame State.journal (by simp) h
@[simp] theorem runHead_clock (h : ∀ r u, (run r u).clock = u.clock) : (runHead sel run s).clock = s.clock :=
  runHead_frame State.clock (by simp) h
@[simp] theorem runHead_windowIn (h : ∀ r u, (run r u).windowIn = u.windowIn) : (runHead sel run s).windowIn = s.windowIn :=
  runHead_frame State.windowIn (by simp) h
@[simp] theorem runHead_sched (h : ∀ r u, (run r u).sched = u.sched) : (runHead sel run s).sched = s.sched :=
  runHead_frame State.sched (by simp) h
@[simp] theorem runHead_exch (h : ∀ r u, (run r u).exch = u.exch) : (runHead sel run s).exch = s.exch :=
  runHead_frame State.exch (by simp) h
@[simp] theorem runHead_uplink (h : ∀ r u, (run r u).uplink = u.uplink) : (runHead sel run s).uplink = s.uplink :=
  runHead_frame State.uplink (by simp) h
@[simp] theorem runHead_stations (h : ∀ r u, (run r u).stations = u.stations) : (runHead sel run s).stations = s.stations :=
  runHead_frame State.stations (by simp) h
@[simp] theorem runHead_guest (h : ∀ r u, (run r u).guest = u.guest) : (runHead sel run s).guest = s.guest :=
  runHead_frame State.guest (by simp) h

end

/-! ### Completion, and who writes what -/

/-- A COUNTER-SNAPSHOT that is taken marks the monitor alone. -/
@[simp] theorem runHead_markSnapshot_frame (sel : Request → Bool) (s : State) :
    (runHead sel markSnapshot s).pending = s.pending ∧
    (runHead sel markSnapshot s).choices = s.choices ∧
    (runHead sel markSnapshot s).now = s.now ∧
    (runHead sel markSnapshot s).straps = s.straps ∧
    (runHead sel markSnapshot s).settings = s.settings ∧
    (runHead sel markSnapshot s).items = s.items ∧
    (runHead sel markSnapshot s).labels = s.labels ∧
    (runHead sel markSnapshot s).disp = s.disp ∧
    (runHead sel markSnapshot s).till = s.till ∧
    (runHead sel markSnapshot s).journal = s.journal ∧
    (runHead sel markSnapshot s).clock = s.clock ∧
    (runHead sel markSnapshot s).windowIn = s.windowIn ∧
    (runHead sel markSnapshot s).sched = s.sched ∧
    (runHead sel markSnapshot s).exch = s.exch ∧
    (runHead sel markSnapshot s).uplink = s.uplink ∧
    (runHead sel markSnapshot s).stations = s.stations ∧
    (runHead sel markSnapshot s).guest = s.guest := by
  refine ⟨?_, ?_, ?_, ?_, ?_, ?_, ?_, ?_, ?_, ?_, ?_, ?_, ?_, ?_, ?_, ?_, ?_⟩ <;> exact runHead_frame _ (by simp) (fun _ _ => rfl)

theorem after_keeps_queue (c : Instr) (s : State) : (after c s).pending = s.pending ∧ (after c s).choices = s.choices := by
  cases c
  case powerOn | resetPin => exact ⟨rfl, rfl⟩
  all_goals simp

/-- Settles O1: `step` hands the front command to `exec`. -/
theorem stepTakesTheFrontCommand : Obligations.StepTakesTheFrontCommand :=
  fun _ _ _ => rfl

/-- Settles O3: every arm of `exec` is a next state, and no command's meaning writes the queue. -/
theorem everyCommandCompletes : Obligations.EveryCommandCompletes :=
  fun c s => ⟨after c s, exec_eq_after c s, after_keeps_queue c s⟩

/-- The commands that give every block its reset value. -/
def isPowerReset : Instr → Bool
  | .powerOn _ | .resetPin _ => true
  | _ => false

section
variable {c : Instr} (s : State)

theorem after_straps (h : isPowerReset c = false) : (after c s).straps = s.straps := by
  cases c
  case powerOn | resetPin => cases h
  all_goals simp

theorem after_now (h : isPowerReset c = false) (hf : c ≠ .resetFull) : (after c s).now = s.now := by
  cases c
  case powerOn | resetPin => cases h
  case resetFull => exact absurd rfl hf
  all_goals simp

theorem after_settings (h : isPowerReset c = false) (hf : c ≠ .resetFull) (hw : c ≠ .settingWrite) :
    (after c s).settings = s.settings := by
  cases c
  case powerOn | resetPin => cases h
  case resetFull => exact absurd rfl hf
  case settingWrite => exact absurd rfl hw
  all_goals simp

theorem after_sched (h : isPowerReset c = false) (hf : c ≠ .resetFull) (ha : c ≠ .activation) (hc : c ≠ .commitChange)
    (hp : c ≠ .pendingCancel) : (after c s).sched = s.sched := by
  cases c
  case powerOn | resetPin => cases h
  case resetFull => exact absurd rfl hf
  case activation => exact absurd rfl ha
  case commitChange => exact absurd rfl hc
  case pendingCancel => exact absurd rfl hp
  all_goals simp

/-- Only an ITEM_REPLY, of all branch messages, writes the item table. -/
theorem toOwner_items {k : MsgKind} (hk : k ≠ .itemReply) (p : Port) (a : Addr) (b : List Byte) :
    (toOwner k p a b s).items = s.items := by
  cases k
  case itemReply => exact absurd rfl hk
  all_goals simp [toOwner]

/-- Only an EXCH_OPEN, of all branch messages, writes the store clock. -/
theorem toOwner_clock {k : MsgKind} (hk : k ≠ .exchOpen) (p : Port) (a : Addr) (b : List Byte) :
    (toOwner k p a b s).clock = s.clock := by
  cases k
  case exchOpen => exact absurd rfl hk
  all_goals simp [toOwner]

@[simp] theorem receiveBranch_items {k : MsgKind} (hk : k ≠ .itemReply) (m : BranchArrival) :
    (receiveBranch k m s).items = s.items :=
  receiveBranch_keeps (P := fun u => u.items = s.items) rfl (by simp) (by simp) (by simp)
    (fun p a b u hu => (toOwner_items u hk p a b).trans hu)

@[simp] theorem receiveBranch_clock {k : MsgKind} (hk : k ≠ .exchOpen) (m : BranchArrival) :
    (receiveBranch k m s).clock = s.clock :=
  receiveBranch_keeps (P := fun u => u.clock = s.clock) rfl (by simp) (by simp) (by simp)
    (fun p a b u hu => (toOwner_clock u hk p a b).trans hu)

theorem after_items (h : isPowerReset c = false) (hf : c ≠ .resetFull) (ho : ∀ a, c ≠ .ordinaryFrame a)
    (ha : c ≠ .activation) (hw : c ≠ .itemWrite) (hd : c ≠ .itemDelete) (hl : c ≠ .labelWrite)
    (hr : ∀ m, c ≠ .itemReply m) : (after c s).items = s.items := by
  cases c
  case powerOn | resetPin => cases h
  case resetFull => exact absurd rfl hf
  case ordinaryFrame a => exact absurd rfl (ho a)
  case activation => exact absurd rfl ha
  case itemWrite => exact absurd rfl hw
  case itemDelete => exact absurd rfl hd
  case labelWrite => exact absurd rfl hl
  case itemReply m => exact absurd rfl (hr m)
  all_goals simp

theorem after_clock (h : isPowerReset c = false) (hf : c ≠ .resetFull) (ho : ∀ a, c ≠ .ordinaryFrame a)
    (hs : c ≠ .clockSecond) (hc : c ≠ .clockSet) (he : ∀ m, c ≠ .exchOpen m) : (after c s).clock = s.clock := by
  cases c
  case powerOn | resetPin => cases h
  case resetFull => exact absurd rfl hf
  case ordinaryFrame a => exact absurd rfl (ho a)
  case clockSecond => exact absurd rfl hs
  case clockSet => exact absurd rfl hc
  case exchOpen m => exact absurd rfl (he m)
  all_goals simp

end

theorem isPowerReset_false {c : Instr} (hp : ∀ x, c ≠ .powerOn x) (hr : ∀ x, c ≠ .resetPin x) : isPowerReset c = false := by
  cases c
  case powerOn x => exact absurd rfl (hp x)
  case resetPin x => exact absurd rfl (hr x)
  all_goals rfl

/-- Settles O4, one block of the state after the other. -/
theorem whoWritesWhat : Obligations.WhoWritesWhat := by
  refine ⟨fun c s t ht hp hr => ?_, fun c s t ht hp hr hf => ?_⟩ <;>
    have h := isPowerReset_false hp hr <;> rw [eq_after ht]
  · exact ⟨after_straps s h, fun hf => ⟨after_now s h hf, after_settings s h hf⟩⟩
  · exact ⟨after_sched s h hf, fun ho => ⟨after_items s h hf ho, after_clock s h hf ho⟩⟩

end Sys2Proof.Machine

/-! Invariants through a step: a property that commands and ticks keep is kept by every step; and the pending list. -/

namespace Sys2Proof.Machine

/-- A property that does not look at the command queue, and that every tick and every command keeps, is kept by every step. -/
theorem step_keeps {P : State → Prop} (hq : ∀ s l n, P s → P { s with pending := l, choices := n }) (htick : ∀ s, P s → P (tick s))
    (hafter : ∀ c s, P s → P (after c s)) {s t : State} (hs : P s) (h : step s = .next t) : P t := by
  cases hp : s.pending with
  | nil =>
    rw [step_of_pending_nil hp] at h
    cases h
    by_cases hd : s.dueNow = []
    · rw [idle_of_dueNow_nil hd]
      exact htick s hs
    · rw [idle_of_dueNow_ne_nil hd]
      exact hq s _ _ hs
  | cons c rest =>
    have hstep : step s = exec c { s with pending := rest } := by unfold step; rw [hp]
    rw [eq_after (hstep.symm.trans h)]
    exact hafter c _ (hq s rest s.choices hs)

/-! ### Resets -/

/-- A property of every power-on state, of the reset of a part with any links, and of the state after an answer, is kept by
RESET_FULL. -/
theorem resetFullRequest_keeps {P : State → Prop} (hf : ∀ s, P (fullReset s)) (ha : ∀ r o d u, P u → P (answer r o d u))
    (r : Request) (s : State) (hs : P s) : P (resetFullRequest r s) := by
  unfold resetFullRequest
  refine withFields_keeps hs (ha r) (fun u hu => ?_)
  split
  · exact ha _ _ _ _ (hf u)
  · exact ha _ _ _ _ hu

/-! ### The pending list (R89, R90) -/

theorem Change.alike_iff {a b : Change} :
    a.alike b = true ↔ a.code = b.code ∧ a.time = b.time ∧ a.action.kind = b.action.kind := by
  simp [Change.alike, and_assoc]

/-- The order of two entries of the pending list, and that they are not alike. -/
def PendingEntry.before (a b : PendingEntry) : Prop :=
  (a.change.time < b.change.time ∨ a.change.time = b.change.time ∧ a.stamp < b.stamp) ∧ a.change.alike b.change = false

theorem PendingHolds.of_sched {s t : State} (h : t.sched = s.sched) (hs : PendingHolds s) : PendingHolds t := by
  simpa [PendingHolds, h] using hs

/-- Fewer entries in the same order, with the commit counter kept. -/
theorem PendingHolds.of_sublist {s t : State} (h : t.sched.entries.Sublist s.sched.entries)
    (hc : t.sched.commitCounter = s.sched.commitCounter) (hs : PendingHolds s) : PendingHolds t := by
  obtain ⟨hlen, hord, hstamp⟩ := hs
  exact ⟨h.length_le.trans hlen, hord.sublist h, fun e he => hc ▸ hstamp e (h.subset he)⟩

theorem PendingHolds.of_empty {s : State} (h : s.sched.entries = []) : PendingHolds s := by
  simp [PendingHolds, h]

/-- An entry alike the change put in its place stays before and behind the same entries. -/
theorem PendingEntry.before_replaced {c : Change} {batch : Nat} {a b : PendingEntry} (h : a.before b) :
    PendingEntry.before (if a.change.alike c then { a with batch := batch, change := c } else a)
      (if b.change.alike c then { b with batch := batch, change := c } else b) := by
  simp only [before, ← Bool.not_eq_true, Change.alike_iff] at h ⊢
  split <;> split <;> grind

/-- Entries whose times are not after that of the entry behind which they stand. -/
theorem time_le_of_mem_takeWhile {l : List PendingEntry} {t : Nat} {x : PendingEntry}
    (h : x ∈ l.takeWhile (fun x => x.change.time ≤ t)) : x.change.time ≤ t := by
  simpa using List.mem_takeWhile_imp h

/-- In a list in order of time, the entries behind the first one after `t` are all after `t`. -/
theorem lt_time_of_mem_dropWhile {t : Nat} :
    ∀ {l : List PendingEntry}, l.Pairwise PendingEntry.before → ∀ {x}, x ∈ l.dropWhile (fun x => x.change.time ≤ t) → t < x.change.time
  | [], _, x, hx => by simp at hx
  | e :: l, hl, x, hx => by
    obtain ⟨hhead, htail⟩ := List.pairwise_cons.1 hl
    by_cases he : e.change.time ≤ t
    · rw [List.dropWhile_cons_of_pos (by simpa using he)] at hx
      exact lt_time_of_mem_dropWhile htail hx
    · rw [List.dropWhile_cons_of_neg (by simpa using he)] at hx
      rcases List.mem_cons.1 hx with rfl | hx
      · omega
      · have := (hhead x hx).1
        omega

/-- A new entry in its place in time, with a stamp behind all others, keeps the order (R90). -/
theorem placeEntry_pairwise {e : PendingEntry} {l : List PendingEntry} (hl : l.Pairwise PendingEntry.before)
    (hstamp : ∀ x ∈ l, x.stamp < e.stamp) (hnew : ∀ x ∈ l, x.change.alike e.change = false) :
    (placeEntry e l).Pairwise PendingEntry.before := by
  have hsplit : l.takeWhile (fun x => x.change.time ≤ e.change.time) ++ l.dropWhile (fun x => x.change.time ≤ e.change.time) = l :=
    List.takeWhile_append_dropWhile
  rw [← hsplit] at hl
  obtain ⟨hfront, hback, hcross⟩ := List.pairwise_append.1 hl
  unfold placeEntry
  refine List.pairwise_append.2 ⟨hfront, List.pairwise_cons.2 ⟨fun b hb => ?_, hback⟩, fun a ha b hb => ?_⟩
  · have hmem : b ∈ l := (List.dropWhile_sublist _).subset hb
    refine ⟨.inl (lt_time_of_mem_dropWhile (hsplit ▸ hl) hb), ?_⟩
    have := hnew b hmem
    rw [Bool.eq_false_iff, ne_eq, Change.alike_iff] at this ⊢
    exact fun ⟨h1, h2, h3⟩ => this ⟨h1.symm, h2.symm, h3.symm⟩
  · rcases List.mem_cons.1 hb with rfl | hb
    · have hmem : a ∈ l := (List.takeWhile_sublist _).subset ha
      have := time_le_of_mem_takeWhile ha
      have := hstamp a hmem
      exact ⟨by omega, hnew a hmem⟩
    · exact hcross a ha b hb

theorem mem_placeEntry {e x : PendingEntry} {l : List PendingEntry} (h : x ∈ placeEntry e l) : x = e ∨ x ∈ l := by
  unfold placeEntry at h
  rcases List.mem_append.1 h with h | h
  · exact .inr ((List.takeWhile_sublist _).subset h)
  · exact (List.mem_cons.1 h).imp_right fun h => (List.dropWhile_sublist _).subset h

theorem length_placeEntry (e : PendingEntry) (l : List PendingEntry) : (placeEntry e l).length = l.length + 1 := by
  have hsplit : (l.takeWhile (fun x => x.change.time ≤ e.change.time)).length +
      (l.dropWhile (fun x => x.change.time ≤ e.change.time)).length = l.length := by
    rw [← List.length_append, List.takeWhile_append_dropWhile]
  simp only [placeEntry, List.length_append, List.length_cons]
  omega

/-- What an insert request can do: replace the entry alike in place, put a new entry in, or be refused (R90). -/
theorem insertPending_cases (batch : Nat) (c : Change) (s : State) :
    ((∃ x ∈ s.sched.entries, x.change.alike c = true) ∧ insertPending batch c s = (true, setEntries
      (s.sched.entries.map (fun x => if x.change.alike c then { x with batch := batch, change := c } else x)) s)) ∨
    ((¬∃ x ∈ s.sched.entries, x.change.alike c = true) ∧ s.sched.entries.length < 8192 ∧
      insertPending batch c s = (true, { s with sched :=
        ⟨placeEntry ⟨c, batch, s.sched.commitCounter⟩ s.sched.entries, s.sched.commitCounter + 1⟩ })) ∨
    ((¬∃ x ∈ s.sched.entries, x.change.alike c = true) ∧ 8192 ≤ s.sched.entries.length ∧ insertPending batch c s = (false, s)) := by
  unfold insertPending
  split
  · next h => exact .inl ⟨List.any_eq_true.1 h, rfl⟩
  · next h =>
    rw [List.any_eq_true] at h
    split
    · next hlen => exact .inr (.inl ⟨h, hlen, rfl⟩)
    · next hlen => exact .inr (.inr ⟨h, by omega, rfl⟩)

theorem insertPending_pending (batch : Nat) (c : Change) {s : State} (hs : PendingHolds s) : PendingHolds (insertPending batch c s).2 := by
  obtain ⟨hlen, hord, hstamp⟩ := hs
  obtain ⟨-, h⟩ | ⟨hnew, hroom, h⟩ | ⟨-, -, h⟩ := insertPending_cases batch c s <;> rw [h]
  · refine ⟨by simpa using hlen, ?_, fun e he => ?_⟩
    · exact List.pairwise_map.2 (List.Pairwise.imp (fun {a b} => PendingEntry.before_replaced) hord)
    · obtain ⟨x, hx, rfl⟩ := List.mem_map.1 he
      have := hstamp x hx
      split <;> exact this
  · refine ⟨?_, ?_, fun e he => ?_⟩
    · simp only [length_placeEntry]
      omega
    · refine placeEntry_pairwise hord hstamp (fun x hx => ?_)
      exact Bool.eq_false_iff.2 fun ha => hnew ⟨x, hx, ha⟩
    · rcases mem_placeEntry he with rfl | hx
      · exact Nat.lt_succ_self _
      · exact Nat.lt_succ_of_lt (hstamp e hx)
  · exact ⟨hlen, hord, hstamp⟩

theorem commitChangeStep_pending {s : State} (hs : PendingHolds s) : PendingHolds (commitChangeStep s) := by
  unfold commitChangeStep
  dsimp only
  split
  · next k _ =>
    split
    · exact hs
    · next c rest _ =>
      have := insertPending_pending k.batch c hs
      split <;> exact this.of_sched (by simp)
  · exact hs

/-- What an activation leaves of the pending list: the list, or all of it but its due head. -/
theorem activationStep_sched (s : State) : (activationStep s).sched = s.sched ∨
    ∃ e rest, s.sched.entries = e :: rest ∧ (activationStep s).sched = { s.sched with entries := rest } := by
  unfold activationStep
  split
  · exact .inl rfl
  · next e rest h =>
    split
    · exact .inr ⟨e, rest, h, by simp [setEntries]⟩
    · exact .inl rfl

theorem activationStep_pending {s : State} (hs : PendingHolds s) : PendingHolds (activationStep s) := by
  obtain h | ⟨e, rest, he, h⟩ := activationStep_sched s
  · exact hs.of_sched h
  · exact hs.of_sublist (by rw [h, he]; exact List.sublist_cons_self e rest) (by rw [h])

theorem cancelPending_pending (code time : Nat) (k : ChangeKind) {s : State} (hs : PendingHolds s) :
    PendingHolds (cancelPending code time k s).2 := by
  unfold cancelPending
  split
  · exact PendingHolds.of_sublist (s := s) (by simp) rfl hs
  · exact hs

theorem cancelRequest_pending (r : Request) {s : State} (hs : PendingHolds s) : PendingHolds (cancelRequest r s) := by
  have ha : ∀ o d u, PendingHolds u → PendingHolds (answer r o d u) := fun o d u hu => hu.of_sched (by simp)
  unfold cancelRequest
  split
  · exact ha _ _ _ hs
  · refine withFields_keeps hs ha (fun u hu => ?_)
    dsimp only
    (repeat' split)
    · exact ha _ _ _ (cancelPending_pending _ _ _ hu)
    · exact ha _ _ _ hu
    · exact ha _ _ _ hu

theorem after_pendingHolds (c : Instr) (s : State) (hs : PendingHolds s) : PendingHolds (after c s) := by
  have ht : ∀ r u, PendingHolds u → PendingHolds (takeRequest r u) := fun r u hu => hu.of_sched (by simp)
  cases c
  case powerOn | resetPin => exact .of_empty rfl
  case resetFull =>
    exact runHead_keeps hs ht (resetFullRequest_keeps (fun u => .of_empty rfl) (fun r o d u hu => hu.of_sched (by simp)))
  case activation => exact activationStep_pending hs
  case commitChange => exact commitChangeStep_pending hs
  case pendingCancel => exact runHead_keeps hs ht (fun r u => cancelRequest_pending r)
  all_goals exact hs.of_sched (by simp)

/-- Settles O6: only COMMIT_CHANGE puts an entry in; ACTIVATION and PENDING_CANCEL take entries out. -/
theorem everyStepKeepsThePendingList : Obligations.EveryStepKeepsThePendingList :=
  fun _ _ hs h => step_keeps (fun _ _ _ h => h.of_sched rfl) (fun _ h => h.of_sched rfl) after_pendingHolds hs h

end Sys2Proof.Machine

/-! What most operations are made of: a property of states kept by a few basic operations is kept by all that are built from them. -/

namespace Sys2Proof.Machine

/-! ### The messages that wait -/

theorem mem_heldMessages {s : State} {m : Msg} :
    m ∈ s.heldMessages ↔ m ∈ s.till.backlog ∨ s.journal.held = some m ∨ (∃ h, s.disp.held = some h ∧ h.2 = m) ∨
      s.uplink.held = some m ∨ m ∈ s.exch.outbox ∨ ∃ i ∈ s.mgmt.outbox, i.msg = m := by
  simp [State.heldMessages, Option.map_eq_some_iff]

/-- A message that may wait in a state that follows `s`: its link is up, or one for its port waits in `s`. -/
def MayWait (s : State) (m : Msg) : Prop := s.linkIsUp m.port = true ∨ ∃ x ∈ s.heldMessages, x.port = m.port

theorem MayWait.of_held {s : State} {m : Msg} (h : m ∈ s.heldMessages) : MayWait s m := .inr ⟨m, h, rfl⟩

/-- What bounds the exchange outbox (R120). -/
def Exchange.fits (e : Exchange) : Prop := e.outbox.length ≤ 8 ∧ (e.state.active = true → e.outbox.length ≤ 7)

/-- The bounds of `SizesHold` but the one of the exchange outbox, which rests on what the exchange unit does next. -/
def BoundsHold (s : State) : Prop :=
  s.till.intake.length ≤ 64 ∧ s.journal.credit ≤ 4000 ∧ s.clock.second < 86400 ∧ s.uplink.history.length ≤ 8 ∧
    s.guest.coolOff.length ≤ 64 ∧ s.mon.counters.length = 8 ∧ s.mgmt.requests.length ≤ 8 ∧ s.mgmt.overflow ≤ 65535 ∧
    s.mgmt.notices.length ≤ 32 ∧ s.mgmt.owed ≤ 32

theorem sizesHold_iff {s : State} : SizesHold s ↔ BoundsHold s ∧ s.exch.fits := by
  simp only [SizesHold, BoundsHold, Exchange.fits, and_assoc]

/-- The basic operations of the model, as a property of states sees them. `write` is any write that leaves the pool and the monitor,
overfills nothing, and leaves no message waiting but those that may. -/
structure Closed (P : State → Prop) : Prop where
  write : ∀ {s t : State}, t.pool = s.pool → t.mon = s.mon → (∀ m ∈ t.heldMessages, MayWait s m) → (BoundsHold s → BoundsHold t) →
    P s → P t
  reoffer : ∀ {s : State} (b : Bool), P s → P { s with pool := { s.pool with reoffer := b } }
  count : ∀ {s : State} (o : Occ), P s → P (count o s)
  activity : ∀ {s : State} (p : Port) (a : Option Nat), P s → P (setPort p { s.port p with activity := a } s)
  enqueue : ∀ {s : State} (p : Port) (f : QFrame), s.linkIsUp p = true → admissible p f s = true → P s → P (enqueue p f s)
  removeFrames : ∀ {s : State} (p : Port) (sel : QFrame → Bool) (why : QFrame → List Occ), P s → P (removeFrames p sel why s)
  transmitEnd : ∀ {s : State} (p : Port), P s → P (transmitEndStep p s)
  emptyPorts : ∀ {s : State}, P s → P (poolResetTraffic s)

section
variable {P : State → Prop} (K : Closed P) {s : State}
include K

/-! ### Writes of one block -/

/-- A write of the blocks that hold no message and no bounded list. -/
theorem Closed.narrow {t : State} (hs : P s) (hpool : t.pool = s.pool := by rfl) (hmon : t.mon = s.mon := by rfl)
    (hmgmt : t.mgmt = s.mgmt := by rfl) (htill : t.till = s.till := by rfl) (hjournal : t.journal = s.journal := by rfl)
    (huplink : t.uplink = s.uplink := by rfl) (hexch : t.exch = s.exch := by rfl) (hheld : t.disp.held = s.disp.held := by rfl)
    (hclock : t.clock = s.clock := by rfl) (hcool : t.guest.coolOff = s.guest.coolOff := by rfl) : P t := by
  refine K.write hpool hmon (fun m hm => .of_held ?_) (fun h => ?_) hs
  · simpa only [mem_heldMessages, hmgmt, htill, hjournal, huplink, hexch, hheld] using hm
  · simpa only [BoundsHold, hmon, hmgmt, htill, hjournal, huplink, hclock, hcool] using h

theorem Closed.setTill {v : TillService} (hb : ∀ m ∈ v.backlog, s.linkIsUp m.port = true ∨ ∃ x ∈ s.till.backlog, x.port = m.port)
    (hi : s.till.intake.length ≤ 64 → v.intake.length ≤ 64) (hs : P s) : P (setTill v s) := by
  refine K.write (s := s) rfl rfl (fun m hm => ?_) (fun h => ?_) hs
  · rw [mem_heldMessages] at hm
    rcases hm with hm | hm
    · exact (hb m hm).imp_right fun ⟨x, hx, hp⟩ => ⟨x, mem_heldMessages.2 (.inl hx), hp⟩
    · exact .of_held (mem_heldMessages.2 (.inr hm))
  · obtain ⟨h, hrest⟩ := h
    exact ⟨hi h, hrest⟩

theorem Closed.setJournal {j : Journal} (hh : ∀ m, j.held = some m → s.linkIsUp m.port = true ∨ s.journal.held = some m)
    (hc : s.journal.credit ≤ 4000 → j.credit ≤ 4000) (hs : P s) : P (setJournal j s) := by
  refine K.write (s := s) rfl rfl (fun m hm => ?_) (fun h => ?_) hs
  · rw [mem_heldMessages] at hm
    rcases hm with hm | hm | hm
    · exact .of_held (mem_heldMessages.2 (.inl hm))
    · exact (hh m hm).imp_right fun hx => ⟨m, mem_heldMessages.2 (.inr (.inl hx)), rfl⟩
    · exact .of_held (mem_heldMessages.2 (.inr (.inr hm)))
  · obtain ⟨h1, h, hrest⟩ := h
    exact ⟨h1, hc h, hrest⟩

/-- A write of the journal that keeps the message that waits, if there is one, and the credit. -/
theorem Closed.setJournal_same {j : Journal} (hh : j.held = s.journal.held ∨ j.held = none) (hc : j.credit ≤ s.journal.credit)
    (hs : P s) : P (Machine.setJournal j s) := by
  refine K.setJournal (fun m hm => .inr ?_) (fun h => hc.trans h) hs
  rcases hh with hh | hh
  · rw [← hh, hm]
  · simp [hh] at hm

theorem Closed.setUplink {u : Uplink} (hh : ∀ m, u.held = some m → s.linkIsUp m.port = true ∨ s.uplink.held = some m)
    (hc : s.uplink.history.length ≤ 8 → u.history.length ≤ 8) (hs : P s) : P (setUplink u s) := by
  refine K.write (s := s) rfl rfl (fun m hm => ?_) (fun h => ?_) hs
  · rw [mem_heldMessages] at hm
    rcases hm with hm | hm | hm | hm | hm
    · exact .of_held (mem_heldMessages.2 (.inl hm))
    · exact .of_held (mem_heldMessages.2 (.inr (.inl hm)))
    · exact .of_held (mem_heldMessages.2 (.inr (.inr (.inl hm))))
    · exact (hh m hm).imp_right fun hx => ⟨m, mem_heldMessages.2 (.inr (.inr (.inr (.inl hx)))), rfl⟩
    · exact .of_held (mem_heldMessages.2 (.inr (.inr (.inr (.inr hm)))))
  · obtain ⟨h1, h2, h3, h, hrest⟩ := h
    exact ⟨h1, h2, h3, hc h, hrest⟩

/-- A write of the uplink monitor that keeps the probe that waits, if there is one, and the history. -/
theorem Closed.setUplink_same {u : Uplink} (hh : u.held = s.uplink.held ∨ u.held = none) (hc : u.history = s.uplink.history)
    (hs : P s) : P (Machine.setUplink u s) := by
  refine K.setUplink (fun m hm => .inr ?_) (fun h => hc ▸ h) hs
  rcases hh with hh | hh
  · rw [← hh, hm]
  · simp [hh] at hm

theorem Closed.setExch {e : Exchange} (hm : ∀ m ∈ e.outbox, s.linkIsUp m.port = true ∨ m ∈ s.exch.outbox) (hs : P s) :
    P (setExch e s) := by
  refine K.write (s := s) rfl rfl (fun m hm' => ?_) (fun h => h) hs
  rw [mem_heldMessages] at hm'
  rcases hm' with h | h | h | h | h | h
  · exact .of_held (mem_heldMessages.2 (.inl h))
  · exact .of_held (mem_heldMessages.2 (.inr (.inl h)))
  · exact .of_held (mem_heldMessages.2 (.inr (.inr (.inl h))))
  · exact .of_held (mem_heldMessages.2 (.inr (.inr (.inr (.inl h)))))
  · exact (hm m h).imp_right fun hx => ⟨m, mem_heldMessages.2 (.inr (.inr (.inr (.inr (.inl hx))))), rfl⟩
  · exact .of_held (mem_heldMessages.2 (.inr (.inr (.inr (.inr (.inr h))))))

/-- What bounds the management unit's lists and figures (R190, R195, R197). -/
def Mgmt.fits (m : Mgmt) : Prop := m.requests.length ≤ 8 ∧ m.overflow ≤ 65535 ∧ m.notices.length ≤ 32 ∧ m.owed ≤ 32

theorem Closed.setMgmt {v : Mgmt} (hm : ∀ i ∈ v.outbox, s.linkIsUp i.msg.port = true ∨ i ∈ s.mgmt.outbox)
    (hf : s.mgmt.fits → v.fits) (hs : P s) : P { s with mgmt := v } := by
  refine K.write (s := s) rfl rfl (fun m hm' => ?_) (fun h => ?_) hs
  · rw [mem_heldMessages] at hm'
    rcases hm' with h | h | h | h | h | ⟨i, hi, rfl⟩
    · exact .of_held (mem_heldMessages.2 (.inl h))
    · exact .of_held (mem_heldMessages.2 (.inr (.inl h)))
    · exact .of_held (mem_heldMessages.2 (.inr (.inr (.inl h))))
    · exact .of_held (mem_heldMessages.2 (.inr (.inr (.inr (.inl h)))))
    · exact .of_held (mem_heldMessages.2 (.inr (.inr (.inr (.inr (.inl h))))))
    · exact (hm i hi).imp_right fun hx =>
        ⟨i.msg, mem_heldMessages.2 (.inr (.inr (.inr (.inr (.inr ⟨i, hx, rfl⟩))))), rfl⟩
  · obtain ⟨h1, h2, h3, h4, h5, h6, hmgmt⟩ := h
    exact ⟨h1, h2, h3, h4, h5, h6, hf hmgmt⟩

theorem Closed.setHeldPush {v : Dispatcher} (hh : ∀ h, v.held = some h → s.linkIsUp h.2.port = true ∨ s.disp.held = some h) (hs : P s) :
    P { s with disp := v } := by
  refine K.write (s := s) rfl rfl (fun m hm => ?_) (fun h => h) hs
  rw [mem_heldMessages] at hm
  rcases hm with hm | hm | ⟨h, hd, rfl⟩ | hm
  · exact .of_held (mem_heldMessages.2 (.inl hm))
  · exact .of_held (mem_heldMessages.2 (.inr (.inl hm)))
  · exact (hh h hd).imp_right fun hx => ⟨h.2, mem_heldMessages.2 (.inr (.inr (.inl ⟨h, hx, rfl⟩))), rfl⟩
  · exact .of_held (mem_heldMessages.2 (.inr (.inr (.inr hm))))

theorem Closed.setGuest {g : Guest} (hc : s.guest.coolOff.length ≤ 64 → g.coolOff.length ≤ 64) (hs : P s) : P (setGuest g s) := by
  refine K.write (s := s) rfl rfl (fun m hm => .of_held hm) (fun h => ?_) hs
  obtain ⟨h1, h2, h3, h4, h, hrest⟩ := h
  exact ⟨h1, h2, h3, h4, hc h, hrest⟩

theorem Closed.setClock {c : Clock} (hc : s.clock.second < 86400 → c.second < 86400) (hs : P s) : P { s with clock := c } := by
  refine K.write (s := s) rfl rfl (fun m hm => .of_held hm) (fun h => ?_) hs
  obtain ⟨h1, h2, h, hrest⟩ := h
  exact ⟨h1, h2, hc h, hrest⟩

/-! ### Counting and offers -/

theorem countMany_closed (o : Occ) (n : Nat) (hs : P s) : P (countMany o n s) := by
  induction n generalizing s with
  | zero => exact hs
  | succ n ih => exact ih (K.count o hs)

theorem lightPort_closed (p : Port) (hs : P s) : P (lightPort p s) := K.activity p _ hs

theorem offerForwarded_closed (p : Port) (f : QFrame) (hs : P s) : P (offerForwarded p f s) := by
  obtain ⟨hl, ha, h⟩ | ⟨-, h⟩ := offerForwarded_spec p f s <;> rw [h]
  · exact K.enqueue p f hl ha hs
  · exact K.count _ hs

theorem enqueue_generated_closed {g : Generator} {m : Msg} (hl : s.linkIsUp m.port = true)
    (hc : cellsFor (frameLength m.frame) ≤ s.pool.free) (hs : P s) :
    P (enqueue m.port ⟨m.frame, .urgent, .generated g m.kind, false⟩ s) :=
  K.enqueue _ _ hl (decide_eq_true hc) hs

theorem offer_closed (g : Generator) (m : Msg) (hs : P s) : P (offer g m s).2 := by
  obtain ⟨-, h⟩ | ⟨hl, hc, h⟩ | ⟨-, -, h⟩ := offer_spec g m s <;> rw [h]
  · exact K.count _ hs
  · exact enqueue_generated_closed K hl hc hs
  · exact hs

theorem offerInTurn_closed (g : Generator) : ∀ (l : List Msg) {s : State}, P s → P (offerInTurn g l s).2
  | [], _, hs => hs
  | m :: l, s, hs => by
    unfold offerInTurn
    dsimp only
    split
    · exact offerInTurn_closed g l (offer_closed K g m hs)
    · exact offer_closed K g m hs

theorem outboxInTurn_closed : ∀ (l : List OutItem) {s : State}, P s → P (outboxInTurn l s).2
  | [], _, hs => hs
  | i :: l, s, hs => by
    unfold outboxInTurn
    dsimp only
    split
    · exact outboxInTurn_closed l (offer_closed K _ _ hs)
    · exact offer_closed K _ _ hs

/-- Sending behind a list keeps what keeping the message, its link being up, keeps. -/
theorem sendBehind_closed {α : Type} {g : Generator} {waiting : List α} {m : Msg} {hold : State → State}
    (hh : s.linkIsUp m.port = true → P (hold s)) (hs : P s) : P (sendBehind g waiting m hold s) := by
  obtain ⟨-, hl, h⟩ | ⟨-, h⟩ | ⟨-, hl, hc, h⟩ | ⟨-, hl, -, h⟩ := sendBehind_cases g waiting m hold s <;> rw [h]
  · exact hh hl
  · exact K.count _ hs
  · exact enqueue_generated_closed K hl hc hs
  · exact hh hl

theorem offerOr_closed {g : Generator} {m : Msg} {hold : State → State} (hh : s.linkIsUp m.port = true → P (hold s)) (hs : P s) :
    P (offerOr g m hold s) :=
  sendBehind_closed (waiting := ([] : List Unit)) K hh hs

end

/-- What an offer of a list leaves over is a part of the list. -/
theorem offerInTurn_suffix (g : Generator) : ∀ (l : List Msg) (s : State), (offerInTurn g l s).1 <:+ l
  | [], _ => List.suffix_rfl
  | m :: l, s => by
    unfold offerInTurn
    dsimp only
    split
    · exact (offerInTurn_suffix g l _).trans (List.suffix_cons m l)
    · exact List.suffix_rfl

theorem outboxInTurn_suffix : ∀ (l : List OutItem) (s : State), (outboxInTurn l s).1 <:+ l
  | [], _ => List.suffix_rfl
  | i :: l, s => by
    unfold outboxInTurn
    dsimp only
    split
    · exact (outboxInTurn_suffix l _).trans (List.suffix_cons i l)
    · exact List.suffix_rfl

section
variable {P : State → Prop} (K : Closed P) {s : State}
include K

/-! ### Notices and answers -/

theorem sendOut_closed (i : OutItem) (hs : P s) : P (sendOut i s) := by
  refine sendBehind_closed K (fun hl => K.setMgmt (fun j hj => ?_) (fun h => h) hs) hs
  rcases List.mem_append.1 hj with hj | hj
  · exact .inr hj
  · rw [List.mem_singleton.1 hj]
    exact .inl hl

theorem answer_closed (r : Request) (o : MgmtResult) (d : List Byte) (hs : P s) : P (answer r o d s) := sendOut_closed K _ hs

theorem sendNotice_closed (n : Notice) (hs : P s) : P (sendNotice n s) := by
  unfold sendNotice
  split
  · exact hs
  · exact sendOut_closed K _ (K.setMgmt (fun _ => .inr) (fun h => by simpa [Mgmt.fits] using h) hs)

theorem sendUnsent_closed (hs : P s) : P (sendUnsent s) := foldl_keeps (fun _ n h => sendNotice_closed K n h) _ _ hs

theorem startPulse_closed (hs : P s) : P (startPulse s) := by
  unfold startPulse
  split
  · refine K.setMgmt (fun _ => .inr) (fun ⟨h1, h2, h3, h4⟩ => ⟨h1, h2, h3, ?_⟩) hs
    dsimp only
    omega
  · exact hs

theorem queueNotice_closed (b : NoticeBody) (hs : P s) : P (queueNotice b s) := by
  refine K.setMgmt (fun i hi => .inr (List.mem_of_mem_filter hi)) (fun ⟨h1, h2, h3, h4⟩ => ⟨h1, h2, ?_, ?_⟩) hs
  · dsimp only
    split <;> simp at * <;> omega
  · dsimp only
    split <;> omega

theorem raiseNotice_closed (b : NoticeBody) (hs : P s) : P (raiseNotice b s) :=
  sendNotice_closed K _ (startPulse_closed K (queueNotice_closed K b hs))

/-! ### The sale journal -/

theorem testHighWater_closed (hs : P s) : P (testHighWater s) := by
  unfold testHighWater
  have hset : ∀ b, P (setJournal { s.journal with highArmed := b } s) := fun b => K.setJournal_same (.inl rfl) (Nat.le_refl _) hs
  split
  · split
    · exact raiseNotice_closed K _ (hset false)
    · exact hs
  · exact hset true

theorem testFull_closed (hs : P s) : P (testFull s) := by
  unfold testFull
  have hset : ∀ b, P (setJournal { s.journal with fullArmed := b } s) := fun b => K.setJournal_same (.inl rfl) (Nat.le_refl _) hs
  split
  · split
    · exact raiseNotice_closed K _ (hset false)
    · exact hs
  · exact hset true

theorem testLevels_closed (hs : P s) : P (testLevels s) := testFull_closed K (testHighWater_closed K hs)

theorem journalTake_closed {till saleSeq seq : Nat} {body : List Byte} {t : State}
    (h : journalTake till saleSeq body s = some (seq, t)) (hs : P s) : P t := by
  obtain ⟨-, -, rfl⟩ := journalTake_eq h
  exact testLevels_closed K (K.count _ (K.setJournal_same (.inl rfl) (Nat.le_refl _) hs))

theorem holdSend_closed {m : Msg} (hl : s.linkIsUp m.port = true) (hs : P s) :
    P (setJournal { s.journal with held := some m } s) :=
  K.setJournal (fun _ hm => .inl (Option.some.inj hm ▸ hl)) id hs

theorem sendRecord_closed (r : SaleRec) (hs : P s) : P (sendRecord r s) := by
  have h : P (count (occQ .journalRecords 1) (setJournal { s.journal with
      next := seqAfter s.journal.next
      credit := s.journal.credit - 1000
      ackTimer := if s.journal.sentCount = 0 then some s.now else s.journal.ackTimer } s)) :=
    K.count _ (K.setJournal_same (.inl rfl) (Nat.sub_le _ _) hs)
  unfold sendRecord
  exact offerOr_closed K (fun hl => holdSend_closed K hl h) h

theorem journalSendStep_closed (hs : P s) : P (journalSendStep s) := by
  unfold journalSendStep
  (repeat' split) <;> first | exact sendRecord_closed K _ hs | exact hs

theorem pacingRefillStep_closed (hs : P s) : P (pacingRefillStep s) :=
  K.setJournal (fun _ => .inr) (fun _ => Nat.min_le_left _ _) hs

theorem reofferSend_closed (hs : P s) : P (reofferSend s) := by
  unfold reofferSend
  dsimp only
  (repeat' split)
  · exact hs
  · exact K.setJournal_same (.inr rfl) (Nat.le_refl _) (offer_closed K _ _ hs)
  · exact offer_closed K _ _ hs

theorem takeValidAck_closed (n d : Nat) (hs : P s) : P (takeValidAck n d s) :=
  testLevels_closed K (countMany_closed K _ _ (K.setJournal_same (.inl rfl) (Nat.le_refl _) hs))

theorem takeAck_closed (n : Nat) (hs : P s) : P (takeAck n s) := by
  unfold takeAck
  dsimp only
  (repeat' split) <;> first | exact K.count _ hs | exact takeValidAck_closed K _ _ hs

theorem rewind_closed (hs : P s) : P (rewind s) := K.setJournal_same (.inr rfl) (Nat.le_refl _) hs

theorem ackTimeoutStep_closed (hs : P s) : P (ackTimeoutStep s) := by
  unfold ackTimeoutStep
  (repeat' split) <;> first | exact rewind_closed K (K.count _ hs) | exact hs

theorem journalFallback_closed (b : Bool) (hs : P s) : P (journalFallback b s) := by
  refine K.removeFrames _ _ _ ?_
  split
  · exact K.setJournal_same (.inr rfl) (Nat.le_refl _) hs
  · exact rewind_closed K hs

theorem journalResetTraffic_closed (hs : P s) : P (journalResetTraffic s) := K.setJournal_same (.inr rfl) (Nat.zero_le _) hs

end

end Sys2Proof.Machine

/-! The label dispatcher, the schedule, the exchange unit, the guest unit and the till service, under a closed property. -/

namespace Sys2Proof.Machine

section
variable {P : State → Prop} (K : Closed P) {s : State}
include K

/-! ### The label dispatcher -/

theorem setLabel_closed (n : Nat) (r : LabelRec) (hs : P s) : P (setLabel n r s) := K.narrow hs

theorem setQueue_closed (q : List LabelEntry) (hs : P s) : P (setQueue q s) := K.narrow hs

theorem mapEntry_closed (n : Nat) (f : LabelEntry → LabelEntry) (hs : P s) : P (mapEntry n f s) := K.narrow hs

theorem appendEntry_closed (n k : Nat) (hs : P s) : P (appendEntry n k s) := K.narrow hs

theorem setItems_closed (m : SMap ItemRec) (hs : P s) : P { s with items := m } := K.narrow hs

theorem owe_closed (n : Nat) (hs : P s) : P (owe n s) := by
  unfold owe
  split
  · split <;> exact mapEntry_closed K _ _ hs
  · split
    · exact hs
    · split
      · exact appendEntry_closed K _ _ hs
      · exact K.count _ (setLabel_closed K _ _ hs)

theorem oweAll_closed (ns : List Nat) (hs : P s) : P (oweAll ns s) := foldl_keeps (fun _ n h => owe_closed K n h) _ _ hs

theorem sweepOne_closed (n : Nat) (hs : P s) : P (sweepOne s n) := by
  unfold sweepOne
  split
  · exact appendEntry_closed K _ _ (setLabel_closed K _ _ hs)
  · exact hs

theorem removeEntry_closed (n : Nat) (hs : P s) : P (removeEntry n s) :=
  foldl_keeps (fun _ n h => sweepOne_closed K n h) _ _ (setQueue_closed K _ hs)

theorem backToWaiting_closed (n k : Nat) (hs : P s) : P (backToWaiting n k s) := appendEntry_closed K _ _ (setQueue_closed K _ hs)

theorem holdPush_closed {h : Nat × Msg} (hl : s.linkIsUp h.2.port = true) (hs : P s) :
    P { s with disp := { s.disp with held := some h } } :=
  K.setHeldPush (fun _ hh => .inl (Option.some.inj hh ▸ hl)) hs

theorem dropPush_closed (hs : P s) : P { s with disp := { s.disp with held := none } } :=
  K.setHeldPush (fun _ hh => nomatch hh) hs

theorem fly_closed (e : LabelEntry) (tag : Nat) (hs : P s) : P (fly e tag s) := K.narrow hs

theorem push_closed (e : LabelEntry) (a : Addr) (hs : P s) : P (push e a s) := by
  unfold push
  exact offerOr_closed K (fun hl => holdPush_closed K hl (K.count _ (fly_closed K e _ hs))) (K.count _ (fly_closed K e _ hs))

theorem dispatchLoop_closed (fuel : Nat) (hs : P s) : P (dispatchLoop fuel s) := by
  induction fuel generalizing s with
  | zero => exact hs
  | succ fuel ih =>
    unfold dispatchLoop
    split
    · exact hs
    · split
      · exact hs
      · exact ih (removeEntry_closed K _ hs)
      · exact ih (push_closed K _ _ hs)

theorem dispatch_closed (hs : P s) : P (dispatch s) := dispatchLoop_closed K _ hs

theorem dispatchOn_closed (u : State) (hs : P s) : P (dispatchOn u s) := by
  obtain h | ⟨-, h⟩ := dispatchOn_cases u s <;> rw [h]
  · exact hs
  · exact dispatch_closed K hs

theorem takeShown_closed (e : LabelEntry) (f : Flight) (hs : P s) : P (takeShown e f s) := by
  have ht : P (if (s.label e.label).radio = f.radio then
      setLabel e.label { s.label e.label with reachable := true, display := displayAfter f } s else s) := by
    split
    · exact setLabel_closed K _ _ hs
    · exact hs
  unfold takeShown
  dsimp only
  split
  · exact backToWaiting_closed K _ _ ht
  · exact removeEntry_closed K _ ht

theorem giveUp_closed (e : LabelEntry) (o : Option FailOutcome) (hs : P s) : P (giveUp e o s) :=
  removeEntry_closed K _ (raiseNotice_closed K _ (setLabel_closed K _ _ hs))

theorem takeFailure_closed (e : LabelEntry) (f : Flight) (o : FailOutcome) (hs : P s) : P (takeFailure e f o s) := by
  unfold takeFailure
  dsimp only
  generalize (if f.superseded then 0 else e.attempts + 1) = attempts
  split
  · exact backToWaiting_closed K _ _ hs
  · exact giveUp_closed K _ _ hs

theorem expirePush_closed (tag : Nat) (hs : P s) : P (expirePush tag s) := by
  unfold expirePush
  (repeat' split) <;> first | exact takeFailure_closed K _ _ _ (K.count _ hs) | exact hs

theorem expirePushes_closed (hs : P s) : P (expirePushes s) :=
  dispatchOn_closed K _ (foldl_keeps (fun _ tag h => expirePush_closed K tag h) _ _ hs)

theorem takeLabelResult_closed (a : Addr) (b : List Byte) (hs : P s) : P (takeLabelResult a b s) := by
  have hc : ∀ o, P (count o s) := fun o => K.count o hs
  unfold takeLabelResult
  dsimp only
  split
  · exact hc _
  · split
    · exact hc _
    · split
      · exact hc _
      · refine dispatch_closed K ?_
        split
        · exact takeShown_closed K _ _ (hc _)
        · exact takeFailure_closed K _ _ _ (hc _)
        · exact takeFailure_closed K _ _ _ (hc _)
        · exact giveUp_closed K _ _ (hc _)

theorem recallEntry_closed (e : LabelEntry) (f : Flight) (hs : P s) : P (recallEntry e f s) := by
  unfold recallEntry
  dsimp only
  split
  · exact dropPush_closed K (backToWaiting_closed K _ _ hs)
  · exact backToWaiting_closed K _ _ hs

theorem recallLatest_closed (b n : Nat) (hs : P s) : P (recallLatest b n s) := by
  induction n generalizing s with
  | zero => exact hs
  | succ n ih =>
    unfold recallLatest
    split
    · exact ih (recallEntry_closed K _ _ hs)
    · exact hs

theorem recallSurplus_closed (hs : P s) : P (recallSurplus s) :=
  dispatchOn_closed K _ (foldl_keeps (fun _ _ h => recallLatest_closed K _ _ h) _ _ hs)

theorem reofferPush_closed (hs : P s) : P (reofferPush s) := by
  unfold reofferPush
  dsimp only
  (repeat' split)
  · exact hs
  · exact dispatch_closed K (dropPush_closed K (offer_closed K _ _ hs))
  · exact offer_closed K _ _ hs

theorem labelsResetTraffic_closed (hs : P s) : P (labelsResetTraffic s) :=
  dropPush_closed K (foldl_keeps (fun _ _ h => backToWaiting_closed K _ _ h) _ _ hs)

theorem noteBound_closed (n : Nat) (b : Option Nat) (hs : P s) : P (noteBound n b s) :=
  mapEntry_closed K _ _ (setLabel_closed K _ _ hs)

theorem writeItem_closed (code : Nat) (f : ItemFields) (hs : P s) : P (writeItem code f s).2 :=
  oweAll_closed K _ (setItems_closed K _ hs)

theorem setItemLabels_closed (code : Nat) (g : List Nat → List Nat) (hs : P s) : P (setItemLabels code g s) := by
  unfold setItemLabels
  split
  · exact setItems_closed K _ hs
  · exact hs

theorem bindLabel_closed (n code : Nat) (hs : P s) : P (bindLabel n code s).2 := by
  unfold bindLabel
  dsimp only
  (repeat' split)
  · exact hs
  · exact hs
  · exact hs
  · exact owe_closed K _ (noteBound_closed K _ _ (setItemLabels_closed K _ _ (setItemLabels_closed K _ _ hs)))
  · exact owe_closed K _ (noteBound_closed K _ _ (setItemLabels_closed K _ _ hs))

theorem unbindLabel_closed (n code : Nat) (hs : P s) : P (unbindLabel n code s).2 := by
  unfold unbindLabel
  split
  · exact owe_closed K _ (noteBound_closed K _ _ (setItemLabels_closed K _ _ hs))
  · exact hs

theorem deleteItem_closed (code : Nat) (hs : P s) : P (deleteItem code s).2 := by
  unfold deleteItem
  split
  · exact hs
  · exact setItems_closed K _ (foldl_keeps (fun _ n h => owe_closed K n (noteBound_closed K _ _ h)) _ _ hs)

/-! ### The schedule -/

theorem setEntries_closed (l : List PendingEntry) (hs : P s) : P (setEntries l s) := K.narrow hs

theorem insertPending_closed (batch : Nat) (c : Change) (hs : P s) : P (insertPending batch c s).2 := by
  obtain ⟨-, h⟩ | ⟨-, -, h⟩ | ⟨-, -, h⟩ := insertPending_cases batch c s <;> rw [h]
  · exact setEntries_closed K _ hs
  · exact K.narrow hs
  · exact hs

theorem applyChange_closed (c : Change) (hs : P s) : P (applyChange c s).2 := by
  unfold applyChange
  split
  · exact writeItem_closed K _ _ hs
  · exact deleteItem_closed K _ hs
  · exact bindLabel_closed K _ _ hs
  · exact unbindLabel_closed K _ _ hs

theorem activateEntry_closed (e : PendingEntry) (hs : P s) : P (activateEntry e s) := by
  unfold activateEntry
  dsimp only
  split
  · exact dispatchOn_closed K _ (applyChange_closed K _ hs)
  · exact raiseNotice_closed K _ (applyChange_closed K _ hs)

theorem activationStep_closed (hs : P s) : P (activationStep s) := by
  unfold activationStep
  (repeat' split) <;> first | exact activateEntry_closed K _ (K.count _ (setEntries_closed K _ hs)) | exact hs

theorem cancelPending_closed (code time : Nat) (k : ChangeKind) (hs : P s) : P (cancelPending code time k s).2 := by
  unfold cancelPending
  split
  · exact setEntries_closed K _ hs
  · exact hs

/-! ### The exchange unit -/

theorem setExchState_closed (x : ExchState) (hs : P s) : P (setExchState x s) := K.setExch (fun _ => .inr) hs

theorem sendExch_closed (m : Msg) (hs : P s) : P (sendExch m s) := by
  refine sendBehind_closed K (fun hl => K.setExch (fun x hx => ?_) hs) hs
  rcases List.mem_append.1 hx with hx | hx
  · exact .inr hx
  · rw [List.mem_singleton.1 hx]
    exact .inl hl

theorem reofferOutbox_closed (hs : P s) : P (reofferOutbox s) :=
  K.setExch (fun _ hm => .inr (by simpa using (offerInTurn_suffix _ _ _).subset hm)) (offerInTurn_closed K _ _ hs)

theorem sendReport_closed (b : List Byte) (hs : P s) : P (sendReport b s) := by
  unfold sendReport
  split
  · exact hs
  · exact sendExch_closed K _ hs

theorem discardBatch_closed (r : DiscardReason) (hs : P s) : P (discardBatch r s) := by
  unfold discardBatch
  split
  · have ht := K.count (occQ .batchesEnded r.index) (setExchState_closed K .idle hs)
    refine raiseNotice_closed K _ ?_
    split
    · exact sendReport_closed K _ ht
    · exact ht
  · exact hs

theorem takeRecord_closed (b : List Byte) (c : StagingCtx) (hs : P s) : P (takeRecord b c s) := by
  unfold takeRecord
  dsimp only
  (repeat' split) <;> first
    | exact K.count _ (setExchState_closed K _ hs)
    | exact setExchState_closed K _ hs

theorem takePriceChange_closed (b : List Byte) (hs : P s) : P (takePriceChange b s) := by
  unfold takePriceChange
  (repeat' split) <;> first | exact takeRecord_closed K _ _ hs | exact K.count _ hs

theorem endCommit_closed (c : CommitCtx) (hs : P s) : P (endCommit c s) :=
  K.count _ (setExchState_closed K _ (raiseNotice_closed K _ (sendReport_closed K _ (K.setExch (fun _ => .inr) hs))))

theorem beginCommit_closed (c : StagingCtx) (hs : P s) : P (beginCommit c s) := by
  unfold beginCommit
  dsimp only
  split
  · exact endCommit_closed K _ (setExchState_closed K _ hs)
  · exact setExchState_closed K _ hs

theorem takeExchClose_closed (b : List Byte) (hs : P s) : P (takeExchClose b s) := by
  unfold takeExchClose
  (repeat' split) <;> first
    | exact K.count _ hs
    | exact discardBatch_closed K _ hs
    | exact beginCommit_closed K _ hs

theorem commitChangeStep_closed (hs : P s) : P (commitChangeStep s) := by
  unfold commitChangeStep
  dsimp only
  split
  · next k _ =>
    split
    · exact hs
    · next c rest _ =>
      have hi := insertPending_closed K k.batch c hs
      split
      · exact endCommit_closed K _ (setExchState_closed K _ hi)
      · exact setExchState_closed K _ hi
  · exact hs

theorem quietTimeoutStep_closed (hs : P s) : P (quietTimeoutStep s) := by
  unfold quietTimeoutStep
  (repeat' split) <;> first | exact discardBatch_closed K _ hs | exact hs

/-! ### The guest unit -/

theorem setStations_closed (m : SMap Station) (hs : P s) : P (setStations m s) := K.narrow hs

theorem formRate_closed (hs : P s) : P (formRate s) := K.setGuest id hs

theorem bucketRefillStep_closed (hs : P s) : P (bucketRefillStep s) := K.setGuest id hs

theorem dropGuest_closed (a : Addr) (hs : P s) : P (dropGuest a s) := K.setGuest id hs

theorem putGuest_closed (g : GuestRec) (hs : P s) : P (putGuest g s) := K.setGuest id hs

theorem dropStation_closed (e : Station) (hs : P s) : P (dropStation e s) := by
  unfold dropStation
  dsimp only
  split
  · exact dropGuest_closed K _ (setStations_closed K _ hs)
  · exact setStations_closed K _ hs

omit K in
theorem joinCoolOff_length (seconds : Nat) {l : List (Addr × Nat)} (a : Addr) (h : l.length ≤ 64) :
    (joinCoolOff seconds l a).length ≤ 64 := by
  unfold joinCoolOff
  split <;> simp <;> omega

omit K in
theorem foldl_joinCoolOff_length (seconds : Nat) : ∀ (as : List Addr) {l : List (Addr × Nat)}, l.length ≤ 64 →
    (as.foldl (joinCoolOff seconds) l).length ≤ 64
  | [], _, h => h
  | a :: as, _, h => foldl_joinCoolOff_length seconds as (joinCoolOff_length seconds a h)

theorem guestSecondStepBody_closed (hs : P s) : P (guestSecondStepBody s) := by
  refine setStations_closed K _ (K.setGuest (fun h => foldl_joinCoolOff_length _ _ ?_) hs)
  exact (List.length_filter_le _ _).trans (by simpa using h)

theorem ageingStepBody_closed (hs : P s) : P (ageingStepBody s) := K.setGuest id (setStations_closed K _ hs)

theorem shapeAway_closed (p : Port) (g : GuestRec) (hs : P s) : P (shapeAway p g s) := K.count _ (putGuest_closed K _ hs)

theorem chargeUp_closed (g : GuestRec) (n : Nat) (hs : P s) : P (chargeUp g n s).2 := by
  unfold chargeUp
  (repeat' split) <;> first | exact shapeAway_closed K _ _ hs | exact K.setGuest id hs

theorem chargeDown_closed (g : GuestRec) (n : Nat) (hs : P s) : P (chargeDown g n s).2 := by
  unfold chargeDown
  (repeat' split) <;> first | exact shapeAway_closed K _ _ hs | exact putGuest_closed K _ hs

theorem stationsResetTraffic_closed (hs : P s) : P (stationsResetTraffic s) :=
  K.setGuest (fun _ => Nat.zero_le _) (K.narrow hs)

/-! ### The till service -/

/-- A write of the till service that keeps its messages and lengthens no queue. -/
theorem setTill_same_closed {v : TillService} (hb : v.backlog.Sublist s.till.backlog) (hi : v.intake.length ≤ s.till.intake.length)
    (hs : P s) : P (setTill v s) :=
  K.setTill (fun m hm => .inr ⟨m, hb.subset hm, rfl⟩) (fun h => hi.trans h) hs

theorem sendTill_closed (m : Msg) (hs : P s) : P (sendTill m s) := by
  refine sendBehind_closed K (fun hl => K.setTill (fun x hx => ?_) id hs) hs
  rcases List.mem_append.1 hx with hx | hx
  · exact .inr ⟨x, hx, rfl⟩
  · rw [List.mem_singleton.1 hx]
    exact .inl hl

theorem reofferBacklog_closed (hs : P s) : P (reofferBacklog s) :=
  setTill_same_closed K (by simpa using (offerInTurn_suffix _ _ _).sublist) (Nat.le_refl _) (offerInTurn_closed K _ _ hs)

theorem appendIntake_closed (e : IntakeEntry) (hs : P s) : P (appendIntake e s) := by
  unfold appendIntake
  split
  · refine K.setTill (fun m hm => .inr ⟨m, hm, rfl⟩) (fun _ => ?_) hs
    simp only [List.length_append, List.length_singleton]
    omega
  · exact K.count _ hs

theorem takePriceAsk_closed (a : Addr) (b : List Byte) (hs : P s) : P (takePriceAsk a b s) := by
  unfold takePriceAsk
  split
  · exact appendIntake_closed K _ hs
  · exact K.count _ hs

theorem takeSaleRecord_closed (a : Addr) (b : List Byte) (hs : P s) : P (takeSaleRecord a b s) := by
  unfold takeSaleRecord
  split
  · exact appendIntake_closed K _ hs
  · exact K.count _ hs

theorem answerAsk_closed (a : Addr) (tag code : Nat) (q : Quote) (hs : P s) : P (answerAsk a tag code q s) :=
  sendTill_closed K _ (K.count _ hs)

theorem referAsk_closed (n : Nat) (a : LiveAsk) (hs : P s) : P (referAsk n a s) :=
  sendTill_closed K _ (K.count _ (setTill_same_closed K (List.Sublist.refl _) (Nat.le_refl _) hs))

theorem takeMiss_closed (a : LiveAsk) (hs : P s) : P (takeMiss a s) := by
  unfold takeMiss
  split
  · exact answerAsk_closed K _ _ _ _ hs
  · split
    · exact referAsk_closed K _ _ hs
    · exact answerAsk_closed K _ _ _ _ hs

theorem takeAsk_closed (a : Addr) (tag code : Nat) (k : QtyKind) (q : Nat) (hs : P s) : P (takeAsk a tag code k q s) := by
  unfold takeAsk
  (repeat' split) <;> first
    | exact K.count _ hs
    | exact answerAsk_closed K _ _ _ _ hs
    | exact takeMiss_closed K _ hs

theorem answerSale_closed (a : Addr) (till saleSeq : Nat) (taken : Bool) (seq : Nat) (hs : P s) :
    P (answerSale a till saleSeq taken seq s) := sendTill_closed K _ hs

theorem takeSale_closed (a : Addr) (till saleSeq : Nat) (b : List Byte) (hs : P s) : P (takeSale a till saleSeq b s) := by
  unfold takeSale
  split
  · exact answerSale_closed K _ _ _ _ _ hs
  · split
    · next h =>
      exact answerSale_closed K _ _ _ _ _ (setTill_same_closed K (List.Sublist.refl _) (Nat.le_refl _) (journalTake_closed K h hs))
    · exact answerSale_closed K _ _ _ _ _ hs

theorem takeIntakeStep_closed (hs : P s) : P (takeIntakeStep s) := by
  unfold takeIntakeStep
  split
  · split
    · exact hs
    · next e rest h =>
      have ht : P (setTill { s.till with intake := rest } s) :=
        setTill_same_closed K (List.Sublist.refl _) (by rw [h]; exact Nat.le_succ _) hs
      dsimp only
      split
      · exact takeAsk_closed K _ _ _ _ _ ht
      · exact takeSale_closed K _ _ _ _ ht
  · exact hs

theorem endAsk_closed (n : Nat) (a : LiveAsk) (q : Quote) (hs : P s) : P (endAsk n a q s) :=
  setTill_same_closed K (List.Sublist.refl _) (Nat.le_refl _) (answerAsk_closed K _ _ _ _ hs)

theorem takeAbsentReply_closed (n : Nat) (a : LiveAsk) (c : ReplyContent) (hs : P s) : P (takeAbsentReply n a c s) := by
  unfold takeAbsentReply
  (repeat' split) <;> first
    | exact endAsk_closed K _ _ _ hs
    | exact endAsk_closed K _ _ _ (K.count _ hs)
    | exact endAsk_closed K _ _ _ (setItems_closed K _ hs)
    | exact endAsk_closed K _ _ _ (raiseNotice_closed K _ hs)

theorem takeItemReply_closed (b : List Byte) (hs : P s) : P (takeItemReply b s) := by
  unfold takeItemReply
  dsimp only
  (repeat' split) <;> first
    | exact endAsk_closed K _ _ _ hs
    | exact takeAbsentReply_closed K _ _ _ hs
    | exact K.count _ hs

theorem askTimeoutStep_closed (n : Nat) (hs : P s) : P (askTimeoutStep n s) := by
  unfold askTimeoutStep
  (repeat' split) <;> first | exact endAsk_closed K _ _ _ (K.count _ hs) | exact hs

theorem expireAsks_closed (hs : P s) : P (expireAsks s) := foldl_keeps (fun _ n h => askTimeoutStep_closed K n h) _ _ hs

theorem sendLinkState_closed (hs : P s) : P (sendLinkState s) := by
  unfold sendLinkState
  split
  · refine K.setTill (fun m hm => .inr ?_) id hs
    obtain ⟨x, hx, rfl⟩ := List.mem_map.1 hm
    exact ⟨x, hx, by split <;> rfl⟩
  · exact sendTill_closed K _ hs

theorem tillFallback_closed (b : Bool) (hs : P s) : P (tillFallback b s) := by
  have ht : P (if b then s else s.till.asks.foldl flushAsk s) := by
    split
    · exact hs
    · exact foldl_keeps (fun _ _ h => endAsk_closed K _ _ _ h) _ _ hs
  exact K.removeFrames _ _ _ (setTill_same_closed K List.filter_sublist (Nat.le_refl _) ht)

theorem tillResetTraffic_closed (hs : P s) : P (tillResetTraffic s) :=
  setTill_same_closed K (List.nil_sublist _) (Nat.zero_le _) hs

end

end Sys2Proof.Machine

/-! The uplink monitor, the clock, the frames, the settings, the requests and the resets, under a closed property; and the commands. -/

namespace Sys2Proof.Machine

theorem joinHistory_length (rtt : Nat) {h : List Nat} (hl : h.length ≤ 8) : (joinHistory rtt h).length ≤ 8 := by
  unfold joinHistory
  split <;> simp <;> omega

theorem Clock.nextSecond_second {c : Clock} (h : c.second < 86400) : c.nextSecond.second < 86400 := by
  unfold Clock.nextSecond
  have hd : daySeconds = 86400 := rfl
  split <;> dsimp only <;> omega

theorem clockOf_second (time : Nat) : (clockOf time).second < 86400 := Nat.mod_lt _ (by decide)

section
variable {P : State → Prop} (K : Closed P) {s : State}
include K

/-! ### The uplink monitor -/

theorem paymentFallback_closed (hs : P s) : P (paymentFallback s) := K.removeFrames _ _ _ hs

theorem poolFallback_closed (hs : P s) : P (poolFallback s) := K.removeFrames _ _ _ hs

theorem enterFallback_closed (c : UplinkCause) (hs : P s) : P (enterFallback c s) :=
  discardBatch_closed K _ (journalFallback_closed K _ (paymentFallback_closed K (tillFallback_closed K _ hs)))

theorem changeUplink_closed (new : UplinkState) (c : UplinkCause) (hs : P s) : P (changeUplink new c s) := by
  unfold changeUplink
  dsimp only
  split
  · exact hs
  · have ht := sendLinkState_closed K (K.setUplink_same (s := s) (u := { s.uplink with
      state := new, slowRun := 0, goodRun := 0, lostRun := 0 }) (.inl rfl) rfl hs)
    refine raiseNotice_closed K _ ?_
    split
    · exact poolFallback_closed K (formRate_closed K (enterFallback_closed K _ ht))
    · exact formRate_closed K ht

theorem holdProbe_closed {m : Msg} (hl : s.linkIsUp m.port = true) (hs : P s) :
    P (setUplink { s.uplink with held := some m } s) :=
  K.setUplink (fun _ hm => .inl (Option.some.inj hm ▸ hl)) id hs

theorem buildProbe_closed (hs : P s) : P (buildProbe s) := by
  unfold buildProbe
  have ht : P (setUplink { s.uplink with
      probe := some ⟨s.uplink.seq, s.now, false⟩, seq := succFromOne 4294967295 s.uplink.seq, timer := some s.now, held := none } s) :=
    K.setUplink_same (.inr rfl) rfl hs
  exact offerOr_closed K (fun hl => holdProbe_closed K hl ht) ht

theorem dropProbe_closed (hs : P s) : P (dropProbe s) := K.setUplink_same (.inr rfl) rfl hs

theorem startProbing_closed (hs : P s) : P (startProbing s) := by
  unfold startProbing
  split
  · exact buildProbe_closed K (dropProbe_closed K hs)
  · exact dropProbe_closed K hs

theorem loseProbe_closed (hs : P s) : P (loseProbe s) := by
  have ht : P (count (occQ .probeOutcomes 2) (setUplink { s.uplink with
      lostRun := min 3 (s.uplink.lostRun + 1), slowRun := 0, goodRun := 0, held := none } s)) :=
    K.count _ (K.setUplink_same (.inr rfl) rfl hs)
  unfold loseProbe
  dsimp only
  split
  · exact ht
  · exact changeUplink_closed K _ _ ht
  · split
    · exact changeUplink_closed K _ _ ht
    · exact ht

theorem judgeProbe_closed (hs : P s) : P (judgeProbe s) := by
  unfold judgeProbe
  split
  · exact loseProbe_closed K hs
  · exact hs

theorem probeTimerStep_closed (hs : P s) : P (probeTimerStep s) := by
  unfold probeTimerStep
  (repeat' split) <;> first | exact buildProbe_closed K (judgeProbe_closed K hs) | exact hs

theorem reofferProbe_closed (hs : P s) : P (reofferProbe s) := by
  unfold reofferProbe
  dsimp only
  (repeat' split)
  · exact hs
  · exact K.setUplink_same (.inr rfl) rfl (offer_closed K _ _ hs)
  · exact offer_closed K _ _ hs

theorem moveByEcho_closed (good : Bool) (hs : P s) : P (moveByEcho good s) := by
  unfold moveByEcho
  dsimp only
  (repeat' split) <;> first
    | exact changeUplink_closed K _ _ hs
    | exact K.setUplink_same (.inl rfl) rfl hs

theorem countEcho_closed (p : Probe) (hs : P s) : P (countEcho p s) := by
  refine moveByEcho_closed K _ (K.count _ (K.setUplink (fun _ => .inr) (fun h => ?_) hs))
  dsimp only
  split
  · exact joinHistory_length _ h
  · exact h

theorem takeLinkEcho_closed (b : List Byte) (hs : P s) : P (takeLinkEcho b s) := by
  unfold takeLinkEcho
  (repeat' split) <;> first | exact K.count _ hs | exact countEcho_closed K _ hs

theorem uplinkLinkDown_closed (hs : P s) : P (uplinkLinkDown s) := changeUplink_closed K _ _ (dropProbe_closed K hs)

theorem forceUplink_closed (on : Bool) (hs : P s) : P (forceUplink on s) := by
  unfold forceUplink
  split
  · exact changeUplink_closed K _ _ (K.setUplink_same (.inl rfl) rfl hs)
  · exact K.setUplink_same (.inl rfl) rfl hs

theorem headOfficeChanged_closed (hs : P s) : P (headOfficeChanged s) := by
  unfold headOfficeChanged
  split
  · exact changeUplink_closed K _ _ (dropProbe_closed K hs)
  · exact startProbing_closed K hs

theorem uplinkResetTraffic_closed (hs : P s) : P (uplinkResetTraffic s) :=
  startProbing_closed K (changeUplink_closed K _ _ (K.setUplink_same (.inr rfl) rfl hs))

/-! ### The store clock and EXCH-OPEN -/

theorem recomputeWindow_closed (hs : P s) : P (recomputeWindow s) := by
  unfold recomputeWindow
  split
  · exact hs
  · have ht : P { s with windowIn := s.windowNow } := K.narrow hs
    refine formRate_closed K ?_
    unfold exchWindowEvent
    split
    · exact discardBatch_closed K _ ht
    · exact ht

theorem clockSecondStep_closed (hs : P s) : P (clockSecondStep s) := by
  unfold clockSecondStep
  split
  · exact recomputeWindow_closed K (K.setClock Clock.nextSecond_second hs)
  · exact hs

theorem setClock_closed (time : Nat) (hs : P s) : P (setClock time s) :=
  recomputeWindow_closed K (K.setClock (fun _ => clockOf_second time) hs)

theorem takeExchOpen_closed (b : List Byte) (hs : P s) : P (takeExchOpen b s) := by
  unfold takeExchOpen
  split
  · exact K.count _ hs
  · refine sendExch_closed K _ ?_
    split
    · exact setExchState_closed K _ (setClock_closed K _ hs)
    · exact setClock_closed K _ hs

/-! ### Frames received -/

theorem putStation_closed (e : Station) (hs : P s) : P (putStation e s) := setStations_closed K _ hs

theorem learnGuest_closed (a : Addr) (hs : P s) : P (learnGuest a s).after := by
  unfold learnGuest
  dsimp only
  (repeat' split) <;> dsimp only [Learned.after]
  · exact K.count _ hs
  · exact K.count _ (K.count _ hs)
  · exact putGuest_closed K _ (putStation_closed K _ hs)

theorem learnStation_closed (p : Port) (a : Addr) (hs : P s) : P (learnStation p a s).after := by
  unfold learnStation
  dsimp only
  split <;> dsimp only [Learned.after]
  · exact putStation_closed K _ hs
  · exact K.count _ hs

theorem moveStation_closed (p : Port) (e : Station) (hs : P s) : P (moveStation p e s).after := by
  unfold moveStation
  dsimp only
  (repeat' split) <;> try dsimp only [Learned.after]
  · exact learnGuest_closed K _ (dropStation_closed K _ (K.count _ hs))
  · exact putStation_closed K _ (dropGuest_closed K _ (K.count _ hs))
  · exact putStation_closed K _ (K.count _ hs)

theorem misplace_closed (p : Port) (e : Station) (hs : P s) : P (misplace p e s) := by
  unfold misplace
  dsimp only
  split
  · exact K.count _ hs
  · exact raiseNotice_closed K _ (putStation_closed K _ (K.count _ hs))

theorem learnSource_closed (p : Port) (a : Addr) (hs : P s) : P (learnSource p a s).after := by
  unfold learnSource
  (repeat' split) <;> try dsimp only [Learned.after]
  · exact K.count _ hs
  · exact hs
  · exact putStation_closed K _ hs
  · exact misplace_closed K _ _ hs
  · exact moveStation_closed K _ _ hs
  · exact learnGuest_closed K _ hs
  · exact learnStation_closed K _ _ hs

theorem appendRequest_closed (p : Port) (a : Addr) (b : List Byte) (hs : P s) : P (appendRequest p a b s) := by
  unfold appendRequest
  split <;> refine K.setMgmt (fun _ => .inr) (fun ⟨h1, h2, h3, h4⟩ => ⟨?_, ?_, h3, h4⟩) hs
  · simp only [List.length_append, List.length_singleton]
    omega
  · exact h2
  · exact h1
  · exact Nat.min_le_left _ _

theorem toOwner_closed (k : MsgKind) (p : Port) (a : Addr) (b : List Byte) (hs : P s) : P (toOwner k p a b s) := by
  cases k
  case priceAsk => exact takePriceAsk_closed K _ _ hs
  case saleRecord => exact takeSaleRecord_closed K _ _ hs
  case itemReply => exact takeItemReply_closed K _ hs
  case labelResult => exact takeLabelResult_closed K _ _ hs
  case exchOpen => exact takeExchOpen_closed K _ hs
  case priceChange => exact takePriceChange_closed K _ hs
  case exchClose => exact takeExchClose_closed K _ hs
  case journalAck => exact takeAck_closed K _ hs
  case linkEcho => exact takeLinkEcho_closed K _ hs
  case mgmtReq => exact appendRequest_closed K _ _ _ hs
  all_goals exact hs

theorem receiveBranch_closed (k : MsgKind) (m : BranchArrival) (hs : P s) : P (receiveBranch k m s) :=
  receiveBranch_keeps hs (fun o _ => K.count o) (fun p _ => lightPort_closed K p) (fun p a _ => learnSource_closed K p a)
    (fun p a b _ => toOwner_closed K k p a b)

theorem throughGates_closed (p q : Port) (e d : Option Station) (f : Frame) (hs : P s) : P (throughGates p q e d f s) := by
  have hsend : ∀ c c' f b u, P u → P (sendOn q c c' f b u) := fun c c' f b u hu => offerForwarded_closed K q _ hu
  unfold throughGates
  dsimp only
  (repeat' split) <;> first
    | exact hsend _ _ _ _ _ hs
    | exact hs
    | exact K.count _ hs
    | exact hsend _ _ _ _ _ (chargeUp_closed K _ _ hs)
    | exact hsend _ _ _ _ _ (chargeDown_closed K _ _ hs)
    | exact chargeUp_closed K _ _ hs
    | exact chargeDown_closed K _ _ hs

theorem forwardUnicast_closed (p : Port) (e : Option Station) (f : Frame) (hs : P s) : P (forwardUnicast p e f s) := by
  unfold forwardUnicast
  dsimp only
  (repeat' split) <;> first | exact K.count _ hs | exact throughGates_closed K _ _ _ _ _ hs

theorem receiveFrame_closed (a : FrameArrival) (hs : P s) : P (receiveFrame a s) :=
  receiveFrame_keeps hs (fun o _ => K.count o) (fun p _ => lightPort_closed K p) (fun p a _ => learnSource_closed K p a)
    (fun k p a b _ => toOwner_closed K k p a b) (fun p e f _ => forwardUnicast_closed K p e f)
    (fun q f _ => offerForwarded_closed K q f)

theorem receiveDamaged_closed (p : Port) (hs : P s) : P (receiveDamaged p s) := by
  unfold receiveDamaged
  split
  · exact K.count _ hs
  · exact hs

/-- The discard of what waits for a port, once the generators have forgotten it. -/
theorem discardHeld_closed {p : Port} (hs : P (forgetHeld p s)) : P (discardHeld p s) := by
  unfold discardHeld
  dsimp only
  split
  · exact dispatch_closed K (countMany_closed K _ _ hs)
  · exact countMany_closed K _ _ hs

/-! ### Settings -/

theorem settingChanged_closed (n : Nat) (old : State) (hs : P s) : P (settingChanged n old s) := by
  have hg : ∀ {g : Guest}, g.coolOff = s.guest.coolOff → P (setGuest g s) := fun h => K.setGuest (fun h' => h ▸ h') hs
  unfold settingChanged
  split
  case h_1 => exact headOfficeChanged_closed K hs
  case h_2 =>
    split
    · exact sendUnsent_closed K hs
    · exact hs
  case h_3 => exact K.setMgmt (fun _ => .inr) (fun ⟨h1, h2, h3, _⟩ => ⟨h1, h2, h3, Nat.zero_le _⟩) hs
  case h_4 =>
    split
    · exact expireAsks_closed K hs
    · exact hs
  case h_5 =>
    split
    · exact ackTimeoutStep_closed K hs
    · exact hs
  case h_6 => exact testHighWater_closed K hs
  case h_7 =>
    split
    · exact recallSurplus_closed K hs
    · exact dispatch_closed K hs
  case h_8 =>
    split
    · exact expirePushes_closed K hs
    · exact hs
  case h_9 | h_10 => exact recomputeWindow_closed K hs
  case h_11 =>
    split
    · exact probeTimerStep_closed K hs
    · exact hs
  case h_12 | h_14 =>
    split
    · exact hg rfl
    · exact hs
  case h_13 =>
    split
    · exact K.setGuest (fun h => by simpa using h) hs
    · exact hs
  case h_15 | h_16 => exact formRate_closed K hs
  case h_17 =>
    unfold cutAggregate
    (repeat' split)
    · exact hg rfl
    · exact hs
    · exact hs
  case h_18 => exact hs

theorem applySetting_closed (n : Nat) (st : Settings) (hs : P s) : P (applySetting n st s) := by
  unfold applySetting
  split
  · exact hs
  · refine settingChanged_closed K _ _ (K.narrow (s := if st.stationAddr = s.settings.stationAddr then s
      else clearOwnAddress st.stationAddr s) ?_)
    split
    · exact hs
    · unfold clearOwnAddress
      split
      · exact dropStation_closed K _ hs
      · exact hs

theorem writeSetting_closed (n v : Nat) (hs : P s) : P (writeSetting n v s).2 := by
  unfold writeSetting
  split
  · exact applySetting_closed K _ _ hs
  · exact hs

/-! ### Requests -/

theorem takeRequest_closed (r : Request) (hs : P s) : P (takeRequest r s) := by
  have hdrop : s.mgmt.fits → (s.mgmt.requests.drop 1).length ≤ 8 := fun h => (List.drop_sublist 1 _).length_le.trans h.1
  have ht : ∀ x, P { s with mgmt := { s.mgmt with requests := s.mgmt.requests.drop 1, firstSender := x } } := fun x =>
    K.setMgmt (fun _ => .inr) (fun h => ⟨hdrop h, h.2⟩) hs
  unfold takeRequest
  dsimp only
  (repeat' split)
  · exact sendUnsent_closed K (ht _)
  · exact ht _
  · exact ht _

theorem refuse_closed (r : Request) (hs : P s) : P (refuse r s) := answer_closed K _ _ _ hs

/-- Running a command on its fields, or refusing it for want of them. -/
theorem withFields_closed {n : Nat} {r : Request} {run : List Byte → State → State} (hr : P (run r.fields s)) (hs : P s) :
    P (withFields n r run s) := by
  unfold withFields
  split
  · exact refuse_closed K r hs
  · exact hr

theorem writeItemRequest_closed (r : Request) (hs : P s) : P (writeItemRequest r s) := by
  refine withFields_closed K ?_ hs
  dsimp only
  split
  · exact refuse_closed K r hs
  · exact answer_closed K _ _ _ (dispatchOn_closed K _ (writeItem_closed K _ _ hs))

theorem deleteItemRequest_closed (r : Request) (hs : P s) : P (deleteItemRequest r s) := by
  refine withFields_closed K ?_ hs
  dsimp only
  split
  · exact answer_closed K _ _ _ (dispatchOn_closed K _ (deleteItem_closed K _ hs))
  · exact refuse_closed K r hs

theorem writeRadio_closed (n radio base : Nat) (hs : P s) : P (writeRadio n radio base s) := by
  unfold writeRadio
  dsimp only
  split
  · exact setLabel_closed K _ _ hs
  · have ht := fun f => mapEntry_closed K n f (setLabel_closed K n { s.label n with
      radio := radio, base := base, display := .neverShown, reachable := false } hs)
    split
    · exact ht _
    · exact owe_closed K _ (ht _)

theorem rebind_closed (n : Nat) (b : Option Nat) (hs : P s) : P (rebind n b s).2 := by
  unfold rebind
  (repeat' split) <;> first | exact hs | exact bindLabel_closed K _ _ hs | exact unbindLabel_closed K _ _ hs

theorem writeLabel_closed (n radio base : Nat) (b : Option Nat) (hs : P s) : P (writeLabel n radio base b s).2 := by
  have ht := writeRadio_closed K n radio base (rebind_closed K n b hs)
  unfold writeLabel
  dsimp only
  split
  · dsimp only
    split
    · exact dispatch_closed K ht
    · exact dispatchOn_closed K _ ht
  · exact hs

theorem writeLabelRequest_closed (r : Request) (hs : P s) : P (writeLabelRequest r s) := by
  refine withFields_closed K ?_ hs
  dsimp only
  split
  · exact refuse_closed K r hs
  · split
    · exact refuse_closed K r hs
    · exact answer_closed K _ _ _ (writeLabel_closed K _ _ _ _ hs)

theorem repushRequest_closed (r : Request) (hs : P s) : P (repushRequest r s) := by
  refine withFields_closed K ?_ hs
  (repeat' split)
  · exact refuse_closed K r hs
  · exact answer_closed K _ _ _ hs
  · exact answer_closed K _ _ _ (dispatchOn_closed K _ (owe_closed K _ (setLabel_closed K _ _ hs)))

theorem writeStation_closed (e : Station) (hs : P s) : P (writeStation e s).2 := by
  unfold writeStation
  dsimp only
  (repeat' split) <;> dsimp only
  · exact dispatch_closed K (putStation_closed K _ (dropStation_closed K _ hs))
  · exact putStation_closed K _ (dropStation_closed K _ hs)
  · exact hs
  · exact dispatch_closed K (putStation_closed K _ hs)
  · exact putStation_closed K _ hs

theorem writeStationRequest_closed (r : Request) (hs : P s) : P (writeStationRequest r s) := by
  refine withFields_closed K ?_ hs
  dsimp only
  split
  · exact refuse_closed K r hs
  · exact answer_closed K _ _ _ (writeStation_closed K _ hs)

theorem deleteStationRequest_closed (r : Request) (hs : P s) : P (deleteStationRequest r s) := by
  refine withFields_closed K ?_ hs
  split
  · exact answer_closed K _ _ _ (dropStation_closed K _ hs)
  · exact answer_closed K _ _ _ hs

theorem cancelRequest_closed (r : Request) (hs : P s) : P (cancelRequest r s) := by
  unfold cancelRequest
  split
  · exact answer_closed K _ _ _ hs
  · refine withFields_closed K ?_ hs
    dsimp only
    (repeat' split)
    · exact answer_closed K _ _ _ (cancelPending_closed K _ _ _ hs)
    · exact refuse_closed K r hs
    · exact refuse_closed K r hs

theorem setClockRequest_closed (r : Request) (hs : P s) : P (setClockRequest r s) := by
  refine withFields_closed K ?_ hs
  split
  · exact answer_closed K _ _ _ (setClock_closed K _ hs)
  · exact refuse_closed K r hs

theorem forceRequest_closed (r : Request) (hs : P s) : P (forceRequest r s) := by
  refine withFields_closed K ?_ hs
  split
  · exact answer_closed K _ _ _ (forceUplink_closed K _ hs)
  · exact refuse_closed K r hs

theorem clearRequest_closed (r : Request) (hs : P s) : P (clearRequest r s) :=
  answer_closed K _ _ _ (K.setMgmt (fun _ hi => .inr (List.mem_of_mem_filter hi))
    (fun ⟨h1, h2, _, _⟩ => ⟨h1, h2, Nat.zero_le _, Nat.zero_le _⟩) hs)

/-- A command that does no more than answer. -/
theorem readItem_closed (r : Request) (hs : P s) : P (readItem r s) := by
  refine withFields_closed K ?_ hs
  (repeat' split) <;> exact answer_closed K _ _ _ hs

theorem readLabelRequest_closed (r : Request) (hs : P s) : P (readLabelRequest r s) := by
  refine withFields_closed K ?_ hs
  split <;> exact answer_closed K _ _ _ hs

theorem readStationRequest_closed (r : Request) (hs : P s) : P (readStationRequest r s) := by
  refine withFields_closed K ?_ hs
  split <;> exact answer_closed K _ _ _ hs

theorem readPendingRequest_closed (r : Request) (hs : P s) : P (readPendingRequest r s) :=
  withFields_closed K (answer_closed K _ _ _ hs) hs

theorem readSettingRequest_closed (r : Request) (hs : P s) : P (readSettingRequest r s) := by
  refine withFields_closed K ?_ hs
  split <;> exact answer_closed K _ _ _ hs

theorem readStateRequest_closed (r : Request) (hs : P s) : P (readStateRequest r s) := by
  refine withFields_closed K ?_ hs
  split <;> exact answer_closed K _ _ _ hs

/-! ### RESET_TRAFFIC and the re-offer -/

theorem trafficReset_closed (hs : P s) : P (trafficReset s) := by
  have hexch : ∀ u, P u → P (exchResetTraffic u) := fun u hu => K.setExch (fun _ hm => nomatch hm) hu
  have hmgmt : ∀ u, P u → P (mgmtResetTraffic u) := fun u hu =>
    K.setMgmt (fun _ hi => nomatch hi) (fun ⟨_, h2, h3, h4⟩ => ⟨Nat.zero_le _, h2, by simpa using h3, h4⟩) hu
  exact formRate_closed K (uplinkResetTraffic_closed K (testLevels_closed K (discardBatch_closed K _ (sendUnsent_closed K
    (dispatch_closed K (hmgmt _ (stationsResetTraffic_closed K (hexch _ (labelsResetTraffic_closed K
      (journalResetTraffic_closed K (tillResetTraffic_closed K (K.emptyPorts hs)))))))))))) 

theorem reofferOut_closed (hs : P s) : P (reofferOut s) :=
  K.setMgmt (fun _ hi => .inr (by simpa using (outboxInTurn_suffix _ _).subset hi)) (fun h => by simpa [Mgmt.fits] using h)
    (outboxInTurn_closed K _ hs)

theorem reofferFor_closed (g : Generator) (hs : P s) : P (reofferFor s g) := by
  cases g
  case tillService => exact reofferBacklog_closed K hs
  case journalUpload => exact reofferSend_closed K hs
  case labelDispatcher => exact reofferPush_closed K hs
  case uplinkMonitor => exact reofferProbe_closed K hs
  case exchangeUnit => exact reofferOutbox_closed K hs
  case managementUnit => exact reofferOut_closed K hs

theorem reofferAll_closed (order : List Generator) (hs : P s) : P (reofferAll order s) :=
  foldl_keeps (fun _ g h => reofferFor_closed K g h) _ _ (K.reoffer false hs)

theorem alertPulseEndStep_closed (hs : P s) : P (alertPulseEndStep s) := by
  have ht : ∀ a, P { s with mgmt := { s.mgmt with alert := a } } := fun a => K.setMgmt (fun _ => .inr) id hs
  unfold alertPulseEndStep
  (repeat' split)
  · exact hs
  · exact ht _
  · exact hs
  · exact startPulse_closed K (ht _)
  · exact hs

theorem portLampExpiryStep_closed (p : Port) (hs : P s) : P (portLampExpiryStep p s) := by
  unfold portLampExpiryStep
  (repeat' split) <;> first | exact K.activity p _ hs | exact hs

/-! ### The commands -/

/-- A taken request keeps what carrying it out keeps. -/
theorem runHead_closed {sel : Request → Bool} {run : Request → State → State} (hr : ∀ r u, P u → P (run r u)) (hs : P s) :
    P (runHead sel run s) :=
  runHead_keeps hs (fun r _ => takeRequest_closed K r) hr

end

/-- The commands made of the basic operations alone: all but the resets, the link events, and what writes the counters afresh. -/
def isRegular : Instr → Bool
  | .powerOn _ | .resetPin _ | .resetFull | .linkUp _ _ | .linkDown _ _ | .occupancySample | .counterProgram | .counterSnapshot => false
  | _ => true

/-- Every regular command keeps what the basic operations keep. -/
theorem after_closed {P : State → Prop} (K : Closed P) {c : Instr} (hc : isRegular c = true) {s : State} (hs : P s) :
    P (after c s) := by
  cases c
  case powerOn | resetPin | resetFull | linkUp | linkDown | occupancySample | counterProgram | counterSnapshot => cases hc
  case damagedFrame => exact receiveDamaged_closed K _ hs
  case ordinaryFrame => exact receiveFrame_closed K _ hs
  case takeIntakeEntry => exact takeIntakeStep_closed K hs
  case askTimeout => exact askTimeoutStep_closed K _ hs
  case journalSend => exact journalSendStep_closed K hs
  case pacingRefill => exact pacingRefillStep_closed K hs
  case ackTimeout => exact ackTimeoutStep_closed K hs
  case pushTimeout => exact dispatchOn_closed K _ (expirePush_closed K _ hs)
  case clockSecond => exact clockSecondStep_closed K hs
  case activation => exact activationStep_closed K hs
  case quietTimeout => exact quietTimeoutStep_closed K hs
  case commitChange => exact commitChangeStep_closed K hs
  case probeTimer => exact probeTimerStep_closed K hs
  case ageingStep => exact ageingStepBody_closed K hs
  case guestSecondStep => exact guestSecondStepBody_closed K hs
  case bucketRefill => exact bucketRefillStep_closed K hs
  case transmitEnd p => exact K.transmitEnd p hs
  case heldMessageReoffer => exact reofferAll_closed K _ hs
  case alertPulseEnd => exact alertPulseEndStep_closed K hs
  case portLampExpiry => exact portLampExpiryStep_closed K _ hs
  case priceAsk | saleRecord | itemReply | journalAck | labelResult | exchOpen | priceChange | exchClose | linkEcho | mgmtReq =>
    exact receiveBranch_closed K _ _ hs
  case itemRead => exact runHead_closed K (fun r _ => readItem_closed K r) hs
  case itemWrite => exact runHead_closed K (fun r _ => writeItemRequest_closed K r) hs
  case itemDelete => exact runHead_closed K (fun r _ => deleteItemRequest_closed K r) hs
  case labelRead => exact runHead_closed K (fun r _ => readLabelRequest_closed K r) hs
  case labelWrite => exact runHead_closed K (fun r _ => writeLabelRequest_closed K r) hs
  case labelRepush => exact runHead_closed K (fun r _ => repushRequest_closed K r) hs
  case stationRead => exact runHead_closed K (fun r _ => readStationRequest_closed K r) hs
  case stationWrite => exact runHead_closed K (fun r _ => writeStationRequest_closed K r) hs
  case stationDelete => exact runHead_closed K (fun r _ => deleteStationRequest_closed K r) hs
  case pendingRead => exact runHead_closed K (fun r _ => readPendingRequest_closed K r) hs
  case pendingCancel => exact runHead_closed K (fun r _ => cancelRequest_closed K r) hs
  case settingRead => exact runHead_closed K (fun r _ => readSettingRequest_closed K r) hs
  case settingWrite =>
    exact runHead_closed K (fun r _ hu => withFields_closed K (answer_closed K _ _ _ (writeSetting_closed K _ _ hu)) hu) hs
  case clockSet => exact runHead_closed K (fun r _ => setClockRequest_closed K r) hs
  case uplinkForce => exact runHead_closed K (fun r _ => forceRequest_closed K r) hs
  case counterRead => exact runHead_closed K (fun r _ => answer_closed K _ _ _) hs
  case stateRead => exact runHead_closed K (fun r _ => readStateRequest_closed K r) hs
  case noticeClear => exact runHead_closed K (fun r _ => clearRequest_closed K r) hs
  case resetTraffic => exact runHead_closed K (fun r _ hu => answer_closed K _ _ _ (trafficReset_closed K hu)) hs
  case unknownCommand => exact runHead_closed K (fun r _ => answer_closed K _ _ _) hs

/-- A property that does not look into the monitor beyond the number of its counters is kept by what writes the counters afresh. -/
theorem after_monitor_closed {P : State → Prop} (K : Closed P)
    (hm : ∀ {s : State} {v : Monitor}, v.counters.length = s.mon.counters.length → P s → P { s with mon := v })
    {c : Instr} (hc : c = .occupancySample ∨ c = .counterProgram ∨ c = .counterSnapshot) {s : State} (hs : P s) : P (after c s) := by
  obtain rfl | rfl | rfl := hc
  · have ht : P { s with mon := { s.mon with counters := s.mon.counters.map (Counter.sample s) } } := hm (by simp) hs
    rw [after_occupancySample]
    unfold occupancySampleStep
    dsimp only
    split
    · exact foldl_keeps (fun u r h => answer_closed K r _ _ h) _ _ (hm (s := { s with mon := _ }) rfl ht)
    · exact ht
  · refine runHead_closed K (fun r u hu => withFields_closed K ?_ hu) hs
    (repeat' split)
    · exact answer_closed K _ _ _ (hm (s := u) (by simp) hu)
    · exact refuse_closed K r hu
    · exact refuse_closed K r hu
  · exact runHead_closed K (fun r u hu => hm (s := u) rfl hu) hs

end Sys2Proof.Machine

/-! The cells and the sizes through every step (R155 to R161, R164; the bounds of the queues). -/

namespace Sys2Proof.Machine

/-! ### The sums over the ports when one port changes -/

section
variable {s t : State} {p : Port} (hother : ∀ q : Port, q ≠ p → t.port q = s.port q)
include hother

theorem held_of_port : t.pool.held + cellsOf (s.port p).frames = s.pool.held + cellsOf (t.port p).frames := by
  have h1 := hother .uplink; have h2 := hother .till; have h3 := hother .label; have h4 := hother .guest; have h5 := hother .office
  cases p <;> simp_all [Pool.held, allSegs, State.port] <;> omega

theorem guestCells_of_port :
    t.pool.guestCells + (s.port p).classCells .guest = s.pool.guestCells + (t.port p).classCells .guest := by
  have h1 := hother .uplink; have h2 := hother .till; have h3 := hother .label; have h4 := hother .guest; have h5 := hother .office
  cases p <;> simp_all [Pool.guestCells, allSegs, State.port] <;> omega

/-- The cells hold still when one port has changed within its limits, and the messages that wait have links. -/
theorem CellsHold.of_port (hs : CellsHold s)
    (hfree : t.pool.free + cellsOf (t.port p).frames = s.pool.free + cellsOf (s.port p).frames)
    (hguest : t.pool.guestCells ≤ 1024) (hstore : (t.port p).classCells .store ≤ 2048)
    (hlink : (t.port p).link = none → (t.port p).frames = []) (hheld : ∀ m ∈ t.heldMessages, t.linkIsUp m.port = true) :
    CellsHold t := by
  obtain ⟨hsum, -, hports, -⟩ := hs
  have := held_of_port hother
  refine ⟨by omega, hguest, fun q => ?_, hheld⟩
  by_cases hq : q = p
  · subst hq
    exact ⟨hstore, hlink⟩
  · rw [hother q hq]
    exact hports q

end

theorem classCells_of_perm {u : PortUnit} {l : List QFrame} (h : u.frames.Perm l) (c : Cls) :
    u.classCells c = cellsOf (l.filter (fun f => f.cls == c)) := cellsOf_perm (h.filter _)

theorem classCells_cons {u v : PortUnit} {f : QFrame} (h : v.frames.Perm (f :: u.frames)) (c : Cls) :
    v.classCells c = (if f.cls = c then f.cells else 0) + u.classCells c := by
  rw [classCells_of_perm h, List.filter_cons]
  by_cases hc : f.cls = c <;> simp [hc, PortUnit.classCells]

theorem classCells_of_frames {u v : PortUnit} (h : v.frames = u.frames) (c : Cls) : v.classCells c = u.classCells c := by
  simp [PortUnit.classCells, h]

theorem classCells_of_frames_filter {u v : PortUnit} {sel : QFrame → Bool} (h : v.frames = u.frames.filter sel) (c : Cls) :
    v.classCells c ≤ u.classCells c := by
  unfold PortUnit.classCells
  rw [h]
  exact List.Sublist.sum_le_sum ((List.filter_sublist.filter _).map QFrame.cells) (fun _ _ => Nat.zero_le _)

/-! ### The basic operations and the cells -/

theorem linkIsUp_of_links {s t : State} (h : ∀ q : Port, (t.port q).link = (s.port q).link) (p : Port) : t.linkIsUp p = s.linkIsUp p := by
  simp [State.linkIsUp, h]

/-- Messages that wait as before, the links being as before. -/
theorem held_linked {s t : State} (hs : CellsHold s) (hm : t.heldMessages = s.heldMessages)
    (hl : ∀ q : Port, (t.port q).link = (s.port q).link) : ∀ m ∈ t.heldMessages, t.linkIsUp m.port = true := by
  obtain ⟨-, -, -, hheld⟩ := hs
  intro m h
  rw [linkIsUp_of_links hl]
  exact hheld m (hm ▸ h)

/-- A port written with the same frames, in a state whose cells hold. -/
theorem CellsHold.setPort {s : State} {p : Port} {u : PortUnit} (hs : CellsHold s) (hf : u.frames = (s.port p).frames)
    (hl : u.link = none → (s.port p).link = none) : CellsHold (setPort p u s) := by
  obtain ⟨hsum, hguest, hports, hheld⟩ := id hs
  have hother : ∀ q, q ≠ p → (Machine.setPort p u s).port q = s.port q := fun q hq => setPort_port_other p q u s hq
  have hg := guestCells_of_port hother
  rw [setPort_port_same, classCells_of_frames hf] at hg
  refine hs.of_port hother ?_ (by omega) ?_ ?_ (fun m hm => ?_)
  · rw [setPort_port_same, hf]
    rfl
  · rw [setPort_port_same, classCells_of_frames hf]
    exact (hports p).1
  · rw [setPort_port_same, hf]
    exact fun h => (hports p).2 (hl h)
  · have hup := hheld m hm
    by_cases hq : m.port = p
    · subst hq
      rw [State.linkIsUp, setPort_port_same, Option.isSome_iff_ne_none]
      rw [State.linkIsUp, Option.isSome_iff_ne_none] at hup
      exact fun h => hup (hl h)
    · rw [State.linkIsUp, hother _ hq]
      exact hup

theorem CellsHold.enqueue {s : State} {p : Port} {f : QFrame} (hl : s.linkIsUp p = true) (ha : admissible p f s = true)
    (hs : CellsHold s) : CellsHold (enqueue p f s) := by
  obtain ⟨hsum, hguest, hports, hheld⟩ := id hs
  obtain ⟨hperm, hlink, hother, hfree, -⟩ := enqueue_spec p f s
  have hcells := cellsOf_perm hperm
  have hg := guestCells_of_port hother
  have hcls := classCells_cons hperm
  have hstore := (hports p).1
  rw [cellsOf_cons] at hcells
  rw [hcls .guest] at hg
  have hle : f.cells ≤ s.pool.free ∧ (f.cls = .store → (s.port p).classCells .store + f.cells ≤ 2048) ∧
      (f.cls = .guest → s.pool.guestCells + f.cells ≤ 1024) := by
    unfold admissible at ha
    split at ha <;> simp_all <;> omega
  obtain ⟨hle, hst, hgu⟩ := hle
  refine hs.of_port hother (by omega) ?_ ?_ (fun h => ?_) (held_linked hs (by simp [State.heldMessages]) (fun q => ?_))
  · by_cases hc : f.cls = .guest
    · rw [if_pos hc] at hg
      have := hgu hc
      omega
    · rw [if_neg hc] at hg
      omega
  · rw [hcls .store]
    by_cases hc : f.cls = .store
    · rw [if_pos hc]
      have := hst hc
      omega
    · rw [if_neg hc]
      omega
  · rw [State.linkIsUp, ← hlink, h] at hl
    cases hl
  · by_cases hq : q = p
    · rw [hq, hlink]
    · rw [hother q hq]

theorem CellsHold.removeFrames {s : State} (p : Port) (sel : QFrame → Bool) (why : QFrame → List Occ) (hs : CellsHold s) :
    CellsHold (removeFrames p sel why s) := by
  obtain ⟨hsum, hguest, hports, hheld⟩ := id hs
  obtain ⟨hframes, hlink, hother, hfree⟩ := removeFrames_spec p sel why s
  have hg := guestCells_of_port hother
  have := classCells_of_frames_filter hframes .guest
  have hadd := cellsOf_filter_add (s.port p).frames sel
  refine hs.of_port hother ?_ (by omega) ((classCells_of_frames_filter hframes .store).trans (hports p).1) (fun h => ?_)
    (held_linked hs (by simp [State.heldMessages]) (fun q => ?_))
  · rw [hframes, hfree]
    omega
  · rw [hframes, (hports p).2 (hlink ▸ h)]
    rfl
  · by_cases hq : q = p
    · rw [hq, hlink]
    · rw [hother q hq]

/-- The end of a transmission: the frame's cells return, the others stay with their port (R162). -/
theorem transmitEndStep_spec {p : Port} {f : QFrame} {s : State} (h : (s.port p).tx = some f) :
    (s.port p).frames = f :: ((transmitEndStep p s).port p).frames ∧ ((transmitEndStep p s).port p).link = (s.port p).link ∧
      (∀ q, q ≠ p → (transmitEndStep p s).port q = s.port q) ∧ (transmitEndStep p s).pool.free = s.pool.free + f.cells := by
  unfold transmitEndStep
  rw [h]
  refine ⟨?_, ?_, fun q hq => ?_, ?_⟩
  · rw [startTx_frames, count_port, returnCells_port, setPort_port_same]
    simp [PortUnit.frames, h]
  · rw [startTx_link, count_port, returnCells_port, setPort_port_same]
  · rw [startTx_port_other _ _ _ hq, count_port, returnCells_port, setPort_port_other _ _ _ _ hq]
  · rw [startTx_free]
    rfl

theorem CellsHold.transmitEnd {s : State} (p : Port) (hs : CellsHold s) : CellsHold (transmitEndStep p s) := by
  cases h : (s.port p).tx with
  | none =>
    have : transmitEndStep p s = s := by unfold transmitEndStep; rw [h]
    rw [this]
    exact hs
  | some f =>
    obtain ⟨hsum, hguest, hports, hheld⟩ := id hs
    obtain ⟨hframes, hlink, hother, hfree⟩ := transmitEndStep_spec h
    have hperm := List.Perm.of_eq hframes
    have hg := guestCells_of_port hother
    have hcls := classCells_cons hperm
    have hcells := cellsOf_perm hperm
    have hstore := (hports p).1
    rw [cellsOf_cons] at hcells
    rw [hcls .guest] at hg
    rw [hcls .store] at hstore
    refine hs.of_port hother (by omega) (by omega) (by omega) (fun hn => ?_)
      (held_linked hs (by simp [State.heldMessages]) (fun q => ?_))
    · have := (hports p).2 (hlink ▸ hn)
      rw [hframes] at this
      cases this
    · by_cases hq : q = p
      · rw [hq, hlink]
      · rw [hother q hq]

theorem poolResetTraffic_port (s : State) (p : Port) : (poolResetTraffic s).port p = (s.port p).emptied := by
  cases p <;> rfl

/-- Ports without frames, every cell free: the cells hold when the messages that wait have links. -/
theorem CellsHold.of_empty {t : State} (hfree : t.pool.free = 8192) (hframes : ∀ p : Port, (t.port p).frames = [])
    (hheld : ∀ m ∈ t.heldMessages, t.linkIsUp m.port = true) : CellsHold t := by
  have hf : ∀ p : Port, (t.pool.ports.get p).frames = [] := hframes
  have hc : ∀ (p : Port) c, (t.port p).classCells c = 0 := fun p c => by simp [PortUnit.classCells, hframes]
  refine ⟨?_, ?_, fun p => ⟨by simp [hc], fun _ => hframes p⟩, hheld⟩
  · simp [Pool.held, allSegs, hf, hfree]
  · have : ∀ p : Port, (t.pool.ports.get p).classCells .guest = 0 := fun p => hc p .guest
    simp [Pool.guestCells, allSegs, this]

/-- The cells are kept by the basic operations. -/
theorem cellsHold_closed : Closed CellsHold where
  write hpool _ hheld _ hs := by
    have hport : ∀ q : Port, State.port _ q = State.port _ q := fun q => congrArg (fun x : Pool => x.ports.get q) hpool
    obtain ⟨hsum, hguest, hports, hlinked⟩ := hs
    refine ⟨hpool ▸ hsum, hpool ▸ hguest, fun q => ?_, fun m hm => ?_⟩
    · rw [hport q]
      exact hports q
    · rw [State.linkIsUp, hport]
      rcases hheld m hm with h | ⟨x, hx, hp⟩
      · exact h
      · exact hp ▸ hlinked x hx
  reoffer _ hs := hs
  count _ hs := hs
  activity _ _ hs := hs.setPort rfl id
  enqueue _ _ hl ha hs := hs.enqueue hl ha
  removeFrames p sel why hs := hs.removeFrames p sel why
  transmitEnd p hs := hs.transmitEnd p
  emptyPorts hs := by
    refine .of_empty rfl (fun p => by rw [poolResetTraffic_port]; rfl) (held_linked hs (by simp [State.heldMessages]) (fun q => ?_))
    rw [poolResetTraffic_port]
    rfl

theorem linkUpStep_cells (p : Port) (speed : Speed) {s : State} (hs : CellsHold s) : CellsHold (linkUpStep p speed s) := by
  have ht : CellsHold (setPort p { s.port p with link := some speed } s) := hs.setPort rfl (fun h => nomatch h)
  unfold linkUpStep
  dsimp only
  (repeat' split)
  · exact hs
  · exact startProbing_closed cellsHold_closed ht
  · exact ht

/-- When a link is lost its port's frames have gone, and the messages held for it are forgotten, before anything else acts. -/
theorem forgetHeld_cells {p : Port} {t u : State} (ht : CellsHold t) (hother : ∀ q : Port, q ≠ p → u.port q = t.port q)
    (hframes : (u.port p).frames = [])
    (hfree : u.pool.free = t.pool.free + cellsOf (t.port p).frames) (hheld : u.heldMessages = t.heldMessages) :
    CellsHold (forgetHeld p u) := by
  obtain ⟨hsum, hguest, hports, hlinked⟩ := id ht
  have hport : ∀ q, (forgetHeld p u).port q = u.port q := fun q => rfl
  have hg := guestCells_of_port hother
  have hc : ∀ c, (u.port p).classCells c = 0 := fun c => by simp [PortUnit.classCells, hframes]
  rw [hc] at hg
  refine ht.of_port (p := p) hother ?_ (show u.pool.guestCells ≤ 1024 by omega) ?_ (fun _ => hframes) (fun m hm => ?_)
  · rw [hport, hframes, ← hfree]
    rfl
  · rw [hport, hc]
    exact Nat.zero_le _
  · rw [forgetHeld_heldMessages, List.mem_filter, hheld] at hm
    have hne : m.port ≠ p := by simpa using hm.2
    rw [State.linkIsUp, hport, hother _ hne]
    exact hlinked m hm.1

theorem linkDownStep_cells (p : Port) (receiving : Bool) {s : State} (hs : CellsHold s) : CellsHold (linkDownStep p receiving s) := by
  have ht : CellsHold (if receiving then count (occDiscard .fcs p none) s else s) := by
    split
    · exact cellsHold_closed.count _ hs
    · exact hs
  unfold linkDownStep
  dsimp only
  split
  · generalize (if receiving then count (occDiscard .fcs p none) s else s) = t at ht
    have hv : CellsHold (discardHeld p (markReoffer (removeFrames p (fun _ => true)
        (fun f => [occDiscard .linkDown p (some f.cls)]) (setPort p { t.port p with link := none } t)))) := by
      obtain ⟨hframes, -, hother, hfree⟩ := removeFrames_spec p (fun _ => true)
        (fun f => [occDiscard .linkDown p (some f.cls)]) (setPort p { t.port p with link := none } t)
      rw [setPort_port_same] at hframes hfree
      refine discardHeld_closed cellsHold_closed (forgetHeld_cells ht (fun q hq => ?_) ?_ ?_ ?_)
      · exact (hother q hq).trans (setPort_port_other _ _ _ _ hq)
      · exact hframes.trans (List.filter_eq_nil_iff.2 (by simp))
      · refine hfree.trans ?_
        rw [List.filter_eq_self.2 (fun _ _ => rfl)]
        rfl
      · simp [State.heldMessages]
    split
    · exact uplinkLinkDown_closed cellsHold_closed hv
    · exact hv
  · exact hs

theorem resetWith_cells (straps : Straps) (s : State) : CellsHold (resetWith straps s) :=
  .of_empty rfl (fun p => by cases p <;> rfl) (fun _ hm => nomatch hm)

theorem fullReset_cells (s : State) : CellsHold (fullReset s) :=
  .of_empty rfl (fun p => by cases p <;> rfl) (fun _ hm => nomatch hm)

theorem after_cellsHold (c : Instr) (s : State) (hs : CellsHold s) : CellsHold (after c s) := by
  have hm : ∀ {s : State} {v : Monitor}, v.counters.length = s.mon.counters.length → CellsHold s → CellsHold { s with mon := v } :=
    fun _ h => h
  cases c
  case powerOn | resetPin => exact resetWith_cells _ _
  case resetFull =>
    exact runHead_closed cellsHold_closed (resetFullRequest_keeps fullReset_cells (fun r o d _ => answer_closed cellsHold_closed r o d)) hs
  case linkUp => exact linkUpStep_cells _ _ hs
  case linkDown => exact linkDownStep_cells _ _ hs
  case occupancySample => exact after_monitor_closed cellsHold_closed hm (.inl rfl) hs
  case counterProgram => exact after_monitor_closed cellsHold_closed hm (.inr (.inl rfl)) hs
  case counterSnapshot => exact after_monitor_closed cellsHold_closed hm (.inr (.inr rfl)) hs
  all_goals exact after_closed cellsHold_closed rfl hs

/-- Settles O5: the basic operations keep the cells, and so every command made of them does; a link lost and the resets by themselves. -/
theorem everyStepKeepsTheCells : Obligations.EveryStepKeepsTheCells :=
  fun _ _ hs h => step_keeps (fun _ _ _ h => h) (fun _ h => h) after_cellsHold hs h

end Sys2Proof.Machine

/-! The sizes through every step: the bounds by the basic operations, the exchange outbox by what the exchange unit does. -/

namespace Sys2Proof.Machine

/-! ### The bounds of the queues and figures -/

@[simp] theorem count_counters_length (o : Occ) (s : State) : (count o s).mon.counters.length = s.mon.counters.length := by
  simp [count]

@[simp] theorem countAll_counters_length (l : List Occ) (s : State) :
    (countAll l s).mon.counters.length = s.mon.counters.length := by
  unfold countAll
  induction l generalizing s with
  | nil => rfl
  | cons o l ih => simp [ih]

@[simp] theorem removeFrames_counters_length (p : Port) (sel : QFrame → Bool) (why : QFrame → List Occ) (s : State) :
    (removeFrames p sel why s).mon.counters.length = s.mon.counters.length := by
  unfold removeFrames
  dsimp only
  split <;> simp

@[simp] theorem transmitEndStep_counters_length (p : Port) (s : State) :
    (transmitEndStep p s).mon.counters.length = s.mon.counters.length := by
  unfold transmitEndStep
  split <;> simp

/-- The bounds are kept by the basic operations. -/
theorem boundsHold_closed : Closed BoundsHold where
  write _ _ _ h hs := h hs
  reoffer _ hs := hs
  count _ hs := by simpa [BoundsHold] using hs
  activity _ _ hs := hs
  enqueue _ _ _ _ hs := by simpa [BoundsHold] using hs
  removeFrames _ _ _ hs := by simpa [BoundsHold] using hs
  transmitEnd _ hs := by simpa [BoundsHold] using hs
  emptyPorts hs := hs

theorem linkUpStep_bounds (p : Port) (speed : Speed) {s : State} (hs : BoundsHold s) : BoundsHold (linkUpStep p speed s) := by
  unfold linkUpStep
  dsimp only
  (repeat' split)
  · exact hs
  · exact startProbing_closed boundsHold_closed (s := setPort p { s.port p with link := some speed } s) hs
  · exact hs

theorem forgetHeld_bounds (p : Port) {s : State} (hs : BoundsHold s) : BoundsHold (forgetHeld p s) := hs

theorem linkDownStep_bounds (p : Port) (receiving : Bool) {s : State} (hs : BoundsHold s) :
    BoundsHold (linkDownStep p receiving s) := by
  have ht : BoundsHold (if receiving then count (occDiscard .fcs p none) s else s) := by
    split
    · exact boundsHold_closed.count _ hs
    · exact hs
  unfold linkDownStep
  dsimp only
  split
  · generalize (if receiving then count (occDiscard .fcs p none) s else s) = t at ht
    have hv := discardHeld_closed boundsHold_closed (forgetHeld_bounds p (boundsHold_closed.reoffer true
      (boundsHold_closed.removeFrames p (fun _ => true) (fun f => [occDiscard .linkDown p (some f.cls)])
        (s := setPort p { t.port p with link := none } t) ht)))
    split
    · exact uplinkLinkDown_closed boundsHold_closed hv
    · exact hv
  · exact hs

theorem resetWith_bounds (straps : Straps) (s : State) : BoundsHold (resetWith straps s) := by
  simp [BoundsHold, resetWith, powerOnState]

theorem fullReset_bounds (s : State) : BoundsHold (fullReset s) := by
  simp [BoundsHold, fullReset, resetWith, powerOnState]

theorem after_boundsHold (c : Instr) (s : State) (hs : BoundsHold s) : BoundsHold (after c s) := by
  have hm : ∀ {s : State} {v : Monitor}, v.counters.length = s.mon.counters.length → BoundsHold s → BoundsHold { s with mon := v } := by
    intro s v hv ⟨h1, h2, h3, h4, h5, h6, h7⟩
    exact ⟨h1, h2, h3, h4, h5, hv.trans h6, h7⟩
  cases c
  case powerOn | resetPin => exact resetWith_bounds _ _
  case resetFull =>
    exact runHead_closed boundsHold_closed (resetFullRequest_keeps fullReset_bounds
      (fun r o d _ => answer_closed boundsHold_closed r o d)) hs
  case linkUp => exact linkUpStep_bounds _ _ hs
  case linkDown => exact linkDownStep_bounds _ _ hs
  case occupancySample => exact after_monitor_closed boundsHold_closed hm (.inl rfl) hs
  case counterProgram => exact after_monitor_closed boundsHold_closed hm (.inr (.inl rfl)) hs
  case counterSnapshot => exact after_monitor_closed boundsHold_closed hm (.inr (.inr rfl)) hs
  all_goals exact after_closed boundsHold_closed rfl hs

/-! ### What the exchange unit does to its state and outbox -/

/-- The exchange unit without its open batch (R108). -/
def Exchange.dropOpen (e : Exchange) : Exchange :=
  match e.state with
  | .staging _ => { e with state := .idle }
  | _ => e

theorem Exchange.dropOpen_of_staging {e : Exchange} {c : StagingCtx} (h : e.state = .staging c) :
    e.dropOpen = { e with state := .idle } := by
  simp [dropOpen, h]

theorem Exchange.dropOpen_of_not_staging {e : Exchange} (h : ∀ c, e.state ≠ .staging c) : e.dropOpen = e := by
  unfold dropOpen
  split
  · next c hc => exact absurd hc (h c)
  · rfl

@[simp] theorem Exchange.dropOpen_outbox (e : Exchange) : e.dropOpen.outbox = e.outbox := by
  unfold dropOpen
  split <;> rfl

@[simp] theorem Exchange.dropOpen_lastBatch (e : Exchange) : e.dropOpen.lastBatch = e.lastBatch := by
  unfold dropOpen
  split <;> rfl

theorem Exchange.dropOpen_not_staging (e : Exchange) (c : StagingCtx) : e.dropOpen.state ≠ .staging c := by
  unfold dropOpen
  split
  · simp
  · next h => exact h c

theorem Exchange.dropOpen_of_committing {e : Exchange} {k : CommitCtx} (h : e.state = .committing k) : e.dropOpen = e :=
  dropOpen_of_not_staging (by simp [h])

/-- A message sent through the exchange outbox is behind what waits there, or has left. -/
theorem sendExch_exch (m : Msg) (s : State) : ∃ l, l.length ≤ 1 ∧ (sendExch m s).exch = { s.exch with outbox := s.exch.outbox ++ l } := by
  unfold sendExch
  obtain ⟨-, -, h⟩ | ⟨-, h⟩ | ⟨-, -, -, h⟩ | ⟨-, -, -, h⟩ :=
    sendBehind_cases .exchangeUnit s.exch.outbox m (fun t => setExch { t.exch with outbox := t.exch.outbox ++ [m] } t) s <;> rw [h]
  · exact ⟨[m], Nat.le_refl _, rfl⟩
  · exact ⟨[], Nat.zero_le _, by simp⟩
  · exact ⟨[], Nat.zero_le _, by simp⟩
  · exact ⟨[m], Nat.le_refl _, rfl⟩

theorem sendReport_exch (b : List Byte) (s : State) :
    ∃ l, l.length ≤ 1 ∧ (sendReport b s).exch = { s.exch with outbox := s.exch.outbox ++ l } := by
  unfold sendReport
  split
  · exact ⟨[], Nat.zero_le _, by simp⟩
  · exact sendExch_exch _ _

/-- A discard ends the open batch, if there is one, with at most one report behind what waits. -/
theorem discardBatch_exch (r : DiscardReason) (s : State) : ∃ l, l.length ≤ 1 ∧
    (discardBatch r s).exch = { s.exch.dropOpen with outbox := s.exch.outbox ++ l } ∧
    (r.reported = false ∨ (∀ c, s.exch.state ≠ .staging c) → l = []) := by
  unfold discardBatch
  split
  · next c hc =>
    rw [Exchange.dropOpen_of_staging hc]
    dsimp only
    by_cases hr : r.reported = true
    · obtain ⟨l, hl, he⟩ := sendReport_exch (closeReportBody c.batch 2 r.index c.received 0 c.refused
        (if r = .broken then c.broken else none) s.exch.lastBatch c.refusedList)
        (count (occQ .batchesEnded r.index) (setExchState .idle s))
      refine ⟨l, hl, by simp only [if_pos hr, raiseNotice_frame, he]; rfl, ?_⟩
      rintro (h | h)
      · rw [hr] at h
        cases h
      · exact absurd hc (h c)
    · exact ⟨[], Nat.zero_le _, by simp [hr, setExchState], fun _ => rfl⟩
  · next h =>
    exact ⟨[], Nat.zero_le _, by simp [Exchange.dropOpen_of_not_staging h], fun _ => rfl⟩

/-- A discard that is not reported (LINK, RESET) leaves the outbox. -/
theorem discardBatch_silent {r : DiscardReason} (hr : r.reported = false) (s : State) : (discardBatch r s).exch = s.exch.dropOpen := by
  obtain ⟨l, -, he, hl⟩ := discardBatch_exch r s
  rw [he, hl (.inl hr), List.append_nil, ← s.exch.dropOpen_outbox]

/-- Without an open batch there is nothing to discard. -/
theorem discardBatch_of_not_staging {s : State} (h : ∀ c, s.exch.state ≠ .staging c) (r : DiscardReason) : discardBatch r s = s := by
  unfold discardBatch
  split
  · next c hc => exact absurd hc (h c)
  · rfl

/-- The end of a commit: IDLE with the batch as last batch, and at most one report behind what waits (R112). -/
theorem endCommit_exch (c : CommitCtx) (s : State) :
    ∃ l, l.length ≤ 1 ∧ (endCommit c s).exch = ⟨.idle, c.batch, s.exch.outbox ++ l⟩ := by
  unfold endCommit
  dsimp only
  obtain ⟨l, hl, he⟩ := sendReport_exch
    (closeReportBody c.batch 1 0 c.received c.committed c.refused none c.batch c.refusedList)
    (setExch { s.exch with lastBatch := c.batch } s)
  exact ⟨l, hl, by simp [setExchState, he]⟩

@[simp] theorem reofferOutbox_exch (s : State) :
    (reofferOutbox s).exch = { s.exch with outbox := (offerInTurn .exchangeUnit s.exch.outbox s).1 } := by
  simp [reofferOutbox, setExch]

/-! ### Uplink changes and the exchange unit -/

theorem enterFallback_exch (c : UplinkCause) (s : State) : (enterFallback c s).exch = s.exch.dropOpen := by
  rw [enterFallback, discardBatch_silent rfl]
  simp

/-- What a change of the uplink state does to the exchange unit: entering FALLBACK discards the open batch (R135). -/
theorem changeUplink_exch (new : UplinkState) (c : UplinkCause) (s : State) :
    (changeUplink new c s).exch = if s.uplink.state ≠ new ∧ new = .fallback then s.exch.dropOpen else s.exch := by
  unfold changeUplink
  dsimp only
  by_cases h : s.uplink.state = new
  · simp [h]
  · rw [if_neg h]
    by_cases hf : new = .fallback
    · subst hf
      rw [if_pos rfl, if_pos ⟨h, rfl⟩]
      simp [enterFallback_exch]
    · rw [if_neg hf, if_neg fun h => hf h.2]
      simp

/-! ### The bound of the exchange outbox (R120) -/

theorem Exchange.fits_of_sublist {e f : Exchange} (h : f.outbox.Sublist e.outbox) (ha : f.state.active = true → e.state.active = true)
    (he : e.fits) : f.fits :=
  ⟨h.length_le.trans he.1, fun hf => h.length_le.trans (he.2 (ha hf))⟩

theorem Exchange.fits.drop {e : Exchange} (h : e.fits) : e.dropOpen.fits := by
  refine fits_of_sublist (by simp) (fun ha => ?_) h
  unfold dropOpen at ha
  split at ha
  · cases ha
  · exact ha

/-- An outbox with room for one takes one more when no batch is active. -/
theorem Exchange.fits_append {e : Exchange} {l : List Msg} (hl : l.length ≤ 1) (h : e.outbox.length ≤ 7)
    (ha : e.state.active = true → e.outbox.length ≤ 6) : Exchange.fits { e with outbox := e.outbox ++ l } := by
  refine ⟨?_, fun h => ?_⟩
  · simp only [List.length_append]
    omega
  · have := ha h
    simp only [List.length_append]
    omega

theorem Exchange.fits.of_eq {s t : State} (h : s.exch.fits) (he : t.exch = s.exch) : t.exch.fits := he ▸ h

theorem discardBatch_fits (r : DiscardReason) {s : State} (hs : s.exch.fits) : (discardBatch r s).exch.fits := by
  cases h : s.exch.state with
  | staging c =>
    obtain ⟨l, hl, he, -⟩ := discardBatch_exch r s
    rw [he, Exchange.dropOpen_of_staging h]
    exact Exchange.fits_append (e := { s.exch with state := .idle }) hl (hs.2 (by rw [h]; rfl)) (fun h => nomatch h)
  | idle | committing =>
    rw [discardBatch_of_not_staging (by simp [h])]
    exact hs

theorem endCommit_fits (c : CommitCtx) {s : State} (hs : s.exch.fits) (ha : s.exch.state.active = true) : (endCommit c s).exch.fits := by
  obtain ⟨l, hl, he⟩ := endCommit_exch c s
  rw [he]
  exact Exchange.fits_append (e := ⟨.idle, c.batch, s.exch.outbox⟩) hl (hs.2 ha) (fun h => nomatch h)

theorem setExchState_fits {x : ExchState} {s : State} (ha : x.active = true → s.exch.state.active = true) (hs : s.exch.fits) :
    (setExchState x s).exch.fits :=
  Exchange.fits_of_sublist (e := s.exch) (f := { s.exch with state := x }) (List.Sublist.refl _) ha hs

theorem takeRecord_fits (b : List Byte) (c : StagingCtx) {s : State} (ha : s.exch.state.active = true) (hs : s.exch.fits) :
    (takeRecord b c s).exch.fits := by
  unfold takeRecord
  dsimp only
  (repeat' split) <;> exact setExchState_fits (fun _ => ha) hs

theorem takePriceChange_fits (b : List Byte) {s : State} (hs : s.exch.fits) : (takePriceChange b s).exch.fits := by
  unfold takePriceChange
  split
  · next h =>
    split
    · exact takeRecord_fits _ _ (by rw [h]; rfl) hs
    · exact hs
  · exact hs

theorem takeExchClose_fits (b : List Byte) {s : State} (hs : s.exch.fits) : (takeExchClose b s).exch.fits := by
  unfold takeExchClose
  split
  · next c h =>
    have hk : ∀ k, (setExchState (.committing k) s).exch.fits := fun k => setExchState_fits (fun _ => by rw [h]; rfl) hs
    (repeat' split) <;> try first
      | exact hs
      | exact discardBatch_fits _ hs
    unfold beginCommit
    dsimp only
    split
    · exact endCommit_fits _ (hk _) rfl
    · exact hk _
  · exact hs

theorem commitChangeStep_fits {s : State} (hs : s.exch.fits) : (commitChangeStep s).exch.fits := by
  unfold commitChangeStep
  split
  · next k h =>
    split
    · exact hs
    · next c rest _ =>
      have hu : ∀ k', (setExchState (.committing k') (insertPending k.batch c s).2).exch.fits := fun k' =>
        setExchState_fits (fun _ => by simp [h, ExchState.active]) (hs.of_eq (by simp))
      dsimp only
      split
      · exact endCommit_fits _ (hu _) rfl
      · exact hu _
  · exact hs

theorem quietTimeoutStep_fits {s : State} (hs : s.exch.fits) : (quietTimeoutStep s).exch.fits := by
  unfold quietTimeoutStep
  (repeat' split) <;> first | exact discardBatch_fits _ hs | exact hs

theorem changeUplink_fits (new : UplinkState) (c : UplinkCause) {s : State} (hs : s.exch.fits) : (changeUplink new c s).exch.fits := by
  rw [changeUplink_exch]
  split
  · exact hs.drop
  · exact hs

theorem judgeProbe_fits {s : State} (hs : s.exch.fits) : (judgeProbe s).exch.fits := by
  unfold judgeProbe loseProbe
  dsimp only
  (repeat' split) <;> first | exact changeUplink_fits _ _ hs | exact hs

theorem probeTimerStep_fits {s : State} (hs : s.exch.fits) : (probeTimerStep s).exch.fits := by
  unfold probeTimerStep
  (repeat' split)
  · exact (judgeProbe_fits hs).of_eq (by simp [probeDue])
  · exact hs
  · exact hs

theorem takeLinkEcho_fits (b : List Byte) {s : State} (hs : s.exch.fits) : (takeLinkEcho b s).exch.fits := by
  unfold takeLinkEcho countEcho moveByEcho
  dsimp only
  (repeat' split) <;> first | exact changeUplink_fits _ _ hs | exact hs

theorem exchWindowEvent_fits {s : State} (hs : s.exch.fits) : (exchWindowEvent s).exch.fits := by
  unfold exchWindowEvent
  split
  · exact discardBatch_fits _ hs
  · exact hs

theorem recomputeWindow_fits {s : State} (hs : s.exch.fits) : (recomputeWindow s).exch.fits := by
  unfold recomputeWindow
  split
  · exact hs
  · exact (exchWindowEvent_fits (s := { s with windowIn := s.windowNow }) hs).of_eq (by simp)

theorem clockSecondStep_fits {s : State} (hs : s.exch.fits) : (clockSecondStep s).exch.fits := by
  unfold clockSecondStep
  split
  · exact recomputeWindow_fits (s := { s with clock := s.clock.nextSecond }) hs
  · exact hs

/-- What a window event does to the exchange unit: nothing, or the open batch goes with at most one report. -/
theorem recomputeWindow_exch (s : State) : (recomputeWindow s).exch = s.exch ∨
    ∃ c l, s.exch.state = .staging c ∧ l.length ≤ 1 ∧
      (recomputeWindow s).exch = { s.exch with state := .idle, outbox := s.exch.outbox ++ l } := by
  unfold recomputeWindow
  split
  · exact .inl rfl
  · unfold exchWindowEvent
    split
    · cases h : s.exch.state with
      | staging c =>
        obtain ⟨l, hl, he, -⟩ := discardBatch_exch .window { s with windowIn := s.windowNow }
        refine .inr ⟨c, l, rfl, hl, ?_⟩
        rw [(formRate_frame _).2.2.2.2.2.2.2.2.2.2.2.2.2.1, he, Exchange.dropOpen_of_staging h]
      | idle | committing =>
        left
        rw [discardBatch_of_not_staging (by simp [h])]
        simp
    · left
      simp

theorem setClock_exch (time : Nat) (s : State) : (setClock time s).exch = s.exch ∨
    ∃ c l, s.exch.state = .staging c ∧ l.length ≤ 1 ∧
      (setClock time s).exch = { s.exch with state := .idle, outbox := s.exch.outbox ++ l } :=
  recomputeWindow_exch { s with clock := clockOf time }

theorem openAnswer_busy {wasIdle : Bool} (h : wasIdle = false) (batch announced : Nat) (s : State) :
    openAnswer wasIdle batch announced s = .busy := by
  simp [openAnswer, h]

theorem takeExchOpen_fits (b : List Byte) {s : State} (hs : s.exch.fits) : (takeExchOpen b s).exch.fits := by
  unfold takeExchOpen
  split
  · exact hs
  · next hroom =>
    dsimp only
    obtain ht | ⟨c, l, hc, hl, ht⟩ := setClock_exch (field b 6 6) s
    · generalize hu : (if openAnswer _ _ _ _ = OpenAnswer.ready then _ else setClock (field b 6 6) s) = u
      have ho : u.exch.outbox.length ≤ 6 := by
        rw [← hu]
        split
        · rw [setExchState_outbox, ht]
          omega
        · rw [ht]
          omega
      obtain ⟨l, hl, he⟩ := sendExch_exch (build u .uplink u.settings.headOffice .exchAnswer
        (exchAnswerBody (field b 0 4) (openAnswer (s.exch.state = .idle) (field b 0 4) (field b 4 2) (setClock (field b 6 6) s)) u)) u
      rw [he]
      exact Exchange.fits_append hl (by omega) (fun _ => ho)
    · rw [openAnswer_busy (by simp [hc]), if_neg (by decide)]
      obtain ⟨k, hk, he⟩ := sendExch_exch (build (setClock (field b 6 6) s) .uplink (setClock (field b 6 6) s).settings.headOffice
        .exchAnswer (exchAnswerBody (field b 0 4) .busy (setClock (field b 6 6) s))) (setClock (field b 6 6) s)
      rw [he, ht]
      exact Exchange.fits_append (e := { s.exch with state := .idle, outbox := s.exch.outbox ++ l }) hk
        (by simp only [List.length_append]; omega) (fun h => nomatch h)

theorem toOwner_fits (k : MsgKind) (p : Port) (a : Addr) (b : List Byte) {s : State} (hs : s.exch.fits) :
    (toOwner k p a b s).exch.fits := by
  cases k
  case exchOpen => exact takeExchOpen_fits _ hs
  case priceChange => exact takePriceChange_fits _ hs
  case exchClose => exact takeExchClose_fits _ hs
  case linkEcho => exact takeLinkEcho_fits _ hs
  all_goals exact hs.of_eq (by simp [toOwner])

theorem settingChanged_fits (n : Nat) (old : State) {s : State} (hs : s.exch.fits) : (settingChanged n old s).exch.fits := by
  unfold settingChanged
  split
  case h_1 =>
    unfold headOfficeChanged
    split
    · exact changeUplink_fits _ _ hs
    · exact hs.of_eq (by simp)
  case h_9 | h_10 => exact recomputeWindow_fits hs
  case h_11 =>
    split
    · exact probeTimerStep_fits hs
    · exact hs
  all_goals first
    | exact hs.of_eq (by simp)
    | (split <;> exact hs.of_eq (by simp))

theorem writeSetting_fits (n v : Nat) {s : State} (hs : s.exch.fits) : (writeSetting n v s).2.exch.fits := by
  unfold writeSetting applySetting
  split
  · dsimp only
    split
    · exact hs
    · refine settingChanged_fits _ _ ?_
      dsimp only
      split
      · exact hs
      · exact hs.of_eq (by simp)
  · exact hs

theorem setClockRequest_fits (r : Request) {s : State} (hs : s.exch.fits) : (setClockRequest r s).exch.fits := by
  refine withFields_keeps (P := fun u => u.exch.fits) hs (fun o d u hu => hu.of_eq (by simp)) (fun u hu => ?_)
  split
  · exact (recomputeWindow_fits (s := { u with clock := clockOf (field r.fields 0 2 * daySeconds + field r.fields 2 4) }) hu).of_eq
      (by simp only [answer_frame]; rfl)
  · exact hu.of_eq (by simp [refuse])

theorem forceRequest_fits (r : Request) {s : State} (hs : s.exch.fits) : (forceRequest r s).exch.fits := by
  refine withFields_keeps (P := fun u => u.exch.fits) hs (fun o d u hu => hu.of_eq (by simp)) (fun u hu => ?_)
  split
  · next on _ =>
    have hf : (forceUplink on u).exch.fits := by
      unfold forceUplink
      split
      · exact changeUplink_fits .fallback .force (s := setUplink { u.uplink with force := true } u) hu
      · exact hu
    exact hf.of_eq (by simp)
  · exact hu.of_eq (by simp [refuse])

theorem reofferFor_fits (g : Generator) {s : State} (hs : s.exch.fits) : (reofferFor s g).exch.fits := by
  cases g
  case exchangeUnit =>
    rw [reofferFor, reofferOutbox_exch]
    exact Exchange.fits_of_sublist (offerInTurn_suffix _ _ _).sublist id hs
  all_goals exact hs.of_eq (by simp [reofferFor])

theorem linkDownStep_fits (p : Port) (receiving : Bool) {s : State} (hs : s.exch.fits) : (linkDownStep p receiving s).exch.fits := by
  have hd : ∀ u : State, u.exch.fits → (discardHeld p u).exch.fits := fun u hu => by
    have : (discardHeld p u).exch = (forgetHeld p u).exch := by
      unfold discardHeld
      dsimp only
      split <;> simp
    rw [this]
    exact Exchange.fits_of_sublist List.filter_sublist id hu
  unfold linkDownStep
  dsimp only
  split
  · generalize hv : discardHeld p (markReoffer _) = v
    have hf : v.exch.fits := by
      rw [← hv]
      refine hd _ (hs.of_eq ?_)
      split <;> simp
    split
    · exact changeUplink_fits _ _ hf
    · exact hf
  · exact hs

/-- The traffic reset leaves the exchange unit with an empty outbox, an open batch gone and one under way going on. -/
theorem trafficReset_exch (s : State) : (trafficReset s).exch = { s.exch.dropOpen with outbox := [] } := by
  have hd : ∀ e : Exchange, ({ e with outbox := [] } : Exchange).dropOpen = { e.dropOpen with outbox := [] } := fun e => by
    cases h : e.state <;> simp [Exchange.dropOpen, h]
  have hi : ∀ (e : Exchange) (b : Nat) (o : List Msg), (⟨e.dropOpen.state, b, o⟩ : Exchange).dropOpen = ⟨e.dropOpen.state, b, o⟩ :=
    fun e _ _ => Exchange.dropOpen_of_not_staging e.dropOpen_not_staging
  have hu : ∀ u : State, (uplinkResetTraffic u).exch = u.exch.dropOpen ∨ (uplinkResetTraffic u).exch = u.exch := fun u => by
    unfold uplinkResetTraffic
    simp only [startProbing_frame, changeUplink_exch]
    split
    · exact .inl rfl
    · exact .inr rfl
  unfold trafficReset
  simp only [formRate_frame]
  obtain h | h := hu (testLevels (discardBatch .reset (sendUnsent (dispatch (mgmtResetTraffic (stationsResetTraffic
      (exchResetTraffic (labelsResetTraffic (journalResetTraffic (tillResetTraffic (poolResetTraffic s)))))))))))
  all_goals
    rw [h]
    simp only [testLevels_frame, discardBatch_silent (r := .reset) rfl]
    simp only [sendUnsent_frame, dispatch_frame, mgmtResetTraffic_frame, stationsResetTraffic_frame, exchResetTraffic, setExch,
      labelsResetTraffic_frame, journalResetTraffic_frame, tillResetTraffic_frame, poolResetTraffic_frame, hd, hi]

theorem trafficReset_fits (s : State) : (trafficReset s).exch.fits := by
  rw [trafficReset_exch]
  exact ⟨Nat.zero_le _, fun _ => Nat.zero_le _⟩

theorem after_fits (c : Instr) (s : State) (hs : s.exch.fits) : (after c s).exch.fits := by
  have ht : ∀ (r : Request) (u : State), u.exch.fits → (takeRequest r u).exch.fits := fun r u hu => hu.of_eq (by simp)
  have ha : ∀ (r : Request) o d (u : State), u.exch.fits → (answer r o d u).exch.fits :=
    fun r o d u hu => hu.of_eq (by simp)
  have hl : ∀ p a (u : State), u.exch.fits → (learnSource p a u).after.exch.fits := fun p a u hu => hu.of_eq (by simp)
  cases c
  case powerOn | resetPin => exact ⟨Nat.zero_le _, fun _ => Nat.zero_le _⟩
  case resetFull =>
    exact runHead_keeps (P := fun u => u.exch.fits) hs ht (resetFullRequest_keeps (P := fun u => u.exch.fits)
      (fun _ => ⟨Nat.zero_le _, fun _ => Nat.zero_le _⟩) ha)
  case resetTraffic =>
    exact runHead_keeps (P := fun u => u.exch.fits) hs ht (fun r u _ => ha r .done [] _ (trafficReset_fits u))
  case settingWrite =>
    exact runHead_keeps (P := fun u => u.exch.fits) hs ht (fun r u hu =>
      withFields_keeps (P := fun u => u.exch.fits) hu (ha r) (fun v hv => ha _ _ _ _ (writeSetting_fits _ _ hv)))
  case clockSet => exact runHead_keeps (P := fun u => u.exch.fits) hs ht (fun r u hu => setClockRequest_fits r hu)
  case uplinkForce => exact runHead_keeps (P := fun u => u.exch.fits) hs ht (fun r u hu => forceRequest_fits r hu)
  case linkUp => exact hs.of_eq (by simp)
  case linkDown => exact linkDownStep_fits _ _ hs
  case clockSecond => exact clockSecondStep_fits hs
  case quietTimeout => exact quietTimeoutStep_fits hs
  case commitChange => exact commitChangeStep_fits hs
  case probeTimer => exact probeTimerStep_fits hs
  case heldMessageReoffer order =>
    exact foldl_keeps (P := fun u => u.exch.fits) (fun u g hu => reofferFor_fits g hu) _ _ hs
  case ordinaryFrame =>
    exact receiveFrame_keeps (P := fun u => u.exch.fits) hs (fun o u hu => hu) (fun p u hu => hu) hl
      (fun k p b c u hu => toOwner_fits k p b c hu) (fun p e f u hu => hu.of_eq (by simp)) (fun q f u hu => hu.of_eq (by simp))
  case priceAsk | saleRecord | itemReply | journalAck | labelResult | exchOpen | priceChange | exchClose | linkEcho | mgmtReq =>
    exact receiveBranch_keeps (P := fun u => u.exch.fits) hs (fun o u hu => hu) (fun p u hu => hu) hl
      (fun p a b u hu => toOwner_fits _ p a b hu)
  case counterSnapshot => exact hs.of_eq (by simp)
  all_goals exact hs.of_eq (by simp)

/-- Settles O10: the bounds by the basic operations, the outbox by what the exchange unit does to it. -/
theorem everyStepKeepsTheSizes : Obligations.EveryStepKeepsTheSizes := by
  refine fun s t hs h => sizesHold_iff.2 (step_keeps (P := fun u => BoundsHold u ∧ u.exch.fits) (fun _ _ _ h => h) (fun u hu => ?_)
    (fun c u hu => ⟨after_boundsHold c u hu.1, after_fits c u hu.2⟩) (sizesHold_iff.1 hs) h)
  obtain ⟨⟨h1, h2, h3, h4⟩, hf⟩ := hu
  exact ⟨⟨h1, h2, (u.clock.tick_keeps_reading).2.symm ▸ h3, h4⟩, hf⟩

end Sys2Proof.Machine

/-! Stations and guests through every step: the two tables change together or not in the addresses of guests. -/

namespace Sys2Proof.Machine

/-! ### What leaves the guest table -/

@[simp] theorem formRate_guestTable (s : State) : (formRate s).guest.table = s.guest.table := rfl

@[simp] theorem changeUplink_guestTable (n : UplinkState) (c : UplinkCause) (s : State) :
    (changeUplink n c s).guest.table = s.guest.table := by
  unfold changeUplink
  dsimp only
  (repeat' split) <;> simp

@[simp] theorem loseProbe_guestTable (s : State) : (loseProbe s).guest.table = s.guest.table := by
  unfold loseProbe
  dsimp only
  (repeat' split) <;> simp

@[simp] theorem judgeProbe_guestTable (s : State) : (judgeProbe s).guest.table = s.guest.table := by
  unfold judgeProbe
  (repeat' split) <;> simp

@[simp] theorem probeTimerStep_guestTable (s : State) : (probeTimerStep s).guest.table = s.guest.table := by
  unfold probeTimerStep probeDue
  (repeat' split) <;> simp

@[simp] theorem moveByEcho_guestTable (b : Bool) (s : State) : (moveByEcho b s).guest.table = s.guest.table := by
  unfold moveByEcho
  dsimp only
  (repeat' split) <;> simp

@[simp] theorem takeLinkEcho_guestTable (b : List Byte) (s : State) : (takeLinkEcho b s).guest.table = s.guest.table := by
  unfold takeLinkEcho countEcho
  (repeat' split) <;> simp

@[simp] theorem uplinkLinkDown_guestTable (s : State) : (uplinkLinkDown s).guest.table = s.guest.table := by
  simp [uplinkLinkDown]

@[simp] theorem forceUplink_guestTable (on : Bool) (s : State) : (forceUplink on s).guest.table = s.guest.table := by
  unfold forceUplink
  split <;> simp

@[simp] theorem headOfficeChanged_guestTable (s : State) : (headOfficeChanged s).guest.table = s.guest.table := by
  unfold headOfficeChanged
  split <;> simp

@[simp] theorem uplinkResetTraffic_guestTable (s : State) : (uplinkResetTraffic s).guest.table = s.guest.table := by
  simp [uplinkResetTraffic]

@[simp] theorem recomputeWindow_guestTable (s : State) : (recomputeWindow s).guest.table = s.guest.table := by
  unfold recomputeWindow
  split <;> simp

@[simp] theorem clockSecondStep_guestTable (s : State) : (clockSecondStep s).guest.table = s.guest.table := by
  unfold clockSecondStep
  split <;> simp

@[simp] theorem setClock_guestTable (n : Nat) (s : State) : (setClock n s).guest.table = s.guest.table := by
  simp [setClock]

@[simp] theorem takeExchOpen_guestTable (b : List Byte) (s : State) : (takeExchOpen b s).guest.table = s.guest.table := by
  unfold takeExchOpen
  dsimp only
  (repeat' split) <;> simp

@[simp] theorem toOwner_guestTable (k : MsgKind) (p : Port) (a : Addr) (b : List Byte) (s : State) :
    (toOwner k p a b s).guest.table = s.guest.table := by
  cases k <;> simp [toOwner]

@[simp] theorem linkDownStep_guestTable (p : Port) (r : Bool) (s : State) : (linkDownStep p r s).guest.table = s.guest.table := by
  unfold linkDownStep
  dsimp only
  (repeat' split) <;> simp

/-! ### The two tables -/

theorem del_of_absent {α : Type} {m : SMap α} {k : Nat} (hk : Tbl.get m k = none) : Tbl.del m k = m :=
  List.filter_eq_self.2 fun p hp => by simpa using Tbl.get_eq_none_iff.1 hk p hp

/-- What `GuestsHold` says of the two tables. -/
def TablesAgree (m : SMap Station) (g : SMap GuestRec) : Prop :=
  Tbl.wf m ∧ Tbl.wf g ∧ (∀ p ∈ m, p.1 = p.2.addr.toNat ∧ (p.2.loaded = true → p.2.cls ≠ .guestClient)) ∧
    (∀ p ∈ g, p.1 = p.2.addr.toNat) ∧ ∀ k, (∃ e, Tbl.get m k = some e ∧ e.cls = .guestClient) ↔ (Tbl.get g k).isSome

theorem guestsHold_iff {s : State} : GuestsHold s ↔ TablesAgree s.stations.table s.guest.table := Iff.rfl

theorem GuestsHold.of_tables {s t : State} (h : GuestsHold s) (hm : t.stations.table = s.stations.table)
    (hg : t.guest.table = s.guest.table) : GuestsHold t := by
  rw [guestsHold_iff, hm, hg]
  exact h

section
variable {m : SMap Station} {g : SMap GuestRec} (h : TablesAgree m g)
include h

theorem TablesAgree.addr_of_get {k : Nat} {e : Station} (he : Tbl.get m k = some e) : e.addr.toNat = k :=
  ((h.2.2.1 _ (Tbl.mem_of_get he)).1).symm

theorem TablesAgree.guest_addr_of_get {k : Nat} {r : GuestRec} (hr : Tbl.get g k = some r) : r.addr.toNat = k :=
  (h.2.2.2.1 _ (Tbl.mem_of_get hr)).symm

theorem TablesAgree.guest_of_get {k : Nat} {e : Station} (he : Tbl.get m k = some e) :
    e.cls = .guestClient ↔ (Tbl.get g k).isSome := by
  rw [← h.2.2.2.2 k, he]
  simp

theorem TablesAgree.guest_of_absent {k : Nat} (he : Tbl.get m k = none) : Tbl.get g k = none := by
  have hk := h.2.2.2.2 k
  rw [he] at hk
  simpa using hk

/-- An entry written where no guest record comes or goes. -/
theorem TablesAgree.putStation {e : Station} (hl : e.loaded = true → e.cls ≠ .guestClient)
    (hc : e.cls = .guestClient ↔ (Tbl.get g e.addr.toNat).isSome) : TablesAgree (Tbl.put m e.addr.toNat e) g := by
  obtain ⟨hm, hg, hp, hq, hk⟩ := h
  refine ⟨Tbl.wf_put hm _ _, hg, fun p hp' => ?_, hq, fun k => ?_⟩
  · obtain rfl | hp' := Tbl.mem_put hp'
    · exact ⟨rfl, hl⟩
    · exact hp p hp'
  · rw [Tbl.get_put]
    split
    · next he =>
      subst he
      simpa using hc
    · exact hk k

/-- A guest record rewritten. -/
theorem TablesAgree.putGuest {r : GuestRec} (hc : (Tbl.get g r.addr.toNat).isSome) : TablesAgree m (Tbl.put g r.addr.toNat r) := by
  obtain ⟨hm, hg, hp, hq, hk⟩ := h
  refine ⟨hm, Tbl.wf_put hg _ _, hp, fun p hp' => ?_, fun k => ?_⟩
  · obtain rfl | hp' := Tbl.mem_put hp'
    · rfl
    · exact hq p hp'
  · rw [hk k, Tbl.get_put]
    split
    · next he =>
      subst he
      simpa using hc
    · rfl

/-- A guest admitted: an entry and a record for it. -/
theorem TablesAgree.enter {e : Station} {r : GuestRec} (ha : r.addr = e.addr) (hl : e.loaded = false) (hc : e.cls = .guestClient) :
    TablesAgree (Tbl.put m e.addr.toNat e) (Tbl.put g r.addr.toNat r) := by
  obtain ⟨hm, hg, hp, hq, hk⟩ := h
  refine ⟨Tbl.wf_put hm _ _, Tbl.wf_put hg _ _, fun p hp' => ?_, fun p hp' => ?_, fun k => ?_⟩
  · obtain rfl | hp' := Tbl.mem_put hp'
    · exact ⟨rfl, by simp [hl]⟩
    · exact hp p hp'
  · obtain rfl | hp' := Tbl.mem_put hp'
    · rfl
    · exact hq p hp'
  · rw [Tbl.get_put, Tbl.get_put, ha]
    split
    · simpa using hc
    · exact hk k

/-- An entry and the guest record of its address leave together. -/
theorem TablesAgree.del (k : Nat) : TablesAgree (Tbl.del m k) (Tbl.del g k) := by
  obtain ⟨hm, hg, hp, hq, hk⟩ := h
  refine ⟨Tbl.wf_del hm _, Tbl.wf_del hg _, fun p hp' => hp p (List.mem_of_mem_filter hp'),
    fun p hp' => hq p (List.mem_of_mem_filter hp'), fun j => ?_⟩
  rw [Tbl.get_del, Tbl.get_del]
  split
  · simp
  · exact hk j

/-- An entry written over another, the guest record of the address going. -/
theorem TablesAgree.replace {e : Station} (hl : e.loaded = true → e.cls ≠ .guestClient) (hc : e.cls ≠ .guestClient) :
    TablesAgree (Tbl.put m e.addr.toNat e) (Tbl.del g e.addr.toNat) := by
  obtain ⟨hm, hg, hp, hq, hk⟩ := h
  refine ⟨Tbl.wf_put hm _ _, Tbl.wf_del hg _, fun p hp' => ?_, fun p hp' => hq p (List.mem_of_mem_filter hp'), fun k => ?_⟩
  · obtain rfl | hp' := Tbl.mem_put hp'
    · exact ⟨rfl, hl⟩
    · exact hp p hp'
  · rw [Tbl.get_put, Tbl.get_del]
    split
    · simpa using hc
    · exact hk k

/-- Guest records changed in place. -/
theorem TablesAgree.mapGuest {f : GuestRec → GuestRec} (hf : ∀ r, (f r).addr = r.addr) :
    TablesAgree m (g.map (fun p => (p.1, f p.2))) := by
  obtain ⟨hm, hg, hp, hq, hk⟩ := h
  refine ⟨hm, Tbl.wf_map hg (fun p => f p.2), hp, fun p hp' => ?_, fun k => ?_⟩
  · obtain ⟨q, hq', rfl⟩ := List.mem_map.1 hp'
    rw [hf]
    exact hq q hq'
  · rw [hk k, Tbl.get_map, Option.isSome_map]

end

theorem learnedClass_ne_guest {p : Port} (hp : p ≠ .guest) : learnedClass p ≠ .guestClient := by
  cases p <;> simp [learnedClass] at hp ⊢

theorem loadedClass_ne_guest {seg : Seg} {c n : Nat} {cls : StationClass} (h : loadedClassOf seg c n = some cls) :
    cls ≠ .guestClient := by
  rintro rfl
  unfold loadedClassOf at h
  split at h <;> (try split at h) <;> cases h

/-- What a STATION-WRITE's fields make (R145). -/
theorem stationOf_eq_some {b : List Byte} {s : State} {e : Station} : stationOf b s = some e ↔
    ∃ seg cls, segOfCode (field b 6 1) = some seg ∧ loadedClassOf seg (field b 7 1) (field b 8 1) = some cls ∧
      GoodSource (addrField b 0) s ∧ e = ⟨addrField b 0, seg, cls, true, 0, false⟩ := by
  unfold stationOf GoodSource
  cases hs : segOfCode (field b 6 1) with
  | none => simp
  | some seg =>
    cases hc : loadedClassOf seg (field b 7 1) (field b 8 1) with
    | none => simp [hc]
    | some cls =>
      simp [hc, and_assoc, @eq_comm _ e]

/-! ### What the operations on stations and guests leave -/

section
variable {s : State} (hs : GuestsHold s)
include hs

/-- What dropping an entry that stands leaves of the two tables. -/
theorem dropStation_tables {k : Nat} {e : Station} (he : Tbl.get s.stations.table k = some e) :
    (dropStation e s).stations.table = Tbl.del s.stations.table k ∧ (dropStation e s).guest.table = Tbl.del s.guest.table k := by
  have hk := TablesAgree.addr_of_get hs he
  subst hk
  unfold dropStation
  dsimp only
  split
  · exact ⟨rfl, rfl⟩
  · next hc =>
    have hn := (TablesAgree.guest_of_get hs he).not.1 hc
    exact ⟨rfl, (del_of_absent (by simpa using hn)).symm⟩

theorem dropStation_guests {k : Nat} {e : Station} (he : Tbl.get s.stations.table k = some e) : GuestsHold (dropStation e s) := by
  obtain ⟨hm, hg⟩ := dropStation_tables hs he
  rw [guestsHold_iff, hm, hg]
  exact TablesAgree.del hs k

theorem learnGuest_guests (a : Addr) : GuestsHold (learnGuest a s).after := by
  unfold learnGuest
  dsimp only
  (repeat' split) <;> dsimp only [Learned.after]
  · exact hs
  · exact hs
  · exact TablesAgree.enter hs rfl rfl rfl

theorem learnStation_guests {p : Port} (hp : p ≠ .guest) {a : Addr} (ha : Tbl.get s.stations.table a.toNat = none) :
    GuestsHold (learnStation p a s).after := by
  unfold learnStation
  dsimp only
  split <;> dsimp only [Learned.after]
  · refine TablesAgree.putStation hs (fun hl => nomatch hl) ?_
    simp [learnedClass_ne_guest hp, TablesAgree.guest_of_absent hs ha]
  · exact hs

theorem moveStation_guests (p : Port) {k : Nat} {e : Station} (he : Tbl.get s.stations.table k = some e)
    (hl : e.loaded = false) : GuestsHold (moveStation p e s).after := by
  have hc : GuestsHold (count (occ .stationMoves) s) := hs
  have hk := TablesAgree.addr_of_get hs he
  unfold moveStation
  dsimp only
  by_cases hp : p = .guest
  · rw [if_pos hp]
    exact learnGuest_guests (dropStation_guests hc he) _
  · rw [if_neg hp]
    have hmoved := TablesAgree.replace hs (e := { e with seg := p, cls := learnedClass p, age := 0 }) (by simp [hl])
      (learnedClass_ne_guest hp)
    dsimp only [Learned.after]
    split
    · exact hmoved
    · next hg =>
      have hn := (TablesAgree.guest_of_get hs he).not.1 hg
      rw [del_of_absent (by simpa [hk] using hn)] at hmoved
      exact hmoved

/-- An entry that stands, rewritten with its class and its mark LOADED. -/
theorem putStation_guests {k : Nat} {e d : Station} (he : Tbl.get s.stations.table k = some e) (ha : d.addr = e.addr)
    (hc : d.cls = e.cls) (hl : d.loaded = e.loaded) : GuestsHold (putStation d s) := by
  refine TablesAgree.putStation hs ?_ ?_
  · rw [hl, hc]
    exact (hs.2.2.1 _ (Tbl.mem_of_get he)).2
  · rw [hc, ha, TablesAgree.addr_of_get hs he]
    exact TablesAgree.guest_of_get hs he

theorem misplace_guests (p : Port) {k : Nat} {e : Station} (he : Tbl.get s.stations.table k = some e) : GuestsHold (misplace p e s) := by
  have hc : GuestsHold (count (occDiscard .misplaced p none) s) := hs
  unfold misplace
  dsimp only
  split
  · exact hc
  · exact (putStation_guests hc (d := { e with misplaced := true }) he rfl rfl rfl).of_tables (by simp) (by simp)

theorem learnSource_guests (p : Port) (a : Addr) : GuestsHold (learnSource p a s).after := by
  unfold learnSource
  split
  · exact hs
  split
  · exact hs
  · cases he : Tbl.get s.stations.table a.toNat with
    | some e =>
      dsimp only
      split
      · exact putStation_guests hs (d := { e with age := 0 }) he rfl rfl rfl
      split
      · exact misplace_guests hs p he
      · next hl => exact moveStation_guests hs p he (by simpa using hl)
    | none =>
      dsimp only
      split
      · exact learnGuest_guests hs a
      · next hp => exact learnStation_guests hs hp he

theorem putGuest_guests {k : Nat} {g r : GuestRec} (hg : Tbl.get s.guest.table k = some g) (ha : r.addr = g.addr) :
    GuestsHold (putGuest r s) :=
  TablesAgree.putGuest hs (by rw [ha, TablesAgree.guest_addr_of_get hs hg, hg]; rfl)

theorem chargeUp_guests {k : Nat} {g : GuestRec} (hg : Tbl.get s.guest.table k = some g) (n : Nat) : GuestsHold (chargeUp g n s).2 := by
  unfold chargeUp
  (repeat' split)
  · exact putGuest_guests hs hg rfl
  · exact putGuest_guests hs (r := { g with level := g.level - n, bytesUp := min maxBytes (g.bytesUp + n) }) hg rfl
  · exact putGuest_guests hs hg rfl

theorem chargeDown_guests {k : Nat} {g : GuestRec} (hg : Tbl.get s.guest.table k = some g) (n : Nat) :
    GuestsHold (chargeDown g n s).2 := by
  unfold chargeDown
  split
  · exact putGuest_guests hs (r := { g with level := g.level - n, bytesDown := min maxBytes (g.bytesDown + n) }) hg rfl
  · exact putGuest_guests hs hg rfl

theorem throughGates_guests (p q : Port) (e d : Option Station) (f : Frame) : GuestsHold (throughGates p q e d f s) := by
  have hsend : ∀ c c' b u, GuestsHold u → GuestsHold (sendOn q c c' f b u) := fun c c' b u hu => hu.of_tables (by simp) (by simp)
  unfold throughGates
  dsimp only
  (repeat' split) <;> first
    | exact hsend _ _ _ _ hs
    | exact hs
    | (rename_i hg hr; exact hsend _ _ _ _ (chargeUp_guests hs hg _))
    | (rename_i hg hr; exact hsend _ _ _ _ (chargeDown_guests hs hg _))
    | (rename_i hg hr; exact chargeUp_guests hs hg _)
    | (rename_i hg hr; exact chargeDown_guests hs hg _)

theorem forwardUnicast_guests (p : Port) (e : Option Station) (f : Frame) : GuestsHold (forwardUnicast p e f s) := by
  unfold forwardUnicast
  dsimp only
  (repeat' split) <;> first | exact hs | exact throughGates_guests hs _ _ _ _ _

theorem toOwner_guests (k : MsgKind) (p : Port) (a : Addr) (b : List Byte) : GuestsHold (toOwner k p a b s) :=
  hs.of_tables (by simp) (by simp)

theorem writeStation_guests {e : Station} (hc : e.cls ≠ .guestClient) : GuestsHold (writeStation e s).2 := by
  have hput : ∀ u, GuestsHold u → Tbl.get u.guest.table e.addr.toNat = none → GuestsHold (putStation e u) := fun u hu hn =>
    TablesAgree.putStation hu (fun _ => hc) (by simp [hc, hn])
  have hdispatch : ∀ u, GuestsHold u → GuestsHold (dispatch u) := fun u hu => hu.of_tables (by simp) (by simp)
  unfold writeStation
  cases he : Tbl.get s.stations.table e.addr.toNat with
  | some old =>
    have hp := hput _ (dropStation_guests hs he) (by simp [(dropStation_tables hs he).2])
    dsimp only
    split
    · exact hdispatch _ hp
    · exact hp
  | none =>
    have hp := hput _ hs (TablesAgree.guest_of_absent hs he)
    dsimp only
    (repeat' split)
    · exact hs
    · exact hdispatch _ hp
    · exact hp

theorem writeStationRequest_guests (r : Request) : GuestsHold (writeStationRequest r s) := by
  refine withFields_keeps hs (fun o d u hu => hu.of_tables (by simp) (by simp)) fun u hu => ?_
  split
  · exact hu.of_tables (by simp) (by simp)
  · next e he =>
    exact (writeStation_guests hu (e := e) (by
      obtain ⟨_, _, _, hc, _, rfl⟩ := stationOf_eq_some.1 he
      exact loadedClass_ne_guest hc)).of_tables (by simp) (by simp)

theorem deleteStationRequest_guests (r : Request) : GuestsHold (deleteStationRequest r s) := by
  refine withFields_keeps hs (fun o d u hu => hu.of_tables (by simp) (by simp)) fun u hu => ?_
  split
  · next e he => exact (dropStation_guests hu he).of_tables (by simp) (by simp)
  · exact hu.of_tables (by simp) (by simp)

theorem bucketRefillStep_guests : GuestsHold (bucketRefillStep s) :=
  TablesAgree.mapGuest hs (f := (·.refilled s.settings.clientRate s.settings.clientDepth)) fun _ => rfl

theorem clearOwnAddress_guests (a : Addr) : GuestsHold (clearOwnAddress a s) := by
  unfold clearOwnAddress
  split
  · next he => exact dropStation_guests hs he
  · exact hs

theorem settingChanged_guests (n : Nat) (old : State) : GuestsHold (settingChanged n old s) := by
  have hcutl : GuestsHold (cutLeases s) := TablesAgree.mapGuest hs (f := fun r => { r with lease := min s.settings.lease r.lease }) fun _ => rfl
  have hcutc : GuestsHold (cutClientLevels s) := TablesAgree.mapGuest hs (f := (·.cutTo s.settings.clientDepth)) fun r => by
    unfold GuestRec.cutTo
    split <;> rfl
  have hagg : GuestsHold (cutAggregate s) := by
    unfold cutAggregate
    split <;> exact hs
  unfold settingChanged
  split
  case h_12 =>
    split
    · exact hcutl
    · exact hs
  case h_14 =>
    split
    · exact hcutc
    · exact hs
  case h_17 =>
    split
    · exact hagg
    · exact hs
  case h_2 | h_4 | h_5 | h_7 | h_8 | h_11 | h_13 => split <;> exact hs.of_tables (by simp [cutCoolOff]) (by simp [cutCoolOff])
  case h_1 | h_3 | h_6 | h_9 | h_10 | h_15 | h_16 | h_18 => exact hs.of_tables (by simp) (by simp)

theorem writeSetting_guests (n v : Nat) : GuestsHold (writeSetting n v s).2 := by
  unfold writeSetting applySetting
  split
  · dsimp only
    split
    · exact hs
    · have ht : ∀ (st : Settings) (u : State), GuestsHold u → GuestsHold { u with settings := st } := fun _ _ h => h
      refine settingChanged_guests (ht _ _ ?_) _ _
      split
      · exact hs
      · exact clearOwnAddress_guests hs _
  · exact hs

/-- The station table after an ageing step (R144). -/
theorem ageingStepBody_station (k : Nat) : Tbl.get (ageingStepBody s).stations.table k =
    ((Tbl.get s.stations.table k).filter (fun e => !agesOut s.settings.ageLimit e)).map Station.aged := by
  simp only [ageingStepBody, setGuest, setStations]
  rw [Tbl.get_map (f := Station.aged), Tbl.get_filter hs.1]

/-- A guest record stands after an ageing step exactly when its station entry does (R144). -/
theorem ageingStepBody_guest (k : Nat) : Tbl.get (ageingStepBody s).guest.table k =
    if (Tbl.get (ageingStepBody s).stations.table k).isSome then Tbl.get s.guest.table k else none := by
  have hleaves : (s.stations.table.filter (fun p => agesOut s.settings.ageLimit p.2)).any (fun q => q.1 == k && q.2.cls == .guestClient) =
      (Tbl.get s.stations.table k).any (fun e => agesOut s.settings.ageLimit e && e.cls == .guestClient) := by
    rw [Bool.eq_iff_iff, List.any_eq_true, Option.any_eq_true]
    constructor
    · rintro ⟨⟨j, e⟩, he, hj⟩
      obtain ⟨he, ho⟩ := List.mem_filter.1 he
      simp only [Bool.and_eq_true, beq_iff_eq] at hj
      obtain ⟨rfl, hc⟩ := hj
      exact ⟨e, Tbl.get_of_mem hs.1 he, by simpa using ⟨ho, hc⟩⟩
    · rintro ⟨e, he, ho⟩
      simp only [Bool.and_eq_true, beq_iff_eq] at ho
      exact ⟨(k, e), List.mem_filter.2 ⟨Tbl.mem_of_get he, ho.1⟩, by simp [ho.2]⟩
  have hget : Tbl.get (ageingStepBody s).guest.table k = (Tbl.get s.guest.table k).filter (fun _ =>
      !(Tbl.get s.stations.table k).any (fun e => agesOut s.settings.ageLimit e && e.cls == .guestClient)) := by
    simp only [ageingStepBody, setGuest, setStations, Tbl.get_filter hs.2.1, hleaves]
  rw [hget, ageingStepBody_station hs]
  cases he : Tbl.get s.stations.table k with
  | none => simp [TablesAgree.guest_of_absent hs he]
  | some e =>
    cases hr : Tbl.get s.guest.table k with
    | none => simp
    | some r =>
      have hc : e.cls = .guestClient := (TablesAgree.guest_of_get hs he).2 (by simp [hr])
      cases ho : agesOut s.settings.ageLimit e <;> simp [ho, hc, Option.filter]

theorem ageingStepBody_guests : GuestsHold (ageingStepBody s) := by
  refine ⟨Tbl.wf_map (Tbl.wf_filter hs.1 _) (fun p => p.2.aged), Tbl.wf_filter hs.2.1 _, fun p hp => ?_,
    fun p hp => hs.2.2.2.1 p (List.mem_of_mem_filter hp), fun k => ?_⟩
  · obtain ⟨q, hq, rfl⟩ := List.mem_map.1 hp
    exact hs.2.2.1 q (List.mem_of_mem_filter hq)
  · rw [ageingStepBody_guest hs, ageingStepBody_station hs]
    cases he : Tbl.get s.stations.table k with
    | none => simp
    | some e =>
      have := TablesAgree.guest_of_get hs he
      cases ho : agesOut s.settings.ageLimit e
      · simpa [ho, Option.filter, Station.aged] using this
      · simp [ho, Option.filter]

/-- An address is among those whose lease ends exactly when its record says so (R170). -/
theorem mem_expiring_iff {k : Nat} {g : GuestRec} (hg : Tbl.get s.guest.table k = some g) (a : Addr) (ha : a.toNat = k) :
    a ∈ s.guest.expiring ↔ g.lease ≤ 1 := by
  simp only [Guest.expiring, List.mem_map, List.mem_filter, decide_eq_true_eq]
  constructor
  · rintro ⟨⟨j, r⟩, ⟨hr, hl⟩, hra⟩
    have hj : j = k := by rw [← ha, ← hra]; exact hs.2.2.2.1 _ hr
    subst hj
    rw [Tbl.get_of_mem hs.2.1 hr] at hg
    cases hg
    exact hl
  · intro hl
    refine ⟨(k, g), ⟨Tbl.mem_of_get hg, hl⟩, BitVec.eq_of_toNat_eq ?_⟩
    rw [ha, TablesAgree.guest_addr_of_get hs hg]

/-- The guest table after a second step (R170). -/
theorem guestSecondStepBody_guest (k : Nat) : Tbl.get (guestSecondStepBody s).guest.table k =
    ((Tbl.get s.guest.table k).filter (fun g => !(g.lease ≤ 1 : Bool))).map (fun g => { g with lease := g.lease - 1 }) := by
  simp only [guestSecondStepBody, setGuest, setStations]
  rw [← Tbl.get_filter hs.2.1 (fun p => !(p.2.lease ≤ 1 : Bool))]
  exact Tbl.get_map _ (fun g : GuestRec => { g with lease := g.lease - 1 }) k

/-- The station table after a second step: the entries of guests whose lease ends go (R170). -/
theorem guestSecondStepBody_station (k : Nat) : Tbl.get (guestSecondStepBody s).stations.table k =
    if (Tbl.get s.guest.table k).any (fun g => g.lease ≤ 1) then none else Tbl.get s.stations.table k := by
  simp only [guestSecondStepBody, setGuest, setStations, Tbl.get_filter hs.1]
  cases he : Tbl.get s.stations.table k with
  | none => simp
  | some e =>
    have ha := TablesAgree.addr_of_get hs he
    have hc := TablesAgree.guest_of_get hs he
    cases hr : Tbl.get s.guest.table k with
    | none =>
      have : e.cls ≠ .guestClient := by simpa [hr] using hc
      simp [Option.filter, this]
    | some g =>
      have hcls : e.cls = .guestClient := by simpa [hr] using hc
      have hx := mem_expiring_iff hs hr e.addr ha
      by_cases hl : g.lease ≤ 1 <;> simp [Option.filter, hcls, hx, hl]

theorem guestSecondStepBody_guests : GuestsHold (guestSecondStepBody s) := by
  refine ⟨Tbl.wf_filter hs.1 _, Tbl.wf_map (Tbl.wf_filter hs.2.1 _) (fun p => { p.2 with lease := p.2.lease - 1 }),
    fun p hp => hs.2.2.1 p (List.mem_of_mem_filter hp), fun p hp => ?_, fun k => ?_⟩
  · obtain ⟨q, hq, rfl⟩ := List.mem_map.1 hp
    exact hs.2.2.2.1 q (List.mem_of_mem_filter hq)
  · rw [guestSecondStepBody_guest hs, guestSecondStepBody_station hs]
    have hk := hs.2.2.2.2 k
    cases hr : Tbl.get s.guest.table k with
    | none => simpa [hr] using hk
    | some g =>
      by_cases hl : g.lease ≤ 1
      · simp [Option.filter, hl]
      · simpa [Option.filter, hl, hr] using hk

theorem stationsResetTraffic_guests : GuestsHold (stationsResetTraffic s) := by
  obtain ⟨hm, hg, hp, hq, hk⟩ := hs
  refine ⟨Tbl.wf_filter hm _, List.Pairwise.nil, fun p hp' => hp p (List.mem_of_mem_filter hp'), fun _ hp' => absurd hp' List.not_mem_nil,
    fun k => ?_⟩
  have hnone : ¬∃ e, Tbl.get (s.stations.table.filter (fun p => p.2.loaded)) k = some e ∧ e.cls = .guestClient := by
    rintro ⟨e, he, hc⟩
    obtain ⟨he', hl⟩ := List.mem_filter.1 (Tbl.mem_of_get he)
    exact (hp _ he').2 hl hc
  exact ⟨fun h => absurd h hnone, fun h => nomatch h⟩

theorem trafficReset_guests : GuestsHold (trafficReset s) := by
  have h0 : GuestsHold (tillResetTraffic (poolResetTraffic s)) := hs.of_tables (by simp) (by simp)
  have h1 : GuestsHold (exchResetTraffic (labelsResetTraffic (journalResetTraffic (tillResetTraffic (poolResetTraffic s))))) :=
    hs.of_tables (by simp) (by simp)
  exact (stationsResetTraffic_guests h1).of_tables (by simp [trafficReset]) (by simp [trafficReset])

end

theorem TablesAgree.empty : TablesAgree [] [] :=
  ⟨List.Pairwise.nil, List.Pairwise.nil, by simp, by simp, by simp⟩

theorem resetWith_guests (straps : Straps) (s : State) : GuestsHold (resetWith straps s) := TablesAgree.empty

theorem fullReset_guests (s : State) : GuestsHold (fullReset s) := TablesAgree.empty

theorem after_guestsHold (c : Instr) (s : State) (hs : GuestsHold s) : GuestsHold (after c s) := by
  have ht : ∀ (r : Request) (u : State), GuestsHold u → GuestsHold (takeRequest r u) := fun r u hu => hu.of_tables (by simp) (by simp)
  have ha : ∀ (r : Request) o d (u : State), GuestsHold u → GuestsHold (answer r o d u) :=
    fun r o d u hu => hu.of_tables (by simp) (by simp)
  cases c
  case powerOn | resetPin => exact resetWith_guests _ _
  case resetFull => exact runHead_keeps hs ht (resetFullRequest_keeps fullReset_guests ha)
  case resetTraffic => exact runHead_keeps hs ht fun r u hu => ha _ _ _ _ (trafficReset_guests hu)
  case settingWrite => exact runHead_keeps hs ht fun r u hu => withFields_keeps hu (ha r) fun v hv => ha _ _ _ _ (writeSetting_guests hv _ _)
  case stationWrite => exact runHead_keeps hs ht fun r u hu => writeStationRequest_guests hu r
  case stationDelete => exact runHead_keeps hs ht fun r u hu => deleteStationRequest_guests hu r
  case ageingStep => exact ageingStepBody_guests hs
  case guestSecondStep => exact guestSecondStepBody_guests hs
  case bucketRefill => exact bucketRefillStep_guests hs
  case ordinaryFrame =>
    exact receiveFrame_keeps hs (fun o u hu => hu) (fun p u hu => hu) (fun p a u hu => learnSource_guests hu p a)
      (fun k p b c u hu => toOwner_guests hu k p b c) (fun p e f u hu => forwardUnicast_guests hu p e f)
      (fun q f u hu => hu.of_tables (by simp) (by simp))
  case priceAsk | saleRecord | itemReply | journalAck | labelResult | exchOpen | priceChange | exchClose | linkEcho | mgmtReq =>
    exact receiveBranch_keeps hs (fun o u hu => hu) (fun p u hu => hu) (fun p a u hu => learnSource_guests hu p a)
      (fun p a b u hu => toOwner_guests hu _ p a b)
  case clockSet =>
    exact runHead_keeps hs ht fun r u hu => withFields_keeps hu (ha r) fun v hv => by
      split
      · exact ha _ _ _ _ (hv.of_tables (by simp) (by simp))
      · exact ha _ _ _ _ hv
  case uplinkForce =>
    exact runHead_keeps hs ht fun r u hu => withFields_keeps hu (ha r) fun v hv => by
      split
      · exact ha _ _ _ _ (hv.of_tables (by simp) (by simp))
      · exact ha _ _ _ _ hv
  all_goals exact hs.of_tables (by simp) (by simp)

/-- Settles O7: each command keeps the two tables in step. -/
theorem everyStepKeepsGuestsAndStations : Obligations.EveryStepKeepsGuestsAndStations :=
  fun _ _ hs h => step_keeps (fun _ _ _ h => h) (fun _ h => h) after_guestsHold hs h

end Sys2Proof.Machine

/-! Items and labels through every step: what a write of the item table does to lookups, and how the two sides of a binding move. -/

namespace Sys2Proof.Machine

/-! ### Lookups after a write of the item table -/

theorem findSome?_of_pointwise {α β : Type} {l : List α} {f g : α → Option β} {a b : β} (hn : ∀ x ∈ l, f x = none → g x = none)
    (ha : ∀ x ∈ l, f x = some a → g x = some b) (h : l.findSome? f = some a) : l.findSome? g = some b := by
  induction l with
  | nil => cases h
  | cons x l ih =>
    rw [List.findSome?_cons] at h ⊢
    cases hf : f x with
    | none =>
      rw [hf] at h
      rw [hn x List.mem_cons_self hf]
      exact ih (fun y hy => hn y (List.mem_cons_of_mem _ hy)) (fun y hy => ha y (List.mem_cons_of_mem _ hy)) h
    | some y =>
      rw [hf] at h
      cases h
      rw [ha x List.mem_cons_self hf]

section
variable {items : SMap ItemRec} {code slot : Nat} {r : ItemRec}

/-- The record of a lookup written again with its code is found in its place. -/
theorem findItem_put_same (h : findItem items code = some (slot, r)) {q : ItemRec} (hq : q.code = code) :
    findItem (Tbl.put items slot q) code = some (slot, q) := by
  obtain ⟨hv, -, hg, hr⟩ := findItem_found h
  unfold findItem at h ⊢
  rw [if_pos hv] at h ⊢
  refine findSome?_of_pointwise (fun w _ hw => ?_) (fun w _ hw => ?_) h
  · have hne : slotOf code w ≠ slot := by
      rintro rfl
      rw [(slotHit_eq_some (slot := slotOf code w)).2 ⟨rfl, hg, hr⟩] at hw
      cases hw
    unfold slotHit at hw ⊢
    rwa [Tbl.get_put_other _ _ _ _ hne]
  · obtain ⟨hs, -, -⟩ := slotHit_eq_some.1 hw
    exact slotHit_eq_some.2 ⟨hs, Tbl.get_put_same _ _ _, hq⟩

theorem findItem_congr {a b : SMap ItemRec} (h : ∀ w, slotHit a code w = slotHit b code w) : findItem a code = findItem b code := by
  unfold findItem
  rw [funext h]

/-- A write of a slot that holds no other code than `q`'s leaves the lookups of other codes. -/
theorem findItem_put_other {q : ItemRec} (hold : ∀ o, Tbl.get items slot = some o → o.code = q.code) {other : Nat} (hne : other ≠ q.code) :
    findItem (Tbl.put items slot q) other = findItem items other := by
  refine findItem_congr fun w => ?_
  by_cases hs : slotOf other w = slot
  · cases ho : Tbl.get items slot with
    | none => simp [slotHit, hs, ho, Ne.symm hne]
    | some o => simp [slotHit, hs, ho, hold o ho, Ne.symm hne]
  · simp [slotHit, Tbl.get_put_other _ _ _ _ hs]

/-- A record freed leaves the lookups of other codes. -/
theorem findItem_del_other (hold : ∀ o, Tbl.get items slot = some o → o.code = code) {other : Nat} (hne : other ≠ code) :
    findItem (Tbl.del items slot) other = findItem items other := by
  refine findItem_congr fun w => ?_
  by_cases hs : slotOf other w = slot
  · cases ho : Tbl.get items slot with
    | none => simp [slotHit, hs, ho]
    | some o => simp [slotHit, hs, ho, hold o ho, Ne.symm hne]
  · simp [slotHit, Tbl.get_del_other _ _ _ hs]

/-- A record created in a free way is found there. -/
theorem findItem_create {w : Nat} (h : findItem items code = none) (hv : validCode code = true) (hw : freeWay items code = some w)
    {q : ItemRec} (hq : q.code = code) : findItem (Tbl.put items (slotOf code w) q) code = some (slotOf code w, q) := by
  have hfree := hw
  unfold freeWay at hfree
  have hmem := List.mem_of_find?_eq_some hfree
  unfold findItem at h ⊢
  rw [if_pos hv] at h ⊢
  rw [List.findSome?_eq_none_iff] at h
  have hhit : slotHit (Tbl.put items (slotOf code w) q) code w = some (slotOf code w, q) :=
    slotHit_eq_some.2 ⟨rfl, Tbl.get_put_same _ _ _, hq⟩
  have hother : ∀ v, v ≠ w → slotHit (Tbl.put items (slotOf code w) q) code v = slotHit items code v := fun v hv => by
    have : slotOf code v ≠ slotOf code w := by
      unfold slotOf
      omega
    unfold slotHit
    rw [Tbl.get_put_other _ _ _ _ this]
  obtain ⟨x, hx⟩ : ∃ x, [0, 1, 2, 3].findSome? (slotHit (Tbl.put items (slotOf code w) q) code) = some x := by
    refine Option.isSome_iff_exists.1 (List.findSome?_isSome_iff.2 ⟨w, hmem, by simp [hhit]⟩)
  obtain ⟨v, hvm, hvx⟩ := List.exists_of_findSome?_eq_some hx
  have hvw : v = w := by
    by_contra hne
    rw [hother v hne, h v hvm] at hvx
    cases hvx
  rw [hx, ← hvx, hvw, hhit]

theorem lookupItem_of_find (h : findItem items code = some (slot, r)) : lookupItem items code = some r := by
  simp [lookupItem, h]

theorem lookupItem_eq_some : lookupItem items code = some r ↔ ∃ slot, findItem items code = some (slot, r) := by
  simp [lookupItem, Option.map_eq_some_iff]

theorem lookupItem_eq_none : lookupItem items code = none ↔ findItem items code = none := by simp [lookupItem]

theorem lookupItem_congr {a b : SMap ItemRec} (h : findItem a code = findItem b code) : lookupItem a code = lookupItem b code := by
  simp [lookupItem, h]

/-- What stands in the slot a lookup has found. -/
theorem slot_code_of_find (h : findItem items code = some (slot, r)) {o : ItemRec} (ho : Tbl.get items slot = some o) :
    o.code = code := by
  obtain ⟨-, -, hg, hr⟩ := findItem_found h
  rw [hg] at ho
  cases ho
  exact hr

end

/-! ### Item tables in order -/

/-- What `BindingsHold` says of the item table by itself. -/
def ItemsWf (items : SMap ItemRec) : Prop :=
  Tbl.wf items ∧
    (∀ p ∈ items, validCode p.2.code = true ∧ (∃ w, w < 4 ∧ p.1 = slotOf p.2.code w) ∧ p.2.labels.Nodup ∧ p.2.labels.length ≤ 4) ∧
    (items.map (fun p => p.2.code)).Nodup

/-- What `BindingsHold` says of the two sides of a binding. -/
def BoundRight (items : SMap ItemRec) (bound : Nat → Option Nat) : Prop :=
  ∀ n c, bound n = some c ↔ ∃ r, lookupItem items c = some r ∧ n ∈ r.labels

theorem bindingsHold_iff {s : State} : BindingsHold s ↔ ItemsWf s.items ∧ BoundRight s.items (fun n => (s.label n).bound) := by
  simp only [BindingsHold, ItemsWf, BoundRight, and_assoc]

/-- The records of a table have their codes for themselves exactly when equal codes mean equal slots. -/
theorem codes_nodup_iff {items : SMap ItemRec} (hw : Tbl.wf items) : (items.map (fun p => p.2.code)).Nodup ↔
    ∀ k l a b, Tbl.get items k = some a → Tbl.get items l = some b → a.code = b.code → k = l := by
  constructor
  · intro h k l a b ha hb hc
    exact congrArg Prod.fst (List.inj_on_of_nodup_map h (Tbl.mem_of_get ha) (Tbl.mem_of_get hb) hc)
  · intro h
    rw [List.Nodup, List.pairwise_map]
    refine (List.Pairwise.imp_of_mem ?_ hw)
    rintro ⟨k, a⟩ ⟨l, b⟩ ha hb hlt hc
    have := h k l a b (Tbl.get_of_mem hw ha) (Tbl.get_of_mem hw hb) hc
    simp only at hlt
    omega

section
variable {items : SMap ItemRec} (h : ItemsWf items)
include h

/-- In a table in order, a code is found in the one slot that holds it. -/
theorem ItemsWf.find_iff {code slot : Nat} {r : ItemRec} :
    findItem items code = some (slot, r) ↔ Tbl.get items slot = some r ∧ r.code = code := by
  obtain ⟨hw, hp, hn⟩ := h
  constructor
  · intro hf
    obtain ⟨-, -, hg, hc⟩ := findItem_found hf
    exact ⟨hg, hc⟩
  · rintro ⟨hg, rfl⟩
    obtain ⟨hv, ⟨w, hw4, hslot⟩, -⟩ := hp _ (Tbl.mem_of_get hg)
    cases hf : findItem items r.code with
    | none => exact absurd rfl (findItem_missed hf hv hw4 ((show slot = slotOf r.code w from hslot) ▸ hg))
    | some p =>
      obtain ⟨slot, q⟩ := p
      obtain ⟨-, -, hq, hc⟩ := findItem_found hf
      have hs := (codes_nodup_iff hw).1 hn _ _ _ _ hq hg hc
      rw [← hs] at hg ⊢
      rw [hq] at hg
      cases hg
      rfl

theorem ItemsWf.labels_of_find {code slot : Nat} {r : ItemRec} (hf : findItem items code = some (slot, r)) :
    r.labels.Nodup ∧ r.labels.length ≤ 4 := (h.2.1 _ (Tbl.mem_of_get (h.find_iff.1 hf).1)).2.2

/-- A record rewritten under its code. -/
theorem ItemsWf.put {code slot : Nat} {r q : ItemRec} (hf : findItem items code = some (slot, r)) (hq : q.code = code)
    (hd : q.labels.Nodup) (hl : q.labels.length ≤ 4) : ItemsWf (Tbl.put items slot q) := by
  obtain ⟨hv, hs, hg, hr⟩ := findItem_found hf
  refine ⟨Tbl.wf_put h.1 _ _, fun p hp => ?_, (codes_nodup_iff (Tbl.wf_put h.1 _ _)).2 fun k l a b ha hb hc => ?_⟩
  · obtain rfl | hp := Tbl.mem_put hp
    · exact ⟨hq ▸ hv, hq ▸ hs, hd, hl⟩
    · exact h.2.1 p hp
  · have hold : ∀ j o, Tbl.get (Tbl.put items slot q) j = some o → ∃ o', Tbl.get items j = some o' ∧ o'.code = o.code := by
      intro j o ho
      rw [Tbl.get_put] at ho
      split at ho
      · next he =>
        cases ho
        exact ⟨r, he ▸ hg, hr.trans hq.symm⟩
      · exact ⟨o, ho, rfl⟩
    obtain ⟨a', ha', hac⟩ := hold k a ha
    obtain ⟨b', hb', hbc⟩ := hold l b hb
    exact (codes_nodup_iff h.1).1 h.2.2 _ _ _ _ ha' hb' (hac.trans (hc.trans hbc.symm))

/-- A record created in a free way of its bucket. -/
theorem ItemsWf.create {code w : Nat} (hf : findItem items code = none) (hv : validCode code = true) (hw : freeWay items code = some w)
    (f : ItemFields) (v : Nat) : ItemsWf (Tbl.put items (slotOf code w) ⟨code, f, v, []⟩) := by
  have habsent : ∀ j o, Tbl.get items j = some o → o.code ≠ code := fun j o ho hc => by
    rw [h.find_iff.2 ⟨ho, hc⟩] at hf
    cases hf
  refine ⟨Tbl.wf_put h.1 _ _, fun p hp => ?_, (codes_nodup_iff (Tbl.wf_put h.1 _ _)).2 fun k l a b ha hb hc => ?_⟩
  · obtain rfl | hp := Tbl.mem_put hp
    · exact ⟨hv, ⟨w, (freeWay_empty hw).1, rfl⟩, List.nodup_nil, by simp⟩
    · exact h.2.1 p hp
  · rw [Tbl.get_put] at ha hb
    split at ha <;> split at hb
    · next h1 h2 => exact h1.trans h2.symm
    · cases ha
      exact absurd hc.symm (habsent _ _ hb)
    · cases hb
      exact absurd hc (habsent _ _ ha)
    · exact (codes_nodup_iff h.1).1 h.2.2 _ _ _ _ ha hb hc

theorem ItemsWf.del (slot : Nat) : ItemsWf (Tbl.del items slot) := by
  refine ⟨Tbl.wf_del h.1 _, fun p hp => h.2.1 p (List.mem_of_mem_filter hp), ?_⟩
  exact h.2.2.sublist (List.filter_sublist.map _)

/-- A record freed is found no more. -/
theorem ItemsWf.find_del {code slot : Nat} {r : ItemRec} (hf : findItem items code = some (slot, r)) :
    findItem (Tbl.del items slot) code = none := by
  cases hd : findItem (Tbl.del items slot) code with
  | none => rfl
  | some p =>
    obtain ⟨k, q⟩ := p
    obtain ⟨hq, hc⟩ := (h.del slot).find_iff.1 hd
    rw [Tbl.get_del] at hq
    split at hq
    · cases hq
    · next hk =>
      obtain ⟨hg, hr⟩ := h.find_iff.1 hf
      exact absurd ((codes_nodup_iff h.1).1 h.2.2 _ _ _ _ hq hg (hc.trans hr.symm)) hk

end

/-! ### Where bindings stand -/

/-- Between two states every label is bound as it was. -/
def BoundKept (s t : State) : Prop := ∀ n, (t.label n).bound = (s.label n).bound

theorem BoundKept.of_labels {s t : State} (h : t.labels = s.labels) : BoundKept s t := fun n => by rw [label_of_labels h]

theorem BoundKept.trans {s t u : State} (h : BoundKept s t) (k : BoundKept t u) : BoundKept s u := fun n => (k n).trans (h n)

theorem MarksOnly.bound {s t : State} (h : MarksOnly s t) : BoundKept s t := fun n => (h.keeps n).2.2.1

theorem BindingsHold.of_bound {s t : State} (hs : BindingsHold s) (hi : t.items = s.items) (hb : BoundKept s t) : BindingsHold t := by
  rw [bindingsHold_iff] at hs ⊢
  rw [hi]
  exact ⟨hs.1, fun n c => by simpa only [hb n] using hs.2 n c⟩

theorem BindingsHold.of_labels {s t : State} (hs : BindingsHold s) (hi : t.items = s.items) (hl : t.labels = s.labels) :
    BindingsHold t := hs.of_bound hi (.of_labels hl)

/-- A label record written with its binding. -/
theorem setLabel_bound {n : Nat} {r : LabelRec} {s : State} (h : r.bound = (s.label n).bound) : BoundKept s (setLabel n r s) := by
  intro m
  rw [setLabel_label]
  split
  · next hm => rw [h, hm]
  · rfl

theorem oweAll_marks (ns : List Nat) (s : State) : MarksOnly s (oweAll ns s) := by
  unfold oweAll
  induction ns generalizing s with
  | nil => exact .of_labels rfl
  | cons n ns ih => exact (owe_marks n s).trans (ih _)

theorem takeShown_bound (e : LabelEntry) (f : Flight) (s : State) : BoundKept s (takeShown e f s) := by
  have ht : BoundKept s (if (s.label e.label).radio = f.radio then
      setLabel e.label { s.label e.label with reachable := true, display := displayAfter f } s else s) := by
    split
    · exact setLabel_bound rfl
    · exact .of_labels rfl
  unfold takeShown
  dsimp only
  split
  · exact ht.trans (.of_labels (backToWaiting_labels _ _ _))
  · exact ht.trans (removeEntry_marks _ _).bound

theorem giveUp_bound (e : LabelEntry) (o : Option FailOutcome) (s : State) : BoundKept s (giveUp e o s) :=
  (BoundKept.trans (setLabel_bound (n := e.label) (r := { s.label e.label with reachable := false }) rfl) (.of_labels (by simp))).trans
    (removeEntry_marks _ _).bound

theorem takeFailure_bound (e : LabelEntry) (f : Flight) (o : FailOutcome) (s : State) : BoundKept s (takeFailure e f o s) := by
  unfold takeFailure
  dsimp only
  generalize (if f.superseded = true then 0 else e.attempts + 1) = k
  split
  · exact .of_labels (backToWaiting_labels _ _ _)
  · exact giveUp_bound _ _ _

theorem expirePush_bound (tag : Nat) (s : State) : BoundKept s (expirePush tag s) := by
  unfold expirePush
  (repeat' split)
  · exact takeFailure_bound _ _ _ (count (occQ .labelOutcomes 4) s)
  · exact .of_labels rfl
  · exact .of_labels rfl

theorem expirePushes_bound (s : State) : BoundKept s (expirePushes s) := by
  unfold expirePushes
  refine BoundKept.trans ?_ (dispatchOn_marks _ _).bound
  exact foldl_keeps (P := BoundKept s) (fun u tag h => h.trans (expirePush_bound tag u)) _ _ (.of_labels rfl)

theorem takeLabelResult_bound (a : Addr) (b : List Byte) (s : State) : BoundKept s (takeLabelResult a b s) := by
  have hc : ∀ o, BoundKept s (count o s) := fun o => .of_labels rfl
  have hd : ∀ u, BoundKept s u → BoundKept s (dispatch u) := fun u hu => hu.trans (dispatch_marks u).bound
  unfold takeLabelResult
  dsimp only
  split
  · exact hc _
  split
  · exact hc _
  split
  · exact hc _
  · refine hd _ ?_
    split
    · exact (hc _).trans (takeShown_bound _ _ _)
    · exact (hc _).trans (takeFailure_bound _ _ _ _)
    · exact (hc _).trans (takeFailure_bound _ _ _ _)
    · exact (hc _).trans (giveUp_bound _ _ _)

theorem recallSurplus_bound (s : State) : BoundKept s (recallSurplus s) := by
  refine BoundKept.trans ?_ (dispatchOn_marks _ _).bound
  exact foldl_keeps (P := BoundKept s) (fun u b h => h.trans (.of_labels (by simp))) _ _ (.of_labels rfl)

theorem reofferPush_bound (s : State) : BoundKept s (reofferPush s) := by
  unfold reofferPush
  split
  · exact .of_labels rfl
  · dsimp only
    split
    · exact BoundKept.trans (.of_labels (by simp)) (dispatch_marks _).bound
    · exact .of_labels (by simp)

theorem writeRadio_bound (n radio base : Nat) (s : State) : BoundKept s (writeRadio n radio base s) := by
  unfold writeRadio
  dsimp only
  split
  · exact setLabel_bound rfl
  · have ht := setLabel_bound (n := n) (s := s)
      (r := { s.label n with radio := radio, base := base, display := .neverShown, reachable := false }) rfl
    split
    · exact ht.trans (.of_labels rfl)
    · exact ht.trans (BoundKept.trans (.of_labels rfl) (owe_marks _ _).bound)

theorem repushLabel_bound (n : Nat) (s : State) : BoundKept s (repushLabel n s) := by
  have ht : BoundKept s (setLabel n { s.label n with reachable := true } s) := setLabel_bound rfl
  exact (ht.trans (owe_marks n _).bound).trans (dispatchOn_marks s _).bound

theorem writeStation_bound (e : Station) (s : State) : BoundKept s (writeStation e s).2 := by
  have hd : ∀ (b : Bool) (u : State), u.labels = s.labels → BoundKept s (if b then dispatch u else u) := fun b u hu => by
    split
    · exact BoundKept.trans (.of_labels hu) (dispatch_marks u).bound
    · exact .of_labels hu
  unfold writeStation
  split
  · exact hd _ _ (by simp)
  · split
    · exact .of_labels rfl
    · exact hd _ _ (by simp)

theorem settingChanged_bound (n : Nat) (old s : State) : BoundKept s (settingChanged n old s) := by
  unfold settingChanged
  split
  case h_7 =>
    split
    · exact recallSurplus_bound s
    · exact (dispatch_marks s).bound
  case h_8 =>
    split
    · exact expirePushes_bound s
    · exact .of_labels rfl
  case h_2 | h_4 | h_5 | h_11 | h_12 | h_13 | h_14 | h_17 => split <;> exact .of_labels (by simp)
  case h_1 | h_3 | h_6 | h_9 | h_10 | h_15 | h_16 | h_18 => exact .of_labels (by simp)

theorem writeSetting_bound (n v : Nat) (s : State) : BoundKept s (writeSetting n v s).2 := by
  unfold writeSetting applySetting
  split
  · dsimp only
    split
    · exact .of_labels rfl
    · refine BoundKept.trans ?_ (settingChanged_bound _ _ _)
      split <;> exact .of_labels (by simp)
  · exact .of_labels rfl

theorem discardHeld_bound (p : Port) (s : State) : BoundKept s (discardHeld p s) := by
  unfold discardHeld
  dsimp only
  split
  · exact BoundKept.trans (.of_labels (by simp)) (dispatch_marks _).bound
  · exact .of_labels (by simp)

theorem linkDownStep_bound (p : Port) (receiving : Bool) (s : State) : BoundKept s (linkDownStep p receiving s) := by
  unfold linkDownStep
  dsimp only
  split
  · have hv : ∀ u : State, u.labels = s.labels → BoundKept s (discardHeld p u) := fun u hu =>
      BoundKept.trans (.of_labels hu) (discardHeld_bound p u)
    generalize hw : discardHeld p _ = w
    have hb : BoundKept s w := hw ▸ hv _ (by split <;> simp)
    split
    · exact hb.trans (.of_labels (by simp))
    · exact hb
  · exact .of_labels rfl

theorem trafficReset_bound (s : State) : BoundKept s (trafficReset s) := by
  unfold trafficReset
  refine BoundKept.trans (BoundKept.trans (.of_labels ?_) (dispatch_marks (mgmtResetTraffic (stationsResetTraffic (exchResetTraffic
    (labelsResetTraffic (journalResetTraffic (tillResetTraffic (poolResetTraffic s)))))))).bound) (.of_labels ?_)
  · simp
  · simp

theorem reofferFor_bound (g : Generator) (s : State) : BoundKept s (reofferFor s g) := by
  cases g
  case labelDispatcher => exact reofferPush_bound s
  all_goals exact .of_labels (by simp [reofferFor])

@[simp] theorem noteBound_bound (n m : Nat) (b : Option Nat) (s : State) :
    ((noteBound n b s).label m).bound = if m = n then b else (s.label m).bound := by
  have hl : ∀ (f : LabelEntry → LabelEntry) (r : LabelRec), (mapEntry n f (setLabel n r s)).label m = (setLabel n r s).label m :=
    fun _ _ => rfl
  unfold noteBound
  dsimp only
  rw [hl, setLabel_label]
  by_cases hm : m = n
  · rw [if_pos hm, if_pos hm]
  · rw [if_neg hm, if_neg hm]

@[simp] theorem owe_bound (n m : Nat) (s : State) : ((owe n s).label m).bound = (s.label m).bound := (owe_marks n s).bound m

/-- Labels unbound one after another (R12). -/
theorem unbindAll_bound (ns : List Nat) (m : Nat) (s : State) :
    ((ns.foldl (fun t n => owe n (noteBound n none t)) s).label m).bound = if m ∈ ns then none else (s.label m).bound := by
  induction ns generalizing s with
  | nil => simp
  | cons n ns ih =>
    rw [List.foldl_cons, ih, owe_bound, noteBound_bound]
    by_cases hm : m ∈ ns <;> by_cases hn : m = n <;> simp [hm, hn]

@[simp] theorem unbindAll_items (ns : List Nat) (s : State) :
    (ns.foldl (fun t n => owe n (noteBound n none t)) s).items = s.items := by
  induction ns generalizing s with
  | nil => rfl
  | cons n ns ih => simp [ih]

/-! ### The label lists of items -/

/-- The lookups after the label list of an item has been replaced. -/
theorem setItemLabels_lookup (code other : Nat) (g : List Nat → List Nat) (s : State) : lookupItem (setItemLabels code g s).items other =
    if other = code then (lookupItem s.items code).map (fun r => { r with labels := g r.labels }) else lookupItem s.items other := by
  unfold setItemLabels
  cases hf : findItem s.items code with
  | none =>
    dsimp only
    split
    · next he => simp [he, lookupItem_eq_none.2 hf]
    · rfl
  | some p =>
    obtain ⟨slot, r⟩ := p
    have hr := (findItem_found hf).2.2.2
    dsimp only
    split
    · next he =>
      rw [he, lookupItem_of_find (findItem_put_same hf (q := { r with labels := g r.labels }) hr), lookupItem_of_find hf]
      rfl
    · next he =>
      exact lookupItem_congr (findItem_put_other (q := { r with labels := g r.labels })
        (fun o ho => (slot_code_of_find hf ho).trans hr.symm) (by simpa [hr] using he))

theorem setItemLabels_wf {code : Nat} {g : List Nat → List Nat} {s : State} (h : ItemsWf s.items)
    (hg : ∀ r, lookupItem s.items code = some r → (g r.labels).Nodup ∧ (g r.labels).length ≤ 4) :
    ItemsWf (setItemLabels code g s).items := by
  unfold setItemLabels
  split
  · next slot r hf =>
    obtain ⟨hd, hl⟩ := hg r (lookupItem_of_find hf)
    exact h.put hf (q := { r with labels := g r.labels }) (findItem_found hf).2.2.2 hd hl
  · exact h

theorem ItemsWf.labels_of_lookup {items : SMap ItemRec} (h : ItemsWf items) {code : Nat} {r : ItemRec}
    (hr : lookupItem items code = some r) : r.labels.Nodup ∧ r.labels.length ≤ 4 := by
  obtain ⟨slot, hf⟩ := lookupItem_eq_some.1 hr
  exact h.labels_of_find hf

/-! ### What binds and unbinds -/

/-- A write of the item table that keeps the lookups' label lists, with labels bound as they were. -/
theorem BindingsHold.of_lookups {s t : State} (hs : BindingsHold s) (hw : ItemsWf t.items) (hb : BoundKept s t)
    (hl : ∀ c n, (∃ r, lookupItem t.items c = some r ∧ n ∈ r.labels) ↔ ∃ r, lookupItem s.items c = some r ∧ n ∈ r.labels) :
    BindingsHold t :=
  bindingsHold_iff.2 ⟨hw, fun n c => by
    rw [hl c n, ← (bindingsHold_iff.1 hs).2 n c]
    simp only [hb n]⟩

/-- A record created in a free way holds no label. -/
theorem createItem_bindings {s : State} (hs : BindingsHold s) {code : Nat} (hv : validCode code = true) (hf : findItem s.items code = none)
    (f : ItemFields) : BindingsHold { s with items := (createItem code f s.items).2 } := by
  obtain ⟨hw, -⟩ := bindingsHold_iff.1 hs
  unfold createItem
  split
  · next w hfree =>
    refine hs.of_lookups (hw.create hf hv hfree f 1) (.of_labels rfl) fun c n => ?_
    by_cases hc : c = code
    · subst hc
      simp [lookupItem_of_find (findItem_create hf hv hfree (q := ⟨c, f, 1, []⟩) rfl), lookupItem_eq_none.2 hf]
    · rw [lookupItem_congr (findItem_put_other (q := ⟨code, f, 1, []⟩) (fun o ho => ?_) hc)]
      rw [(freeWay_empty hfree).2] at ho
      cases ho
  · exact hs

theorem writeItem_bindings (code : Nat) (f : ItemFields) {s : State} (hs : BindingsHold s) : BindingsHold (writeItem code f s).2 := by
  have hi : BindingsHold { s with items := (storeItem code f s.items).2.1 } := by
    unfold storeItem
    split
    · next hv =>
      split
      · next slot r hf =>
        obtain ⟨hw, -⟩ := bindingsHold_iff.1 hs
        have hr := (findItem_found hf).2.2.2
        obtain ⟨hd, hl⟩ := hw.labels_of_find hf
        refine hs.of_lookups (hw.put hf (q := r.write f) hr hd hl) (.of_labels rfl) fun c n => ?_
        by_cases hc : c = code
        · subst hc
          have hput := lookupItem_of_find (findItem_put_same hf (q := r.write f) hr)
          dsimp only
          rw [hput, lookupItem_of_find hf]
          simp [ItemRec.write]
        · rw [lookupItem_congr (findItem_put_other (q := r.write f)
            (fun o ho => (slot_code_of_find hf ho).trans hr.symm) (by simpa [ItemRec.write, hr] using hc))]
      · next hf => exact createItem_bindings hs (by simpa using And.left (Bool.and_eq_true_iff.1 hv)) hf f
    · exact hs
  exact hi.of_bound (by simp [writeItem]) (oweAll_marks _ _).bound

theorem deleteItem_items {code slot : Nat} {r : ItemRec} {s : State} (hf : findItem s.items code = some (slot, r)) :
    (deleteItem code s).2.items = Tbl.del s.items slot := by
  simp [deleteItem, hf]

theorem deleteItem_bound {code slot : Nat} {r : ItemRec} {s : State} (hf : findItem s.items code = some (slot, r)) (m : Nat) :
    ((deleteItem code s).2.label m).bound = if m ∈ r.labels then none else (s.label m).bound := by
  simp only [deleteItem, hf]
  exact unbindAll_bound r.labels m s

theorem deleteItem_absent {code : Nat} {s : State} (hf : findItem s.items code = none) : deleteItem code s = (.notFound, s) := by
  simp [deleteItem, hf]

theorem deleteItem_bindings (code : Nat) {s : State} (hs : BindingsHold s) : BindingsHold (deleteItem code s).2 := by
  obtain ⟨hw, hb⟩ := bindingsHold_iff.1 hs
  cases hf : findItem s.items code with
  | none =>
    rw [deleteItem_absent hf]
    exact hs
  | some p =>
    obtain ⟨slot, r⟩ := p
    refine bindingsHold_iff.2 ⟨by rw [deleteItem_items hf]; exact hw.del slot, fun n c => ?_⟩
    have hn := hb n c
    have hn' := hb n code
    rw [lookupItem_of_find hf] at hn'
    simp only [Option.some.injEq, exists_eq_left'] at hn'
    simp only [deleteItem_bound hf, deleteItem_items hf]
    by_cases hc : c = code
    · subst hc
      rw [lookupItem_eq_none.2 (hw.find_del hf)]
      by_cases hm : n ∈ r.labels
      · simp [hm]
      · simp [hm, hn']
    · rw [lookupItem_congr (findItem_del_other (fun o ho => slot_code_of_find hf ho) hc), ← hn]
      by_cases hm : n ∈ r.labels
      · simp [hm, hn'.2 hm, Ne.symm hc]
      · simp [hm]

theorem bindings_iff_lookup {s : State} (hs : BindingsHold s) {code : Nat} {r : ItemRec} (hr : lookupItem s.items code = some r)
    (n : Nat) : (s.label n).bound = some code ↔ n ∈ r.labels := by
  rw [(bindingsHold_iff.1 hs).2 n code, hr]
  simp

theorem unbindOutcome_done {n code : Nat} {s : State} :
    unbindOutcome n code s = .done ↔ ∃ r, lookupItem s.items code = some r ∧ n ∈ r.labels := by
  unfold unbindOutcome
  split
  · next h => simp [h]
  · next r h => split <;> simp [*]

theorem unbindLabel_bindings (n code : Nat) {s : State} (hs : BindingsHold s) : BindingsHold (unbindLabel n code s).2 := by
  obtain ⟨hw, hb⟩ := bindingsHold_iff.1 hs
  unfold unbindLabel
  split
  · next ho =>
    obtain ⟨r, hr, hn⟩ := unbindOutcome_done.1 ho
    have hwf : ItemsWf (setItemLabels code (fun ls => ls.filter (fun m => !(m == n))) s).items :=
      setItemLabels_wf hw fun q hq => by
        obtain ⟨hd, hl⟩ := hw.labels_of_lookup hq
        exact ⟨hd.filter _, (List.length_filter_le _ _).trans hl⟩
    refine bindingsHold_iff.2 ⟨by simpa using hwf, fun m c => ?_⟩
    have hm := hb m c
    have hlabels : (setItemLabels code (fun ls => ls.filter (fun m => !(m == n))) s).labels = s.labels := by simp
    simp only [owe_bound, noteBound_bound, owe_frame, noteBound_frame, setItemLabels_lookup, label_of_labels hlabels]
    have hbound := bindings_iff_lookup hs hr
    by_cases hc : c = code
    · subst hc
      have := hbound m
      by_cases hmn : m = n <;> simp [hr, hmn]
      exact this
    · rw [if_neg hc, ← hm]
      by_cases hmn : m = n
      · subst hmn
        simp [(hbound m).2 hn, Ne.symm hc]
      · simp [hmn]
  · exact hs

/-- The state in which a label has left the list of the item it was bound to (R13). -/
def freed (n : Nat) (s : State) : State :=
  match (s.label n).bound with
  | some other => setItemLabels other (fun ls => ls.filter (fun m => !(m == n))) s
  | none => s

/-- A bind that is carried out (R13). -/
theorem bindLabel_done {n code : Nat} {s : State} {r : ItemRec} (hr : lookupItem s.items code = some r) (hn : n ∉ r.labels)
    (hl : r.labels.length < 4) :
    bindLabel n code s = (.done, owe n (noteBound n (some code) (setItemLabels code (fun ls => ls ++ [n]) (freed n s)))) := by
  have hl' : ¬4 ≤ r.labels.length := Nat.not_le.2 hl
  unfold bindLabel freed
  rw [hr]
  cases hb : (s.label n).bound <;> simp [hn, hl']

/-- A bind that is not carried out changes nothing. -/
theorem bindLabel_of_not_done {n code : Nat} {s : State}
    (h : ∀ r, lookupItem s.items code = some r → n ∈ r.labels ∨ 4 ≤ r.labels.length) : (bindLabel n code s).2 = s := by
  unfold bindLabel
  cases hr : lookupItem s.items code with
  | none => rfl
  | some r =>
    obtain hn | hl := h r hr
    · simp [hn]
    · by_cases hn : n ∈ r.labels <;> simp [hn, hl]

theorem freed_labels (n : Nat) (s : State) : (freed n s).labels = s.labels := by
  unfold freed
  split <;> simp

theorem freed_lookup (n c : Nat) (s : State) : lookupItem (freed n s).items c =
    if (s.label n).bound = some c then (lookupItem s.items c).map (fun r => { r with labels := r.labels.filter (fun m => !(m == n)) })
    else lookupItem s.items c := by
  unfold freed
  split
  · next other hb =>
    rw [setItemLabels_lookup, hb]
    by_cases hc : c = other
    · simp [hc]
    · simp [hc, Ne.symm hc]
  · next hb => simp [hb]

theorem freed_wf (n : Nat) {s : State} (hw : ItemsWf s.items) : ItemsWf (freed n s).items := by
  unfold freed
  split
  · refine setItemLabels_wf hw fun q hq => ?_
    obtain ⟨hd, hl⟩ := hw.labels_of_lookup hq
    exact ⟨hd.filter _, (List.length_filter_le _ _).trans hl⟩
  · exact hw

theorem bindLabel_bindings (n code : Nat) {s : State} (hs : BindingsHold s) : BindingsHold (bindLabel n code s).2 := by
  obtain ⟨hw, hb⟩ := bindingsHold_iff.1 hs
  by_cases h : ∃ r, lookupItem s.items code = some r ∧ n ∉ r.labels ∧ r.labels.length < 4
  · obtain ⟨r, hr, hn, hl⟩ := h
    have hnb : (s.label n).bound ≠ some code := fun hc => hn ((bindings_iff_lookup hs hr n).1 hc)
    have hlabels : (setItemLabels code (fun ls => ls ++ [n]) (freed n s)).labels = s.labels := by simp [freed_labels]
    have hfr : lookupItem (freed n s).items code = some r := by rw [freed_lookup, if_neg hnb, hr]
    rw [bindLabel_done hr hn hl]
    refine bindingsHold_iff.2 ⟨?_, fun m c => ?_⟩
    · simp only [owe_frame, noteBound_frame]
      refine setItemLabels_wf (freed_wf n hw) fun q hq => ?_
      rw [hfr] at hq
      cases hq
      obtain ⟨hd, -⟩ := hw.labels_of_lookup hr
      refine ⟨List.nodup_append.2 ⟨hd, List.nodup_singleton _, fun a ha b hb hab => ?_⟩, by simpa using hl⟩
      rw [List.mem_singleton] at hb
      exact hn (hb ▸ hab ▸ ha)
    · have hm := hb m c
      simp only [owe_bound, noteBound_bound, owe_frame, noteBound_frame, setItemLabels_lookup,
        label_of_labels hlabels]
      by_cases hc : c = code
      · subst hc
        rw [if_pos rfl, hfr]
        have hmb := bindings_iff_lookup hs hr m
        by_cases hmn : m = n
        · simp [hmn]
        · simp [hmn, hmb]
      · rw [if_neg hc, freed_lookup]
        by_cases hmn : m = n
        · subst hmn
          rw [if_pos rfl]
          by_cases hbc : (s.label m).bound = some c
          · simp [hbc, Ne.symm hc]
          · rw [if_neg hbc, ← hm]
            simp [hbc, Ne.symm hc]
        · rw [if_neg hmn, hm]
          by_cases hbc : (s.label n).bound = some c
          · simp [hbc, hmn]
          · simp [hbc]
  · rw [bindLabel_of_not_done]
    · exact hs
    · intro r hr
      by_contra hcon
      exact h ⟨r, hr, not_or.1 hcon |>.1, by omega⟩

theorem reofferAll_bound (order : List Generator) (s : State) : BoundKept s (reofferAll order s) :=
  foldl_keeps (P := BoundKept s) (fun _ g h => h.trans (reofferFor_bound g _)) _ _ (.of_labels rfl)

/-! ### The bindings through every command -/

theorem applyChange_bindings (c : Change) {s : State} (hs : BindingsHold s) : BindingsHold (applyChange c s).2 := by
  unfold applyChange
  split
  · exact writeItem_bindings _ _ hs
  · exact deleteItem_bindings _ hs
  · exact bindLabel_bindings _ _ hs
  · exact unbindLabel_bindings _ _ hs

theorem dispatchOn_bindings (s : State) {t : State} (ht : BindingsHold t) : BindingsHold (dispatchOn s t) :=
  ht.of_bound (by simp) (dispatchOn_marks s t).bound

theorem activationStep_bindings {s : State} (hs : BindingsHold s) : BindingsHold (activationStep s) := by
  unfold activationStep
  split
  · exact hs
  · next e rest _ =>
    split
    · have ht : BindingsHold (count (occ .activations) (setEntries rest s)) := hs
      unfold activateEntry
      dsimp only
      split
      · exact dispatchOn_bindings _ (applyChange_bindings _ ht)
      · exact (applyChange_bindings e.change ht).of_labels (by simp) (by simp)
    · exact hs

theorem takeItemReply_bindings (b : List Byte) {s : State} (hs : BindingsHold s) : BindingsHold (takeItemReply b s) := by
  have hend : ∀ n a q u, BindingsHold u → BindingsHold (endAsk n a q u) := fun n a q u hu => hu.of_labels (by simp) (by simp)
  have hcount : ∀ o, BindingsHold (count o s) := fun o => hs
  have hnotice : ∀ x, BindingsHold (raiseNotice x s) := fun x => hs.of_labels (by simp) (by simp)
  have hoffer : ∀ code f, BindingsHold { s with items := (offerItem code f s.items).2 } := fun code f => by
    unfold offerItem
    split
    · exact hs
    · next ha =>
      split
      · next hv => exact createItem_bindings hs (Bool.and_eq_true_iff.1 hv).1 (by simpa using ha) f
      · exact hs
  unfold takeItemReply
  dsimp only
  split
  · split
    · split
      · exact hend _ _ _ _ hs
      · unfold takeAbsentReply
        split
        · exact hend _ _ _ _ hs
        · exact hend _ _ _ _ (hcount _)
        · exact hend _ _ _ _ hs
        · split
          · exact hend _ _ _ _ (hoffer _ _)
          · exact hend _ _ _ _ (hnotice _)
          · exact hend _ _ _ _ (hcount _)
    · exact hcount _
  · exact hcount _

theorem toOwner_bindings (k : MsgKind) (p : Port) (a : Addr) (b : List Byte) {s : State} (hs : BindingsHold s) :
    BindingsHold (toOwner k p a b s) := by
  cases k
  case itemReply => exact takeItemReply_bindings _ hs
  case labelResult => exact hs.of_bound (by simp [toOwner]) (takeLabelResult_bound _ _ _)
  all_goals exact hs.of_labels (by simp [toOwner]) (by simp [toOwner])

theorem rebind_bindings (n : Nat) (b : Option Nat) {s : State} (hs : BindingsHold s) : BindingsHold (rebind n b s).2 := by
  unfold rebind
  split
  · exact hs
  · split
    · exact bindLabel_bindings _ _ hs
    · exact unbindLabel_bindings _ _ hs
    · exact hs

theorem writeLabel_bindings (n radio base : Nat) (b : Option Nat) {s : State} (hs : BindingsHold s) :
    BindingsHold (writeLabel n radio base b s).2 := by
  have ht : BindingsHold (writeRadio n radio base (rebind n b s).2) :=
    (rebind_bindings n b hs).of_bound (by simp) (writeRadio_bound _ _ _ _)
  unfold writeLabel
  dsimp only
  split
  · split
    · exact ht.of_bound (by simp) (dispatch_marks _).bound
    · exact dispatchOn_bindings _ ht
  · exact hs

theorem lookupItem_empty (code : Nat) : lookupItem [] code = none := by
  refine lookupItem_eq_none.2 ?_
  unfold findItem
  split <;> rfl

theorem bindingsHold_of_empty {s : State} (hi : s.items = []) (hl : s.labels = []) : BindingsHold s := by
  refine bindingsHold_iff.2 ⟨hi ▸ ⟨List.Pairwise.nil, by simp, by simp⟩, fun n c => ?_⟩
  simp [hi, State.label, labelAt, hl, unusedLabel, lookupItem_empty]

theorem after_bindingsHold (c : Instr) (s : State) (hs : BindingsHold s) : BindingsHold (after c s) := by
  have ht : ∀ (r : Request) (u : State), BindingsHold u → BindingsHold (takeRequest r u) :=
    fun r u hu => hu.of_labels (by simp) (by simp)
  have ha : ∀ (r : Request) o d (u : State), BindingsHold u → BindingsHold (answer r o d u) :=
    fun r o d u hu => hu.of_labels (by simp) (by simp)
  have hlearn : ∀ p a (u : State), BindingsHold u → BindingsHold (learnSource p a u).after :=
    fun p a u hu => hu.of_labels (by simp) (by simp)
  cases c
  case powerOn | resetPin => exact bindingsHold_of_empty rfl rfl
  case resetFull => exact runHead_keeps hs ht (resetFullRequest_keeps (fun _ => bindingsHold_of_empty rfl rfl) ha)
  case resetTraffic =>
    exact runHead_keeps hs ht fun r u hu => ha _ _ _ _ (hu.of_bound (by simp) (trafficReset_bound u))
  case settingWrite =>
    exact runHead_keeps hs ht fun r u hu => withFields_keeps hu (ha r) fun v hv =>
      ha _ _ _ _ (hv.of_bound (by simp) (writeSetting_bound _ _ v))
  case itemWrite =>
    exact runHead_keeps hs ht fun r u hu => withFields_keeps hu (ha r) fun v hv => by
      split
      · exact ha _ _ _ _ hv
      · exact ha _ _ _ _ (dispatchOn_bindings _ (writeItem_bindings _ _ hv))
  case itemDelete =>
    exact runHead_keeps hs ht fun r u hu => withFields_keeps hu (ha r) fun v hv => by
      split
      · exact ha _ _ _ _ (dispatchOn_bindings _ (deleteItem_bindings _ hv))
      · exact ha _ _ _ _ hv
  case labelWrite =>
    exact runHead_keeps hs ht fun r u hu => withFields_keeps hu (ha r) fun v hv => by
      split
      · exact ha _ _ _ _ hv
      · split
        · exact ha _ _ _ _ hv
        · exact ha _ _ _ _ (writeLabel_bindings _ _ _ _ hv)
  case labelRepush =>
    exact runHead_keeps hs ht fun r u hu => withFields_keeps hu (ha r) fun v hv => by
      split
      · exact ha _ _ _ _ hv
      · split
        · exact ha _ _ _ _ hv
        · exact ha _ _ _ _ (hv.of_bound (by simp) (repushLabel_bound _ v))
  case stationWrite =>
    exact runHead_keeps hs ht fun r u hu => withFields_keeps hu (ha r) fun v hv => by
      split
      · exact ha _ _ _ _ hv
      · exact ha _ _ _ _ (hv.of_bound (by simp) (writeStation_bound _ v))
  case activation => exact activationStep_bindings hs
  case pushTimeout tag => exact dispatchOn_bindings _ (hs.of_bound (by simp) (expirePush_bound tag s))
  case linkDown => exact hs.of_bound (by simp) (linkDownStep_bound _ _ s)
  case heldMessageReoffer => exact hs.of_bound (by simp) (reofferAll_bound _ s)
  case ordinaryFrame =>
    exact receiveFrame_keeps hs (fun o u hu => hu) (fun p u hu => hu) hlearn (fun k p b c u hu => toOwner_bindings k p b c hu)
      (fun p e f u hu => hu.of_labels (by simp) (by simp)) (fun q f u hu => hu.of_labels (by simp) (by simp))
  case priceAsk | saleRecord | itemReply | journalAck | labelResult | exchOpen | priceChange | exchClose | linkEcho | mgmtReq =>
    exact receiveBranch_keeps hs (fun o u hu => hu) (fun p u hu => hu) hlearn (fun p a b u hu => toOwner_bindings _ p a b hu)
  all_goals exact hs.of_labels (by simp) (by simp)

/-- Settles O8: the item table's writes move both sides of a binding, and nothing else moves either. -/
theorem everyStepKeepsTheBindings : Obligations.EveryStepKeepsTheBindings :=
  fun _ _ hs h => step_keeps (fun _ _ _ h => h) (fun _ h => h) after_bindingsHold hs h

end Sys2Proof.Machine

/-! The label queue through every step: one entry a label, the overflow marks, the push tags and the windows. -/

namespace Sys2Proof.Machine

/-! ### The queue as the labels it names and the flights it holds -/

/-- The labels the queue has entries for, in its order. -/
def State.queued (s : State) : List Nat := s.disp.queue.map (·.label)

/-- The tags and base stations of the entries IN-FLIGHT, in the order of the queue. -/
def State.flightKeys (s : State) : List (Nat × Nat) := s.disp.queue.filterMap (fun e => e.flight.map (fun f => (f.tag, f.base)))

theorem tagsInFlight_eq (s : State) : s.tagsInFlight = s.flightKeys.map (·.1) := by
  simp only [State.tagsInFlight, State.flightKeys, List.map_filterMap, Option.map_map]
  rfl

theorem inFlight_length (s : State) (b : Nat) : (s.inFlight b).length = s.flightKeys.countP (·.2 == b) := by
  unfold State.inFlight State.flightKeys
  induction s.disp.queue with
  | nil => rfl
  | cons e q ih =>
    cases hf : e.flight with
    | none => simp [hf, ih]
    | some f => by_cases hb : f.base = b <;> simp [hf, hb, ih]

theorem mem_overflowed {s : State} (hw : Tbl.wf s.labels) {n : Nat} : n ∈ s.overflowed ↔ (s.label n).overflow = true := by
  simp only [State.overflowed, List.mem_map, List.mem_filter, State.label, labelAt]
  constructor
  · rintro ⟨⟨k, r⟩, ⟨hm, ho⟩, rfl⟩
    simpa [Tbl.get_of_mem hw hm] using ho
  · intro ho
    cases hg : Tbl.get s.labels n with
    | none => simp [hg, unusedLabel] at ho
    | some r => exact ⟨(n, r), ⟨Tbl.mem_of_get hg, by simpa [hg] using ho⟩, rfl⟩

/-- What `LabelQueueHolds` says of the labels queued and of the overflow marks. -/
structure QueueWf (s : State) : Prop where
  wf : Tbl.wf s.labels
  length : s.queued.length ≤ 4096
  nodup : s.queued.Nodup
  clear : ∀ n ∈ s.queued, (s.label n).overflow = false
  full : ∀ n, (s.label n).overflow = true → s.queued.length = 4096

/-- What `LabelQueueHolds` says of the tags. -/
structure TagsWf (s : State) : Prop where
  nodup : (s.flightKeys.map (·.1)).Nodup
  bound : ∀ k ∈ s.flightKeys, k.1 < 65536
  next : s.disp.nextTag < 65536

/-- What `LabelQueueHolds` says of the windows. -/
def WindowsFit (s : State) : Prop := ∀ b, b < 8 → s.flightKeys.countP (·.2 == b) ≤ s.settings.baseWindow

theorem labelQueueHolds_iff {s : State} : LabelQueueHolds s ↔ QueueWf s ∧ TagsWf s ∧ WindowsFit s := by
  have hlen : s.queued.length = s.disp.queue.length := List.length_map _
  constructor
  · rintro ⟨hw, hl, hn, hc, hf, ht, hb, hx, hd⟩
    refine ⟨⟨hw, hlen ▸ hl, hn, fun n hm => ?_, fun n ho => hlen ▸ hf ?_⟩, ⟨?_, ?_, hx⟩, fun b hb => ?_⟩
    · obtain ⟨e, he, rfl⟩ := List.mem_map.1 hm
      exact hc e he
    · exact List.ne_nil_of_mem ((mem_overflowed hw).2 ho)
    · rwa [← tagsInFlight_eq]
    · intro k hk
      exact hb k.1 (by rw [tagsInFlight_eq]; exact List.mem_map_of_mem hk)
    · rw [← inFlight_length]
      exact hd b hb
  · rintro ⟨⟨hw, hl, hn, hc, hf⟩, ⟨ht, hb, hx⟩, hd⟩
    refine ⟨hw, hlen ▸ hl, hn, fun e he => hc _ (List.mem_map_of_mem he), fun ho => ?_, ?_, fun tag hm => ?_, hx, fun b hb => ?_⟩
    · obtain ⟨n, hm⟩ := List.exists_mem_of_ne_nil _ ho
      exact hlen ▸ hf n ((mem_overflowed hw).1 hm)
    · rwa [tagsInFlight_eq]
    · rw [tagsInFlight_eq] at hm
      obtain ⟨k, hk, rfl⟩ := List.mem_map.1 hm
      exact hb k hk
    · rw [inFlight_length]
      exact hd b hb

/-- Between two states the queue keeps its order and flights end at most. -/
structure FlightsEnd (s t : State) : Prop where
  keys : t.flightKeys.Sublist s.flightKeys
  next : t.disp.nextTag = s.disp.nextTag

theorem FlightsEnd.refl (s : State) : FlightsEnd s s := ⟨List.Sublist.refl _, rfl⟩

theorem FlightsEnd.trans {s t u : State} (h : FlightsEnd s t) (k : FlightsEnd t u) : FlightsEnd s u :=
  ⟨k.keys.trans h.keys, k.next.trans h.next⟩

theorem FlightsEnd.of_keys {s t : State} (hk : t.flightKeys = s.flightKeys) (hn : t.disp.nextTag = s.disp.nextTag) : FlightsEnd s t :=
  ⟨hk ▸ List.Sublist.refl _, hn⟩

theorem FlightsEnd.of_disp {s t : State} (hq : t.disp.queue = s.disp.queue) (hn : t.disp.nextTag = s.disp.nextTag) : FlightsEnd s t :=
  ⟨by simp [State.flightKeys, hq], hn⟩

theorem FlightsEnd.tags {s t : State} (h : FlightsEnd s t) (hs : TagsWf s) : TagsWf t :=
  ⟨hs.nodup.sublist (h.keys.map _), fun k hk => hs.bound k (h.keys.subset hk), h.next ▸ hs.next⟩

theorem FlightsEnd.windows {s t : State} (h : FlightsEnd s t) (hw : t.settings.baseWindow = s.settings.baseWindow) (hs : WindowsFit s) :
    WindowsFit t := fun b hb => hw ▸ (h.keys.countP_le).trans (hs b hb)

theorem QueueWf.of_same {s t : State} (hs : QueueWf s) (hw : Tbl.wf t.labels) (hq : t.queued = s.queued)
    (ho : ∀ n, (t.label n).overflow = (s.label n).overflow) : QueueWf t :=
  ⟨hw, hq ▸ hs.length, hq ▸ hs.nodup, fun n hn => by rw [ho]; exact hs.clear n (hq ▸ hn), fun n hn => by rw [hq]; exact hs.full n (ho n ▸ hn)⟩

theorem QueueWf.of_labels {s t : State} (hs : QueueWf s) (hl : t.labels = s.labels) (hq : t.queued = s.queued) : QueueWf t :=
  hs.of_same (hl ▸ hs.wf) hq fun n => by rw [label_of_labels hl]

/-! ### The operations on the queue -/

theorem setLabel_wf {s : State} (hw : Tbl.wf s.labels) (n : Nat) (r : LabelRec) : Tbl.wf (setLabel n r s).labels := by
  unfold setLabel
  dsimp only
  split
  · exact Tbl.wf_del hw _
  · exact Tbl.wf_put hw _ _

/-- A label record written with its overflow mark as it was. -/
theorem setLabel_queueWf {s : State} (hs : QueueWf s) {n : Nat} {r : LabelRec} (ho : r.overflow = (s.label n).overflow) :
    QueueWf (setLabel n r s) :=
  hs.of_same (setLabel_wf hs.wf n r) rfl fun m => by
    rw [setLabel_label]
    split
    · next h => rw [ho, h]
    · rfl

theorem mapEntry_queued {n : Nat} {f : LabelEntry → LabelEntry} (hf : ∀ e, (f e).label = e.label) (s : State) :
    (mapEntry n f s).queued = s.queued := by
  simp only [State.queued, mapEntry, setQueue, List.map_map]
  refine List.map_congr_left fun e _ => ?_
  simp only [Function.comp_apply]
  split
  · exact hf e
  · rfl

theorem mapEntry_flightKeys {n : Nat} {f : LabelEntry → LabelEntry} {s : State}
    (hf : ∀ e ∈ s.disp.queue, e.label = n → (f e).flight.map (fun f => (f.tag, f.base)) = e.flight.map (fun f => (f.tag, f.base))) :
    (mapEntry n f s).flightKeys = s.flightKeys := by
  simp only [State.flightKeys, mapEntry, setQueue, List.filterMap_map]
  refine List.filterMap_congr fun e he => ?_
  simp only [Function.comp_apply]
  split
  · next hn => exact hf e he hn
  · rfl

@[simp] theorem appendEntry_queued (n k : Nat) (s : State) : (appendEntry n k s).queued = s.queued ++ [n] := by
  simp [State.queued, appendEntry]

@[simp] theorem appendEntry_flightKeys (n k : Nat) (s : State) : (appendEntry n k s).flightKeys = s.flightKeys := by
  simp [State.flightKeys, appendEntry]

theorem filterOut_queued (n : Nat) (s : State) :
    (setQueue (s.disp.queue.filter (fun e => !(e.label == n))) s).queued = s.queued.filter (fun m => !(m == n)) := by
  simp only [State.queued, setQueue, List.filter_map]
  rfl

theorem filterOut_flights (n : Nat) (s : State) : FlightsEnd s (setQueue (s.disp.queue.filter (fun e => !(e.label == n))) s) :=
  ⟨List.Sublist.filterMap _ List.filter_sublist, rfl⟩

theorem backToWaiting_flights (n k : Nat) (s : State) : FlightsEnd s (backToWaiting n k s) :=
  ⟨by simpa [backToWaiting] using (filterOut_flights n s).keys, rfl⟩

theorem backToWaiting_queued (n k : Nat) (s : State) : (backToWaiting n k s).queued = s.queued.filter (fun m => !(m == n)) ++ [n] := by
  rw [backToWaiting, appendEntry_queued, filterOut_queued]

theorem length_filter_ne {l : List Nat} (hd : l.Nodup) {n : Nat} (hn : n ∈ l) : (l.filter (fun m => !(m == n))).length + 1 = l.length := by
  have he : l.erase n = l.filter (fun m => !(m == n)) := hd.erase_eq_filter n
  rw [← he, List.length_erase_of_mem hn]
  have := List.length_pos_of_mem hn
  omega

/-- The queue holds one entry for a label. -/
theorem entry_unique {s : State} (hd : s.queued.Nodup) {d e : LabelEntry} (hd' : d ∈ s.disp.queue) (he : e ∈ s.disp.queue)
    (h : d.label = e.label) : d = e := List.inj_on_of_nodup_map hd hd' he h

theorem entryOf_some {s : State} {n : Nat} {e : LabelEntry} (h : s.entryOf n = some e) : e ∈ s.disp.queue ∧ e.label = n :=
  ⟨List.mem_of_find?_eq_some h, by simpa using List.find?_some h⟩

theorem entryOf_none {s : State} {n : Nat} (h : s.entryOf n = none) : n ∉ s.queued := by
  unfold State.entryOf at h
  rw [List.find?_eq_none] at h
  rintro hn
  obtain ⟨e, he, rfl⟩ := List.mem_map.1 hn
  exact h e he (by simp)

/-- An entry that goes back to WAITING stays the one of its label. -/
theorem backToWaiting_queueWf {s : State} (hs : QueueWf s) {n : Nat} (hn : n ∈ s.queued) (k : Nat) : QueueWf (backToWaiting n k s) := by
  have hlen : (backToWaiting n k s).queued.length = s.queued.length := by
    rw [backToWaiting_queued, List.length_append]
    exact length_filter_ne hs.nodup hn
  have hmem : ∀ m, m ∈ (backToWaiting n k s).queued → m ∈ s.queued := fun m hm => by
    rw [backToWaiting_queued, List.mem_append, List.mem_singleton] at hm
    obtain hm | rfl := hm
    · exact List.mem_of_mem_filter hm
    · exact hn
  have hl := label_of_labels (backToWaiting_labels n k s)
  refine ⟨backToWaiting_labels n k s ▸ hs.wf, hlen ▸ hs.length, ?_, fun m hm => hl m ▸ hs.clear m (hmem m hm),
    fun m hm => hlen ▸ hs.full m (hl m ▸ hm)⟩
  rw [backToWaiting_queued]
  exact List.nodup_append.2 ⟨hs.nodup.filter _, List.nodup_singleton _, fun a ha b hb hab => by
    rw [List.mem_singleton] at hb
    simpa [hab, hb] using (List.mem_filter.1 ha).2⟩

/-- A new entry, for a label without one and without the overflow mark. -/
theorem appendEntry_queueWf {s : State} (hs : QueueWf s) {n : Nat} (hn : n ∉ s.queued) (ho : (s.label n).overflow = false)
    (hl : s.queued.length < 4096) (hmarks : ∀ m, (s.label m).overflow = true → s.queued.length + 1 = 4096) (k : Nat) :
    QueueWf (appendEntry n k s) := by
  have hq := appendEntry_queued n k s
  have hlen : (appendEntry n k s).queued.length = s.queued.length + 1 := by rw [hq, List.length_append, List.length_singleton]
  refine ⟨hs.wf, by omega, ?_, fun m hm => ?_, fun m hm => hlen.trans (hmarks m hm)⟩
  · rw [hq]
    exact List.nodup_append.2 ⟨hs.nodup, List.nodup_singleton _, fun a ha b hb hab => hn (List.mem_singleton.1 hb ▸ hab ▸ ha)⟩
  · rw [hq, List.mem_append, List.mem_singleton] at hm
    obtain hm | rfl := hm
    · exact hs.clear m hm
    · exact ho

@[simp] theorem count_label (o : Occ) (s : State) (n : Nat) : (count o s).label n = s.label n := rfl

/-- An update owed. -/
theorem owe_queueWf (n : Nat) {s : State} (hs : QueueWf s) : QueueWf (owe n s) := by
  unfold owe
  split
  · split
    · exact hs.of_labels rfl (mapEntry_queued (by intro _; rfl) s)
    · exact hs.of_labels rfl (mapEntry_queued (by intro _; rfl) s)
  · next hnone =>
    have hn := entryOf_none hnone
    have hlen : s.queued.length = s.disp.queue.length := List.length_map _
    split
    · exact hs
    · next ho =>
      split
      · next hl =>
        refine appendEntry_queueWf hs hn (by simpa using ho) (hlen ▸ hl) (fun m hm => ?_) 0
        have := hs.full m hm
        omega
      · next hl =>
        have hfull : s.queued.length = 4096 := by
          have := hs.length
          omega
        refine QueueWf.mk (setLabel_wf hs.wf _ _) hs.length hs.nodup (fun m hm => ?_) (fun m _ => hfull)
        have hmn : m ≠ n := fun h => hn (h ▸ hm)
        have := hs.clear m hm
        rwa [count_label, setLabel_label, if_neg hmn]

theorem owe_flights (n : Nat) {s : State} (hs : QueueWf s) : FlightsEnd s (owe n s) := by
  unfold owe
  split
  · next e he =>
    split
    · exact .of_keys (mapEntry_flightKeys (by intro _ _ _; rfl)) rfl
    · next f hf =>
      refine .of_keys (mapEntry_flightKeys fun d hd hn => ?_) rfl
      obtain ⟨hm, hl⟩ := entryOf_some he
      rw [entry_unique hs.nodup hd hm (hn.trans hl.symm), hf]
      rfl
  · split
    · exact .refl s
    · split
      · exact .of_keys (by simp) rfl
      · exact .of_keys rfl rfl

/-- A flight's marks written in place. -/
theorem mapFlight_keeps (n : Nat) (g : Flight → Flight) (hg : ∀ f, (g f).tag = f.tag ∧ (g f).base = f.base) (s : State) :
    (mapEntry n (fun e => { e with flight := e.flight.map g }) s).queued = s.queued ∧
      (mapEntry n (fun e => { e with flight := e.flight.map g }) s).flightKeys = s.flightKeys := by
  refine ⟨mapEntry_queued (by intro _; rfl) s, mapEntry_flightKeys fun e _ _ => ?_⟩
  cases e.flight with
  | none => rfl
  | some f => simp [hg f]

/-! ### Removals and the sweep -/

theorem sweepOne_flights (s : State) (n : Nat) : FlightsEnd s (sweepOne s n) := by
  unfold sweepOne
  split
  · exact ⟨by simp [State.flightKeys, appendEntry], rfl⟩
  · exact .refl s

theorem removeEntry_flights (n : Nat) (s : State) : FlightsEnd s (removeEntry n s) :=
  foldl_keeps (P := FlightsEnd s) (fun u m h => h.trans (sweepOne_flights u m)) _ _ (filterOut_flights n s)

/-- What the sweep rests on while the marks of `todo` are still to be cleared. -/
structure Sweeping (todo : List Nat) (s : State) : Prop where
  wf : Tbl.wf s.labels
  length : s.queued.length ≤ 4096
  nodup : s.queued.Nodup
  clear : ∀ n ∈ s.queued, (s.label n).overflow = false
  marks : ∀ n, (s.label n).overflow = true → n ∈ todo ∨ s.queued.length = 4096
  marked : ∀ n ∈ todo, (s.label n).overflow = true

theorem Sweeping.step {n : Nat} {todo : List Nat} {s : State} (h : Sweeping (n :: todo) s) (hn : n ∉ todo) : Sweeping todo (sweepOne s n) := by
  have hmark := h.marked n List.mem_cons_self
  have hnq : n ∉ s.queued := fun hq => by simp [h.clear n hq] at hmark
  have hlen : s.queued.length = s.disp.queue.length := List.length_map _
  unfold sweepOne
  split
  · next hroom =>
    generalize hu : setLabel n { s.label n with overflow := false } s = u
    have hlabel : ∀ m, ((appendEntry n 0 u).label m).overflow = if m = n then false else (s.label m).overflow := fun m => by
      change (u.label m).overflow = _
      rw [← hu, setLabel_label]
      split <;> rfl
    have hq : (appendEntry n 0 u).queued = s.queued ++ [n] := by
      rw [appendEntry_queued, ← hu]
      rfl
    refine ⟨hu ▸ setLabel_wf h.wf _ _, ?_, ?_, fun m hm => ?_, fun m hm => ?_, fun m hm => ?_⟩
    · rw [hq, List.length_append, List.length_singleton]
      omega
    · rw [hq]
      exact List.nodup_append.2 ⟨h.nodup, List.nodup_singleton _, fun a ha b hb hab => hnq (List.mem_singleton.1 hb ▸ hab ▸ ha)⟩
    · rw [hq, List.mem_append, List.mem_singleton] at hm
      rw [hlabel]
      split
      · rfl
      · next hne => exact h.clear m (hm.resolve_right hne)
    · rw [hlabel] at hm
      split at hm
      · cases hm
      · next hne =>
        obtain hm | hm := h.marks m hm
        · exact .inl ((List.mem_cons.1 hm).resolve_left hne)
        · omega
    · have hne : m ≠ n := fun he => hn (he ▸ hm)
      rw [hlabel, if_neg hne]
      exact h.marked m (List.mem_cons_of_mem _ hm)
  · next hroom =>
    have := h.length
    exact ⟨h.wf, h.length, h.nodup, h.clear, fun m _ => .inr (by omega), fun m hm => h.marked m (List.mem_cons_of_mem _ hm)⟩

theorem sweep_queueWf {todo : List Nat} (hd : todo.Nodup) {s : State} (h : Sweeping todo s) : QueueWf (todo.foldl sweepOne s) := by
  induction todo generalizing s with
  | nil => exact ⟨h.wf, h.length, h.nodup, h.clear, fun n hn => (h.marks n hn).resolve_left (by simp)⟩
  | cons n todo ih =>
    obtain ⟨hn, hd⟩ := List.nodup_cons.1 hd
    exact ih hd (h.step hn)

theorem overflowed_nodup {s : State} (hw : Tbl.wf s.labels) : s.overflowed.Nodup := by
  have hkeys : (s.labels.map (·.1)).Nodup := by
    rw [List.Nodup, List.pairwise_map]
    exact hw.imp fun h => Nat.ne_of_lt h
  exact hkeys.sublist (List.filter_sublist.map _)

/-- An entry's removal, with the sweep that is part of it (R69). -/
theorem removeEntry_queueWf (n : Nat) {s : State} (hs : QueueWf s) : QueueWf (removeEntry n s) := by
  have hq := filterOut_queued n s
  have hlab : ∀ q m, (setQueue q s).label m = s.label m := fun _ _ => rfl
  refine sweep_queueWf (overflowed_nodup hs.wf) ⟨hs.wf, ?_, ?_, fun m hm => ?_, fun m hm => ?_, fun m hm => ?_⟩
  · rw [hq]
    exact (List.length_filter_le _ _).trans hs.length
  · rw [hq]
    exact hs.nodup.filter _
  · rw [hq] at hm
    exact hs.clear m (List.mem_of_mem_filter hm)
  · exact .inl ((mem_overflowed (s := setQueue _ s) hs.wf).2 hm)
  · exact (mem_overflowed (s := setQueue _ s) hs.wf).1 hm

/-! ### Dispatch -/

theorem freeTag_lt {used : List Nat} {n t : Nat} (ht : t < 65536) : freeTag used n t < 65536 := by
  induction n generalizing t with
  | zero => exact ht
  | succ n ih =>
    unfold freeTag
    split
    · exact ih (Nat.mod_lt _ (by decide))
    · exact ht

/-- A tag the search ends on without having looked at it is the one `n` places on; all before it are in use. -/
theorem freeTag_cases {used : List Nat} {n t : Nat} (ht : t < 65536) : freeTag used n t ∉ used ∨
    (freeTag used n t = (t + n) % 65536 ∧ ∀ i < n, (t + i) % 65536 ∈ used) := by
  induction n generalizing t with
  | zero => exact .inr ⟨(Nat.mod_eq_of_lt ht).symm, fun i hi => absurd hi (Nat.not_lt_zero i)⟩
  | succ n ih =>
    unfold freeTag
    split
    · next hu =>
      obtain h | ⟨h, hall⟩ := ih (t := (t + 1) % 65536) (Nat.mod_lt _ (by decide))
      · exact .inl h
      · refine .inr ⟨by rw [h]; omega, fun i hi => ?_⟩
        cases i with
        | zero => simpa [Nat.mod_eq_of_lt ht] using hu
        | succ i =>
          have := hall i (by omega)
          rwa [show (t + (i + 1)) % 65536 = ((t + 1) % 65536 + i) % 65536 by omega]
    · next hu => exact .inl hu

/-- The tag a push takes is not in use (R75): fewer than 65,536 are. -/
theorem freeTag_free {used : List Nat} (hl : used.length < 65536) {t : Nat} (ht : t < 65536) :
    freeTag used used.length t ∉ used := by
  obtain h | ⟨h, hall⟩ := freeTag_cases (used := used) (n := used.length) ht
  · exact h
  · intro hmem
    have hsub : (List.range (used.length + 1)).map (fun i => (t + i) % 65536) ⊆ used := by
      intro x hx
      obtain ⟨i, hi, rfl⟩ := List.mem_map.1 hx
      rw [List.mem_range] at hi
      by_cases hlt : i < used.length
      · exact hall i hlt
      · have : i = used.length := by omega
        rw [this]
        exact h ▸ hmem
    have hnodup : ((List.range (used.length + 1)).map (fun i => (t + i) % 65536)).Nodup := by
      refine List.Nodup.map_on (fun i hi j hj hij => ?_) List.nodup_range
      rw [List.mem_range] at hi hj
      omega
    have := (hnodup.subperm hsub).length_le
    simp at this

/-- What a dispatch attempt keeps. -/
def LabelsWf (s : State) : Prop := QueueWf s ∧ TagsWf s ∧ WindowsFit s

theorem LabelsWf.of_flights {s t : State} (hs : LabelsWf s) (hq : QueueWf t) (hf : FlightsEnd s t)
    (hw : t.settings.baseWindow = s.settings.baseWindow) : LabelsWf t :=
  ⟨hq, hf.tags hs.2.1, hf.windows hw hs.2.2⟩

theorem LabelsWf.of_same {s t : State} (hs : LabelsWf s) (hl : t.labels = s.labels) (hq : t.disp.queue = s.disp.queue)
    (hn : t.disp.nextTag = s.disp.nextTag) (hw : t.settings.baseWindow = s.settings.baseWindow) : LabelsWf t :=
  hs.of_flights (hs.1.of_labels hl (by simp [State.queued, hq])) (.of_disp hq hn) hw

theorem count_labelsWf {s : State} (hs : LabelsWf s) (o : Occ) : LabelsWf (count o s) := hs.of_same rfl rfl rfl rfl

/-- What a dispatch attempt picks (R74). -/
theorem pickEntry_some {s : State} {l : List LabelEntry} {e : LabelEntry} {a : Option Addr} (h : pickEntry s l = some (e, a)) :
    e ∈ l ∧ (a.isSome = true → s.hasRoom (s.label e.label).base = true) := by
  induction l with
  | nil => cases h
  | cons d l ih =>
    have hrest : pickEntry s l = some (e, a) → e ∈ d :: l ∧ (a.isSome = true → s.hasRoom (s.label e.label).base = true) := fun h =>
      ⟨List.mem_cons_of_mem _ (ih h).1, (ih h).2⟩
    unfold pickEntry at h
    split at h
    · cases h
      exact ⟨List.mem_cons_self, fun h => nomatch h⟩
    · split at h
      · split at h
        · next hr =>
          cases h
          exact ⟨List.mem_cons_self, fun _ => hr⟩
        · exact hrest h
      · exact hrest h

theorem mem_waitingInOrder {s : State} {e : LabelEntry} : e ∈ s.waitingInOrder ↔ e ∈ s.disp.queue ∧ e.flight = none := by
  simp only [State.waitingInOrder, List.mem_append, List.mem_filter, Option.isNone_iff_eq_none]
  cases e.high <;> simp

/-- The flight an entry takes joins those there were (R75). -/
theorem fly_flightKeys {s : State} (hd : s.queued.Nodup) {e : LabelEntry} (he : e ∈ s.disp.queue) (hf : e.flight = none) (tag : Nat) :
    (fly e tag s).flightKeys.Perm ((tag, (s.label e.label).base) :: s.flightKeys) := by
  obtain ⟨l, r, hq⟩ := List.append_of_mem he
  have hd' := hd
  rw [State.queued, hq, List.map_append, List.map_cons] at hd'
  have hl : ∀ d ∈ l, d.label ≠ e.label := fun d hm hde =>
    (List.nodup_append.1 hd').2.2 _ (List.mem_map_of_mem hm) _ List.mem_cons_self hde
  have hr : ∀ d ∈ r, d.label ≠ e.label := fun d hm hde =>
    (List.nodup_cons.1 (List.nodup_append.1 hd').2.1).1 (hde ▸ List.mem_map_of_mem hm)
  have hstands : ∀ (g : LabelEntry → LabelEntry) (q : List LabelEntry), (∀ d ∈ q, d.label ≠ e.label) →
      q.map (fun d => if d.label = e.label then g d else d) = q := fun g q hne => by
    refine (List.map_congr_left fun d hm => ?_).trans (List.map_id _)
    simp [hne d hm]
  have hkeys : s.flightKeys = l.filterMap (fun e => e.flight.map (fun f => (f.tag, f.base))) ++
      r.filterMap (fun e => e.flight.map (fun f => (f.tag, f.base))) := by
    simp [State.flightKeys, hq, hf]
  have hfly : (fly e tag s).flightKeys = l.filterMap (fun e => e.flight.map (fun f => (f.tag, f.base))) ++
      (tag, (s.label e.label).base) :: r.filterMap (fun e => e.flight.map (fun f => (f.tag, f.base))) := by
    simp only [State.flightKeys, fly, mapEntry, setQueue, hq, List.map_append, List.map_cons, hstands _ _ hl, hstands _ _ hr]
    simp
  rw [hkeys, hfly]
  exact List.perm_middle

theorem fly_queued (e : LabelEntry) (tag : Nat) (s : State) : (fly e tag s).queued = s.queued :=
  mapEntry_queued (by intro _; rfl) s

/-- The tag a push of `s` takes (R75). -/
def State.pushTag (s : State) : Nat := freeTag s.tagsInFlight s.tagsInFlight.length s.disp.nextTag

/-- What a push does to the label queue: its entry flies. -/
theorem push_queue (e : LabelEntry) (a : Addr) (s : State) : (push e a s).disp.queue = (fly e s.pushTag s).disp.queue ∧
    (push e a s).disp.nextTag = (fly e s.pushTag s).disp.nextTag := by
  unfold push offerOr
  dsimp only
  split <;> simp [State.pushTag]

theorem push_labelsWf {s : State} (hs : LabelsWf s) {e : LabelEntry} (he : e ∈ s.disp.queue) (hf : e.flight = none)
    (hr : s.hasRoom (s.label e.label).base = true) (a : Addr) : LabelsWf (push e a s) := by
  obtain ⟨hq, ht, hw⟩ := hs
  obtain ⟨hqueue, hnext⟩ := push_queue e a s
  have htags : s.tagsInFlight.length < 65536 := by
    have h1 : s.tagsInFlight.length ≤ s.disp.queue.length := List.length_filterMap_le _ _
    have h2 : s.queued.length = s.disp.queue.length := List.length_map _
    have := hq.length
    omega
  have hlt : s.pushTag < 65536 := freeTag_lt ht.next
  have hfree : s.pushTag ∉ s.flightKeys.map (·.1) := tagsInFlight_eq s ▸ freeTag_free htags ht.next
  have hperm := fly_flightKeys hq.nodup he hf s.pushTag
  have hkeys : (push e a s).flightKeys = (fly e s.pushTag s).flightKeys := by simp [State.flightKeys, hqueue]
  rw [← hkeys] at hperm
  refine ⟨hq.of_labels (push_labels e a s) ?_, ⟨?_, fun k hk => ?_, ?_⟩, fun b hb => ?_⟩
  · rw [← fly_queued e s.pushTag s]
    simp [State.queued, hqueue]
  · exact (hperm.map (·.1)).nodup_iff.2 (List.nodup_cons.2 ⟨hfree, ht.nodup⟩)
  · obtain rfl | hk := List.mem_cons.1 (hperm.subset hk)
    · exact hlt
    · exact ht.bound k hk
  · rw [hnext]
    exact Nat.mod_lt _ (by decide)
  · have hroom : s.flightKeys.countP (·.2 == (s.label e.label).base) < s.settings.baseWindow := by
      rw [← inFlight_length]
      simpa [State.hasRoom] using hr
    have := hw b hb
    rw [hperm.countP_eq, List.countP_cons, (push_frame e a s).2.2.2.2.1]
    by_cases hbase : (s.label e.label).base = b
    · subst hbase
      simp only [beq_self_eq_true, if_true]
      omega
    · simpa [hbase] using this

theorem dispatchLoop_labelsWf (fuel : Nat) {s : State} (hs : LabelsWf s) : LabelsWf (dispatchLoop fuel s) := by
  induction fuel generalizing s with
  | zero => exact hs
  | succ fuel ih =>
    unfold dispatchLoop
    split
    · exact hs
    · split
      · exact hs
      · exact ih (hs.of_flights (removeEntry_queueWf _ hs.1) (removeEntry_flights _ s) (by simp))
      · next e a hp =>
        obtain ⟨hm, hr⟩ := pickEntry_some hp
        obtain ⟨hq, hf⟩ := mem_waitingInOrder.1 hm
        exact ih (push_labelsWf hs hq hf (hr rfl) a)

theorem dispatch_labelsWf {s : State} (hs : LabelsWf s) : LabelsWf (dispatch s) := dispatchLoop_labelsWf _ hs

theorem dispatchOn_labelsWf (s : State) {t : State} (ht : LabelsWf t) : LabelsWf (dispatchOn s t) := by
  unfold dispatchOn
  split
  · exact dispatch_labelsWf ht
  · exact ht

/-! ### How a push ends -/

theorem owe_labelsWf (n : Nat) {s : State} (hs : LabelsWf s) : LabelsWf (owe n s) :=
  hs.of_flights (owe_queueWf n hs.1) (owe_flights n hs.1) (by simp)

theorem setLabel_labelsWf {s : State} (hs : LabelsWf s) {n : Nat} {r : LabelRec} (ho : r.overflow = (s.label n).overflow) :
    LabelsWf (setLabel n r s) := hs.of_flights (setLabel_queueWf hs.1 ho) (.of_keys rfl rfl) rfl

theorem mapFlight_labelsWf {s : State} (hs : LabelsWf s) (n : Nat) (g : Flight → Flight) (hg : ∀ f, (g f).tag = f.tag ∧ (g f).base = f.base) :
    LabelsWf (mapEntry n (fun e => { e with flight := e.flight.map g }) s) := by
  obtain ⟨hq, hk⟩ := mapFlight_keeps n g hg s
  exact hs.of_flights (hs.1.of_labels rfl hq) (.of_keys hk rfl) rfl

theorem removeEntry_labelsWf (n : Nat) {s : State} (hs : LabelsWf s) : LabelsWf (removeEntry n s) :=
  hs.of_flights (removeEntry_queueWf n hs.1) (removeEntry_flights n s) (by simp)

theorem backToWaiting_labelsWf {s : State} (hs : LabelsWf s) {n : Nat} (hn : n ∈ s.queued) (k : Nat) : LabelsWf (backToWaiting n k s) :=
  hs.of_flights (backToWaiting_queueWf hs.1 hn k) (backToWaiting_flights n k s) (by simp)

theorem noteBound_labelsWf (n : Nat) (b : Option Nat) {s : State} (hs : LabelsWf s) : LabelsWf (noteBound n b s) := by
  unfold noteBound
  dsimp only
  refine mapFlight_labelsWf (setLabel_labelsWf hs ?_) n (fun f => { f with rebound := true }) fun _ => ⟨rfl, rfl⟩
  rfl

/-- The entry a tag names is in the queue (R76). -/
theorem flightOf_some {s : State} {tag : Nat} {e : LabelEntry} {f : Flight} (h : s.flightOf tag = some (e, f)) :
    e ∈ s.disp.queue ∧ e.flight = some f ∧ f.tag = tag := by
  obtain ⟨d, hd, hs⟩ := List.exists_of_findSome?_eq_some h
  split at hs
  · next g hg =>
    split at hs
    · cases hs
      exact ⟨hd, hg, ‹_›⟩
    · cases hs
  · cases hs

theorem flightOf_queued {s : State} {tag : Nat} {e : LabelEntry} {f : Flight} (h : s.flightOf tag = some (e, f)) : e.label ∈ s.queued :=
  List.mem_map_of_mem (flightOf_some h).1

theorem takeShown_labelsWf {s : State} (hs : LabelsWf s) {e : LabelEntry} (he : e.label ∈ s.queued) (f : Flight) :
    LabelsWf (takeShown e f s) := by
  have ht : ∀ t, LabelsWf t → e.label ∈ t.queued →
      LabelsWf (if f.superseded then backToWaiting e.label 0 t else removeEntry e.label t) := fun t ht hm => by
    split
    · exact backToWaiting_labelsWf ht hm 0
    · exact removeEntry_labelsWf _ ht
  unfold takeShown
  dsimp only
  by_cases hr : (s.label e.label).radio = f.radio
  · rw [if_pos hr]
    exact ht _ (setLabel_labelsWf hs rfl) he
  · rw [if_neg hr]
    exact ht _ hs he

theorem giveUp_labelsWf {s : State} (hs : LabelsWf s) (e : LabelEntry) (o : Option FailOutcome) : LabelsWf (giveUp e o s) :=
  removeEntry_labelsWf _ ((setLabel_labelsWf hs (n := e.label) (r := { s.label e.label with reachable := false }) rfl).of_same
    (by simp) (by simp) (by simp) (by simp))

theorem takeFailure_labelsWf {s : State} (hs : LabelsWf s) {e : LabelEntry} (he : e.label ∈ s.queued) (f : Flight) (o : FailOutcome) :
    LabelsWf (takeFailure e f o s) := by
  unfold takeFailure
  dsimp only
  generalize (if f.superseded = true then 0 else e.attempts + 1) = k
  split
  · exact backToWaiting_labelsWf hs he k
  · exact giveUp_labelsWf hs e _

theorem expirePush_labelsWf (tag : Nat) {s : State} (hs : LabelsWf s) : LabelsWf (expirePush tag s) := by
  unfold expirePush
  split
  · next e f hf =>
    split
    · exact takeFailure_labelsWf (count_labelsWf hs _) (flightOf_queued hf) f _
    · exact hs
  · exact hs

theorem expirePushes_labelsWf {s : State} (hs : LabelsWf s) : LabelsWf (expirePushes s) :=
  dispatchOn_labelsWf s (foldl_keeps (fun _ tag h => expirePush_labelsWf tag h) _ _ hs)

theorem takeLabelResult_labelsWf (a : Addr) (b : List Byte) {s : State} (hs : LabelsWf s) : LabelsWf (takeLabelResult a b s) := by
  have hc : ∀ o, LabelsWf (count o s) := fun o => count_labelsWf hs o
  unfold takeLabelResult
  dsimp only
  split
  · exact hc _
  split
  · exact hc _
  split
  · exact hc _
  · next e f hf =>
    have hq := flightOf_queued hf
    refine dispatch_labelsWf ?_
    split
    · exact takeShown_labelsWf (hc _) hq f
    · exact takeFailure_labelsWf (hc _) hq f _
    · exact takeFailure_labelsWf (hc _) hq f _
    · exact giveUp_labelsWf (hc _) e none

/-! ### Recall -/

/-- What the recalls rest on, the windows aside. -/
def RecallsWf (s : State) : Prop := QueueWf s ∧ TagsWf s

theorem mem_flightsInOrder {s : State} {e : LabelEntry} {f : Flight} (h : (e, f) ∈ s.flightsInOrder) :
    e ∈ s.disp.queue ∧ e.flight = some f := by
  rw [State.flightsInOrder, List.mem_insertionSort] at h
  obtain ⟨d, hd, hm⟩ := List.mem_filterMap.1 h
  obtain ⟨g, hg, hde⟩ := Option.map_eq_some_iff.1 hm
  cases hde
  exact ⟨hd, hg⟩

theorem recallEntry_flights (e : LabelEntry) (f : Flight) (s : State) : FlightsEnd s (recallEntry e f s) := by
  unfold recallEntry
  dsimp only
  split
  · exact (backToWaiting_flights _ _ s).trans (.of_disp rfl rfl)
  · exact backToWaiting_flights _ _ s

theorem recallEntry_keys (e : LabelEntry) (f : Flight) (s : State) :
    (recallEntry e f s).flightKeys = (setQueue (s.disp.queue.filter (fun d => !(d.label == e.label))) s).flightKeys := by
  unfold recallEntry
  dsimp only
  split
  · exact appendEntry_flightKeys _ _ _
  · exact appendEntry_flightKeys _ _ _

theorem recallEntry_queueWf {s : State} (hs : QueueWf s) {e : LabelEntry} (he : e.label ∈ s.queued) (f : Flight) :
    QueueWf (recallEntry e f s) := by
  unfold recallEntry
  dsimp only
  split
  · exact (backToWaiting_queueWf hs he _).of_labels rfl rfl
  · exact backToWaiting_queueWf hs he _

/-- A recalled entry is one flight fewer at its base station (R65). -/
theorem recallEntry_count {s : State} {e : LabelEntry} {f : Flight} (he : e ∈ s.disp.queue) (hf : e.flight = some f) :
    (recallEntry e f s).flightKeys.countP (·.2 == f.base) + 1 ≤ s.flightKeys.countP (·.2 == f.base) := by
  rw [recallEntry_keys]
  obtain ⟨l, r, hq⟩ := List.append_of_mem he
  have hsub : ∀ q : List LabelEntry, ((q.filter (fun d => !(d.label == e.label))).filterMap
      (fun e => e.flight.map (fun f => (f.tag, f.base)))).countP (·.2 == f.base) ≤
      (q.filterMap (fun e => e.flight.map (fun f => (f.tag, f.base)))).countP (·.2 == f.base) := fun q =>
    (List.Sublist.filterMap _ List.filter_sublist).countP_le
  have hl := hsub l
  have hr := hsub r
  simp only [State.flightKeys, setQueue, hq, List.filter_append, List.filter_cons, beq_self_eq_true, Bool.not_true, Bool.false_eq_true,
    if_false, List.filterMap_append, List.filterMap_cons, hf, Option.map_some, List.countP_append, List.countP_cons, if_true]
  omega

/-- What the recall of the latest sent of a base station leaves (R65). -/
theorem recallLatest_spec (b n : Nat) {s : State} (hs : RecallsWf s) : RecallsWf (recallLatest b n s) ∧ FlightsEnd s (recallLatest b n s) ∧
    (recallLatest b n s).flightKeys.countP (·.2 == b) ≤ s.flightKeys.countP (·.2 == b) - n := by
  induction n generalizing s with
  | zero => exact ⟨hs, .refl s, Nat.le_refl _⟩
  | succ n ih =>
    unfold recallLatest
    split
    · next e f hl =>
      obtain ⟨hm, hb⟩ := List.mem_filter.1 (List.mem_of_getLast? hl)
      obtain ⟨hq, hf⟩ := mem_flightsInOrder hm
      have hb' : f.base = b := by simpa using hb
      have hend := recallEntry_flights e f s
      obtain ⟨h1, h2, h3⟩ := ih (s := recallEntry e f s)
        ⟨recallEntry_queueWf hs.1 (List.mem_map_of_mem hq) f, hend.tags hs.2⟩
      have hc := recallEntry_count hq hf
      rw [hb'] at hc
      exact ⟨h1, hend.trans h2, by omega⟩
    · next hl =>
      refine ⟨hs, .refl s, ?_⟩
      rw [← inFlight_length, List.length_eq_zero_iff.2]
      · exact Nat.zero_le _
      · rw [List.getLast?_eq_none_iff] at hl
        refine List.filter_eq_nil_iff.2 fun e he hb => ?_
        rw [Option.any_eq_true] at hb
        obtain ⟨f, hf, hfb⟩ := hb
        have hm : (e, f) ∈ s.flightsInOrder := by
          rw [State.flightsInOrder, List.mem_insertionSort]
          exact List.mem_filterMap.2 ⟨e, he, by simp [hf]⟩
        exact absurd hfb (List.filter_eq_nil_iff.1 hl _ hm)

/-- The surplus of each of a list of base stations recalled (R65). -/
def recallEach (l : List Nat) (s : State) : State :=
  l.foldl (fun t b => recallLatest b ((t.inFlight b).length - t.settings.baseWindow) t) s

theorem recallSurplus_eq (s : State) : recallSurplus s = dispatchOn s (recallEach (List.range 8) s) := rfl

/-- After the recalls of a list of base stations the windows of those are kept (R65). -/
theorem recallEach_spec (w : Nat) (l : List Nat) {s : State} (hs : RecallsWf s) (hw : s.settings.baseWindow = w) :
    RecallsWf (recallEach l s) ∧ FlightsEnd s (recallEach l s) ∧ (recallEach l s).settings.baseWindow = w ∧
      ∀ b ∈ l, (recallEach l s).flightKeys.countP (·.2 == b) ≤ w := by
  induction l generalizing s with
  | nil => exact ⟨hs, .refl s, hw, by simp⟩
  | cons b l ih =>
    obtain ⟨h1, h2, h3⟩ := recallLatest_spec b ((s.inFlight b).length - s.settings.baseWindow) hs
    obtain ⟨k1, k2, k3, k4⟩ := ih h1 (by simpa using hw)
    refine ⟨k1, h2.trans k2, k3, fun c hc => ?_⟩
    obtain rfl | hc := List.mem_cons.1 hc
    · refine (k2.keys.countP_le).trans (h3.trans ?_)
      rw [inFlight_length, hw]
      omega
    · exact k4 c hc

theorem recallSurplus_labelsWf {s : State} (hs : RecallsWf s) : LabelsWf (recallSurplus s) := by
  obtain ⟨⟨hq, ht⟩, -, hw, hc⟩ := recallEach_spec s.settings.baseWindow (List.range 8) hs rfl
  rw [recallSurplus_eq]
  exact dispatchOn_labelsWf s ⟨hq, ht, fun b hb => hw.symm ▸ hc b (List.mem_range.2 hb)⟩

/-! ### The rest of the commands -/

theorem reofferPush_labelsWf {s : State} (hs : LabelsWf s) : LabelsWf (reofferPush s) := by
  unfold reofferPush
  split
  · exact hs
  · dsimp only
    split
    · exact dispatch_labelsWf (hs.of_same (by simp) (by simp) (by simp) (by simp))
    · exact hs.of_same (by simp) (by simp) (by simp) (by simp)

theorem mem_backToWaiting_queued {n m k : Nat} {s : State} (h : m ∈ s.queued) : m ∈ (backToWaiting n k s).queued := by
  rw [backToWaiting_queued, List.mem_append, List.mem_filter, List.mem_singleton]
  by_cases hm : m = n
  · exact .inr hm
  · exact .inl ⟨h, by simpa using hm⟩

theorem labelsResetTraffic_labelsWf {s : State} (hs : LabelsWf s) : LabelsWf (labelsResetTraffic s) := by
  have hfold : ∀ (l : List (LabelEntry × Flight)) (u : State), LabelsWf u → (∀ p ∈ l, p.1.label ∈ u.queued) →
      LabelsWf (l.foldl (fun t p => backToWaiting p.1.label p.1.attempts t) u) := by
    intro l
    induction l with
    | nil => exact fun u hu _ => hu
    | cons p l ih =>
      intro u hu hl
      exact ih _ (backToWaiting_labelsWf hu (hl p List.mem_cons_self) _)
        fun q hq => mem_backToWaiting_queued (hl q (List.mem_cons_of_mem _ hq))
  exact (hfold s.flightsInOrder s hs fun p hp => List.mem_map_of_mem (mem_flightsInOrder hp).1).of_same rfl rfl rfl rfl

theorem writeItem_labelsWf (code : Nat) (f : ItemFields) {s : State} (hs : LabelsWf s) : LabelsWf (writeItem code f s).2 :=
  foldl_keeps (fun _ n h => owe_labelsWf n h) _ _
    (hs.of_same (t := { s with items := (storeItem code f s.items).2.1 }) rfl rfl rfl rfl)

theorem unbindLabel_labelsWf (n code : Nat) {s : State} (hs : LabelsWf s) : LabelsWf (unbindLabel n code s).2 := by
  unfold unbindLabel
  split
  · exact owe_labelsWf n (noteBound_labelsWf n none (hs.of_same (by simp) (by simp) (by simp) (by simp)))
  · exact hs

theorem bindLabel_labelsWf (n code : Nat) {s : State} (hs : LabelsWf s) : LabelsWf (bindLabel n code s).2 := by
  by_cases h : ∃ r, lookupItem s.items code = some r ∧ n ∉ r.labels ∧ r.labels.length < 4
  · obtain ⟨r, hr, hn, hl⟩ := h
    have hdisp : (freed n s).disp = s.disp ∧ (freed n s).settings = s.settings := by
      unfold freed
      split <;> simp
    rw [bindLabel_done hr hn hl]
    exact owe_labelsWf n (noteBound_labelsWf n _ (hs.of_same (by simp [freed_labels]) (by simp [hdisp]) (by simp [hdisp]) (by simp [hdisp])))
  · rw [bindLabel_of_not_done]
    · exact hs
    · intro r hr
      by_contra hcon
      exact h ⟨r, hr, (not_or.1 hcon).1, by omega⟩

theorem deleteItem_labelsWf (code : Nat) {s : State} (hs : LabelsWf s) : LabelsWf (deleteItem code s).2 := by
  unfold deleteItem
  split
  · exact hs
  · next slot r _ =>
    have ht : LabelsWf (r.labels.foldl (fun t n => owe n (noteBound n none t)) s) :=
      foldl_keeps (fun _ n h => owe_labelsWf n (noteBound_labelsWf n none h)) _ _ hs
    exact ht.of_same rfl rfl rfl rfl

theorem applyChange_labelsWf (c : Change) {s : State} (hs : LabelsWf s) : LabelsWf (applyChange c s).2 := by
  unfold applyChange
  split
  · exact writeItem_labelsWf _ _ hs
  · exact deleteItem_labelsWf _ hs
  · exact bindLabel_labelsWf _ _ hs
  · exact unbindLabel_labelsWf _ _ hs

theorem activationStep_labelsWf {s : State} (hs : LabelsWf s) : LabelsWf (activationStep s) := by
  unfold activationStep
  split
  · exact hs
  · next e rest _ =>
    split
    · have ht : LabelsWf (count (occ .activations) (setEntries rest s)) := hs.of_same rfl rfl rfl rfl
      have hu := applyChange_labelsWf e.change ht
      unfold activateEntry
      dsimp only
      split
      · exact dispatchOn_labelsWf _ hu
      · exact hu.of_same (by simp) (by simp) (by simp) (by simp)
    · exact hs

theorem writeRadio_labelsWf (n radio base : Nat) {s : State} (hs : LabelsWf s) : LabelsWf (writeRadio n radio base s) := by
  unfold writeRadio
  dsimp only
  split
  · exact setLabel_labelsWf hs rfl
  · have ht := mapFlight_labelsWf (setLabel_labelsWf hs (n := n)
      (r := { s.label n with radio := radio, base := base, display := .neverShown, reachable := false }) rfl) n
      (fun f => { f with superseded := true }) fun _ => ⟨rfl, rfl⟩
    split
    · exact ht
    · exact owe_labelsWf n ht

theorem rebind_labelsWf (n : Nat) (b : Option Nat) {s : State} (hs : LabelsWf s) : LabelsWf (rebind n b s).2 := by
  unfold rebind
  split
  · exact hs
  · split
    · exact bindLabel_labelsWf _ _ hs
    · exact unbindLabel_labelsWf _ _ hs
    · exact hs

theorem writeLabel_labelsWf (n radio base : Nat) (b : Option Nat) {s : State} (hs : LabelsWf s) : LabelsWf (writeLabel n radio base b s).2 := by
  have ht := writeRadio_labelsWf n radio base (rebind_labelsWf n b hs)
  unfold writeLabel
  dsimp only
  split
  · split
    · exact dispatch_labelsWf ht
    · exact dispatchOn_labelsWf _ ht
  · exact hs

theorem repushLabel_labelsWf (n : Nat) {s : State} (hs : LabelsWf s) : LabelsWf (repushLabel n s) :=
  dispatchOn_labelsWf s (owe_labelsWf n (setLabel_labelsWf hs rfl))

theorem writeStation_labelsWf (e : Station) {s : State} (hs : LabelsWf s) : LabelsWf (writeStation e s).2 := by
  have hd : ∀ (b : Bool) (u : State), LabelsWf u → LabelsWf (if b then dispatch u else u) := fun b u hu => by
    split
    · exact dispatch_labelsWf hu
    · exact hu
  unfold writeStation
  split
  · exact hd _ _ (hs.of_same (by simp) (by simp) (by simp) (by simp))
  · split
    · exact hs
    · exact hd _ _ (hs.of_same (by simp) (by simp) (by simp) (by simp))

/-- A write of a setting other than the window leaves the window (R193). -/
theorem putNumber_baseWindow {st : Settings} {n v : Nat} (hn : n ≠ 0x18) : (st.putNumber n v).baseWindow = st.baseWindow := by
  unfold Settings.putNumber
  split <;> first | rfl | exact absurd rfl hn

theorem judgeEnum_some {α : Type} {p : Option α} {w : α → Settings} {st : Settings} (h : (judgeEnum p w).2 = some st) :
    ∃ a, p = some a ∧ st = w a := by
  unfold judgeEnum at h
  split at h
  · cases h
    exact ⟨_, rfl, rfl⟩
  · cases h

theorem judgeCell_baseWindow (i : Nat) (c : PolicyCell) (st : Settings) : (judgeCell i c st).2.baseWindow = st.baseWindow := by
  unfold judgeCell
  split <;> rfl

theorem judgeWrite_baseWindow {n v : Nat} {s : State} {st : Settings} (h : (judgeWrite n v s).2 = some st) (hn : n ≠ 0x18) :
    st.baseWindow = s.settings.baseWindow := by
  unfold judgeWrite at h
  dsimp only at h
  split at h
  · cases h
    exact putNumber_baseWindow hn
  · split at h
    case h_12 =>
      split at h
      · cases h
        exact judgeCell_baseWindow _ _ _
      · cases h
    all_goals
      obtain ⟨a, -, rfl⟩ := judgeEnum_some h
      rfl

/-- Settings written beside the window. -/
theorem LabelsWf.of_settings {s : State} (hs : LabelsWf s) {st : Settings} (h : st.baseWindow = s.settings.baseWindow) :
    LabelsWf { s with settings := st } := hs.of_same rfl rfl rfl h

/-- What a setting's owner does once the settings are written, the window aside. -/
theorem settingChanged_labelsWf {n : Nat} (hn : n ≠ 0x18) (old : State) {s : State} (hs : LabelsWf s) : LabelsWf (settingChanged n old s) := by
  have hsame : ∀ t : State, t.labels = s.labels → t.disp = s.disp → t.settings = s.settings → LabelsWf t := fun t hl hd hst =>
    hs.of_same hl (by rw [hd]) (by rw [hd]) (by rw [hst])
  unfold settingChanged
  split
  case h_7 => exact absurd rfl hn
  case h_8 =>
    split
    · exact expirePushes_labelsWf hs
    · exact hs
  case h_2 | h_4 | h_5 | h_11 | h_12 | h_13 | h_14 | h_17 => split <;> exact hsame _ (by simp) (by simp) (by simp)
  case h_1 | h_3 | h_6 | h_9 | h_10 | h_15 | h_16 | h_18 => exact hsame _ (by simp) (by simp) (by simp)

/-- The window written: a lower one has its surplus recalled, a higher one is dispatched into (R65, R74). -/
theorem windowChanged_labelsWf (old : State) {s : State} (hs : RecallsWf s)
    (hw : ∀ b, b < 8 → s.flightKeys.countP (·.2 == b) ≤ old.settings.baseWindow) : LabelsWf (settingChanged 0x18 old s) := by
  change LabelsWf (if s.settings.baseWindow < old.settings.baseWindow then recallSurplus s else dispatch s)
  split
  · exact recallSurplus_labelsWf hs
  · next hlt => exact dispatch_labelsWf ⟨hs.1, hs.2, fun b hb => (hw b hb).trans (Nat.le_of_not_lt hlt)⟩

theorem writeSetting_labelsWf (n v : Nat) {s : State} (hs : LabelsWf s) : LabelsWf (writeSetting n v s).2 := by
  unfold writeSetting
  split
  · next r st hj =>
    unfold applySetting
    dsimp only
    split
    · exact hs
    · have hu : LabelsWf (if st.stationAddr = s.settings.stationAddr then s else clearOwnAddress st.stationAddr s) := by
        split
        · exact hs
        · exact hs.of_same (by simp) (by simp) (by simp) (by simp)
      have hset : (if st.stationAddr = s.settings.stationAddr then s else clearOwnAddress st.stationAddr s).settings = s.settings := by
        split <;> simp
      generalize (if st.stationAddr = s.settings.stationAddr then s else clearOwnAddress st.stationAddr s) = u at hu hset
      by_cases hn : n = 0x18
      · subst hn
        obtain ⟨hq, ht, hw⟩ := hu
        exact windowChanged_labelsWf s (s := { u with settings := st }) ⟨hq.of_labels rfl rfl,
          (FlightsEnd.of_keys (s := u) (t := { u with settings := st }) rfl rfl).tags ht⟩
          (hset ▸ hw)
      · refine settingChanged_labelsWf hn s (hu.of_settings ?_)
        rw [hset]
        exact judgeWrite_baseWindow (by rw [hj]) hn
  · exact hs

theorem discardHeld_labelsWf (p : Port) {s : State} (hs : LabelsWf s) : LabelsWf (discardHeld p s) := by
  have ht : LabelsWf (countMany (occDiscard .admission p (some .urgent)) (s.heldMessages.countP (fun m => m.port == p)) (forgetHeld p s)) :=
    hs.of_same (by simp) (by simp [forgetHeld]) (by simp [forgetHeld]) (by simp)
  unfold discardHeld
  dsimp only
  split
  · exact dispatch_labelsWf ht
  · exact ht

theorem linkDownStep_labelsWf (p : Port) (receiving : Bool) {s : State} (hs : LabelsWf s) : LabelsWf (linkDownStep p receiving s) := by
  unfold linkDownStep
  dsimp only
  split
  · generalize hv : discardHeld p _ = v
    have hl : LabelsWf v := by
      rw [← hv]
      refine discardHeld_labelsWf p (hs.of_same ?_ ?_ ?_ ?_) <;> split <;> simp
    split
    · exact hl.of_same (by simp) (by simp) (by simp) (by simp)
    · exact hl
  · exact hs

theorem trafficReset_labelsWf {s : State} (hs : LabelsWf s) : LabelsWf (trafficReset s) := by
  have h0 : LabelsWf (journalResetTraffic (tillResetTraffic (poolResetTraffic s))) :=
    hs.of_same (by simp) (by simp) (by simp) (by simp)
  have h1 := dispatch_labelsWf ((labelsResetTraffic_labelsWf h0).of_same
    (t := mgmtResetTraffic (stationsResetTraffic (exchResetTraffic (labelsResetTraffic (journalResetTraffic (tillResetTraffic
      (poolResetTraffic s)))))))
    (by simp) (by simp) (by simp) (by simp))
  exact h1.of_same (by simp [trafficReset]) (by simp [trafficReset]) (by simp [trafficReset]) (by simp [trafficReset])

theorem reofferFor_labelsWf (g : Generator) {s : State} (hs : LabelsWf s) : LabelsWf (reofferFor s g) := by
  cases g
  case labelDispatcher => exact reofferPush_labelsWf hs
  all_goals exact hs.of_same (by simp [reofferFor]) (by simp [reofferFor]) (by simp [reofferFor]) (by simp [reofferFor])

theorem labelsWf_of_empty {s : State} (hl : s.labels = []) (hq : s.disp.queue = []) (hn : s.disp.nextTag = 0) : LabelsWf s := by
  have hlabel : ∀ n, (s.label n).overflow = false := fun n => by simp [State.label, labelAt, hl, unusedLabel]
  have hkeys : s.flightKeys = [] := by simp [State.flightKeys, hq]
  have hqueued : s.queued = [] := by simp [State.queued, hq]
  refine ⟨⟨by simp [hl], by simp [hqueued], by simp [hqueued], by simp [hqueued], fun n hm => ?_⟩,
    ⟨by simp [hkeys], by simp [hkeys], by omega⟩, fun b _ => by simp [hkeys]⟩
  rw [hlabel] at hm
  cases hm

theorem toOwner_labelsWf (k : MsgKind) (p : Port) (a : Addr) (b : List Byte) {s : State} (hs : LabelsWf s) :
    LabelsWf (toOwner k p a b s) := by
  cases k
  case labelResult => exact takeLabelResult_labelsWf _ _ hs
  all_goals exact hs.of_same (by simp [toOwner]) (by simp [toOwner]) (by simp [toOwner]) (by simp [toOwner])

theorem after_labelsWf (c : Instr) (s : State) (hs : LabelsWf s) : LabelsWf (after c s) := by
  have ht : ∀ (r : Request) (u : State), LabelsWf u → LabelsWf (takeRequest r u) :=
    fun r u hu => hu.of_same (by simp) (by simp) (by simp) (by simp)
  have ha : ∀ (r : Request) o d (u : State), LabelsWf u → LabelsWf (answer r o d u) :=
    fun r o d u hu => hu.of_same (by simp) (by simp) (by simp) (by simp)
  have hlearn : ∀ p a (u : State), LabelsWf u → LabelsWf (learnSource p a u).after :=
    fun p a u hu => hu.of_same (by simp) (by simp) (by simp) (by simp)
  have hlight : ∀ p (u : State), LabelsWf u → LabelsWf (lightPort p u) := fun p u hu => hu.of_same rfl rfl rfl rfl
  have hcount : ∀ o (u : State), LabelsWf u → LabelsWf (count o u) := fun o u hu => count_labelsWf hu o
  cases c
  case powerOn | resetPin => exact labelsWf_of_empty rfl rfl rfl
  case resetFull => exact runHead_keeps hs ht (resetFullRequest_keeps (fun _ => labelsWf_of_empty rfl rfl rfl) ha)
  case resetTraffic => exact runHead_keeps hs ht fun r u hu => ha _ _ _ _ (trafficReset_labelsWf hu)
  case settingWrite =>
    exact runHead_keeps hs ht fun r u hu => withFields_keeps hu (ha r) fun v hv => ha _ _ _ _ (writeSetting_labelsWf _ _ hv)
  case itemWrite =>
    exact runHead_keeps hs ht fun r u hu => withFields_keeps hu (ha r) fun v hv => by
      split
      · exact ha _ _ _ _ hv
      · exact ha _ _ _ _ (dispatchOn_labelsWf _ (writeItem_labelsWf _ _ hv))
  case itemDelete =>
    exact runHead_keeps hs ht fun r u hu => withFields_keeps hu (ha r) fun v hv => by
      split
      · exact ha _ _ _ _ (dispatchOn_labelsWf _ (deleteItem_labelsWf _ hv))
      · exact ha _ _ _ _ hv
  case labelWrite =>
    exact runHead_keeps hs ht fun r u hu => withFields_keeps hu (ha r) fun v hv => by
      split
      · exact ha _ _ _ _ hv
      · split
        · exact ha _ _ _ _ hv
        · exact ha _ _ _ _ (writeLabel_labelsWf _ _ _ _ hv)
  case labelRepush =>
    exact runHead_keeps hs ht fun r u hu => withFields_keeps hu (ha r) fun v hv => by
      split
      · exact ha _ _ _ _ hv
      · split
        · exact ha _ _ _ _ hv
        · exact ha _ _ _ _ (repushLabel_labelsWf _ hv)
  case stationWrite =>
    exact runHead_keeps hs ht fun r u hu => withFields_keeps hu (ha r) fun v hv => by
      split
      · exact ha _ _ _ _ hv
      · exact ha _ _ _ _ (writeStation_labelsWf _ hv)
  case activation => exact activationStep_labelsWf hs
  case pushTimeout tag => exact dispatchOn_labelsWf _ (expirePush_labelsWf tag hs)
  case linkDown => exact linkDownStep_labelsWf _ _ hs
  case heldMessageReoffer => exact foldl_keeps (fun u g hu => reofferFor_labelsWf g hu) _ _ (hs.of_same rfl rfl rfl rfl)
  case ordinaryFrame =>
    exact receiveFrame_keeps hs hcount hlight hlearn (fun k p b c u hu => toOwner_labelsWf k p b c hu)
      (fun p e f u hu => hu.of_same (by simp) (by simp) (by simp) (by simp))
      (fun q f u hu => hu.of_same (by simp) (by simp) (by simp) (by simp))
  case priceAsk | saleRecord | itemReply | journalAck | labelResult | exchOpen | priceChange | exchClose | linkEcho | mgmtReq =>
    exact receiveBranch_keeps hs hcount hlight hlearn (fun p a b u hu => toOwner_labelsWf _ p a b hu)
  all_goals exact hs.of_same (by simp) (by simp) (by simp) (by simp)

/-- Settles O9: the labels queued and their marks, the tags, and the windows, each through every command. -/
theorem everyStepKeepsTheLabelQueue : Obligations.EveryStepKeepsTheLabelQueue := by
  intro s t hs h
  rw [labelQueueHolds_iff] at hs ⊢
  exact step_keeps (P := LabelsWf) (fun _ _ _ h => h.of_same rfl rfl rfl rfl) (fun _ h => h.of_same rfl rfl rfl rfl) after_labelsWf hs h

end Sys2Proof.Machine

/-! The reset state, the frame of a change in one lemma, links, admission and offers. -/

namespace Sys2Proof.Machine

/-! ### The frame of a change, block by block -/

theorem onlyChanges_iff {bs : List Block} {s t : State} : OnlyChanges bs s t ↔
    t.pending = s.pending ∧ t.choices = s.choices ∧ (.time ∉ bs → t.now = s.now) ∧ (.straps ∉ bs → t.straps = s.straps) ∧
      (.settings ∉ bs → t.settings = s.settings) ∧ (.items ∉ bs → t.items = s.items) ∧ (.labels ∉ bs → t.labels = s.labels) ∧
      (.dispatcher ∉ bs → t.disp = s.disp) ∧ (.till ∉ bs → t.till = s.till) ∧ (.journal ∉ bs → t.journal = s.journal) ∧
      (.clock ∉ bs → t.clock = s.clock) ∧ (.window ∉ bs → t.windowIn = s.windowIn) ∧ (.schedule ∉ bs → t.sched = s.sched) ∧
      (.exchange ∉ bs → t.exch = s.exch) ∧ (.uplink ∉ bs → t.uplink = s.uplink) ∧ (.pool ∉ bs → t.pool = s.pool) ∧
      (.stations ∉ bs → t.stations = s.stations) ∧ (.guest ∉ bs → t.guest = s.guest) ∧ (.monitor ∉ bs → t.mon = s.mon) ∧
      (.management ∉ bs → t.mgmt = s.mgmt) := by
  constructor
  · rintro ⟨hp, hc, h⟩
    exact ⟨hp, hc, h .time, h .straps, h .settings, h .items, h .labels, h .dispatcher, h .till, h .journal, h .clock, h .window,
      h .schedule, h .exchange, h .uplink, h .pool, h .stations, h .guest, h .monitor, h .management⟩
  · rintro ⟨hp, hc, h1, h2, h3, h4, h5, h6, h7, h8, h9, h10, h11, h12, h13, h14, h15, h16, h17, h18⟩
    refine ⟨hp, hc, fun b => ?_⟩
    cases b
    exacts [h1, h2, h3, h4, h5, h6, h7, h8, h9, h10, h11, h12, h13, h14, h15, h16, h17, h18]

theorem OnlyChanges.refl (bs : List Block) (s : State) : OnlyChanges bs s s := ⟨rfl, rfl, fun b _ => by cases b <;> rfl⟩

/-! ### The reset state -/

/-- Settles O11: every table and queue is empty after reset. -/
theorem resetMeetsTheInvariants : Obligations.ResetMeetsTheInvariants := by
  refine ⟨resetWith_cells ⟨0, false⟩ (powerOnState ⟨0, false⟩), .of_empty rfl, TablesAgree.empty, bindingsHold_of_empty rfl rfl,
    labelQueueHolds_iff.2 (labelsWf_of_empty rfl rfl rfl), sizesHold_iff.2 ⟨resetWith_bounds ⟨0, false⟩ (powerOnState ⟨0, false⟩), ?_⟩⟩
  exact ⟨Nat.zero_le _, fun _ => Nat.zero_le _⟩

/-- Settles O15: both resets are one function of the straps, whose fields are written out. -/
theorem powerOnAndResetPin : Obligations.PowerOnAndResetPin := by
  intro straps s
  refine ⟨resetWith straps s, rfl, rfl, rfl, rfl, rfl, rfl, rfl, rfl, rfl, rfl, rfl, fun x hx => ?_, rfl, rfl, rfl, rfl, rfl, rfl, rfl, rfl,
    rfl, rfl, rfl, rfl, fun p => ?_, rfl, rfl, rfl, rfl, rfl⟩
  · fin_cases hx <;> rfl
  · cases p <;> rfl

/-! ### What an offer does to the ports -/

theorem offer_port_other {g : Generator} {m : Msg} {s : State} {q : Port} (h : q ≠ m.port) : (offer g m s).2.port q = s.port q := by
  obtain ⟨-, h'⟩ | ⟨-, -, h'⟩ | ⟨-, -, h'⟩ := offer_spec g m s <;> rw [h']
  · rfl
  · exact (enqueue_spec _ _ _).2.2.1 q h

theorem enqueue_link (p q : Port) (f : QFrame) (s : State) : ((enqueue p f s).port q).link = (s.port q).link := by
  by_cases h : q = p
  · subst h
    exact (enqueue_spec _ _ _).2.1
  · rw [(enqueue_spec p f s).2.2.1 q h]

theorem offer_link (g : Generator) (m : Msg) (s : State) (q : Port) : ((offer g m s).2.port q).link = (s.port q).link := by
  obtain ⟨-, h'⟩ | ⟨-, -, h'⟩ | ⟨-, -, h'⟩ := offer_spec g m s <;> rw [h']
  · rfl
  · exact enqueue_link _ _ _ _

theorem offerOr_pool {g : Generator} {m : Msg} {hold : State → State} (hh : ∀ u, (hold u).pool = u.pool) (s : State) :
    (offerOr g m hold s).pool = (offer g m s).2.pool := by
  unfold offerOr
  split
  · rfl
  · exact hh _

theorem port_of_pool {s t : State} (h : t.pool = s.pool) (q : Port) : t.port q = s.port q := by simp [State.port, h]

theorem linkIsUp_of_pool {s t : State} (h : t.pool = s.pool) (q : Port) : t.linkIsUp q = s.linkIsUp q := by
  simp [State.linkIsUp, port_of_pool h]

/-! ### Probing -/

/-- The probe record after a probe is built (R124). -/
theorem buildProbe_uplink (s : State) : ∃ h, (buildProbe s).uplink = { s.uplink with
    probe := some ⟨s.uplink.seq, s.now, false⟩, seq := succFromOne 4294967295 s.uplink.seq, timer := some s.now, held := h } := by
  unfold buildProbe offerOr
  dsimp only
  split
  · exact ⟨none, by simp⟩
  · exact ⟨some _, by simp; rfl⟩

theorem buildProbe_ports (s : State) (q : Port) : ((buildProbe s).port q).link = (s.port q).link ∧
    (q ≠ .uplink → (buildProbe s).port q = s.port q) := by
  unfold buildProbe
  dsimp only
  rw [port_of_pool (offerOr_pool (by intro u; rfl) _)]
  exact ⟨offer_link _ _ _ _, fun h => offer_port_other h⟩

/-- What the start of probing leaves: the first probe, or an empty record (R124, R132). -/
theorem startProbing_spec (s : State) :
    (s.probing = true → startProbing s = buildProbe (dropProbe s)) ∧
      (s.probing = false → startProbing s = dropProbe s) := by
  unfold startProbing
  exact ⟨fun h => if_pos h, fun h => if_neg (by simp [h])⟩

/-- Settles O18: on P0 the link's coming up builds the first probe; a damaged frame is one discard. -/
theorem linkUpAndDamagedFrame : Obligations.LinkUpAndDamagedFrame := by
  refine ⟨fun p speed s hdown => ⟨_, exec_eq_after _ s, ?_⟩, fun p s => ⟨_, exec_eq_after _ s, ?_⟩⟩
  · simp only [after_linkUp, linkUpStep, hdown, Bool.false_eq_true, if_false]
    generalize hu : setPort p { s.port p with link := some speed } s = u
    have hport : u.port p = { s.port p with link := some speed } := by rw [← hu, setPort_port_same]
    have hother : ∀ q, q ≠ p → u.port q = s.port q := fun q hq => by rw [← hu, setPort_port_other _ _ _ _ hq]
    by_cases hp : p = .uplink
    · subst hp
      rw [if_pos rfl]
      have hup : u.linkIsUp .uplink = true := by simp [State.linkIsUp, hport]
      have hframe : OnlyChanges [.pool, .uplink, .monitor] s (startProbing u) := by simp [onlyChanges_iff, ← hu]
      have hsettings : u.settings = s.settings := by simp [← hu]
      have huplink : u.uplink = s.uplink := by simp [← hu]
      have hnow : u.now = s.now := by simp [← hu]
      by_cases hh : s.settings.headOffice = 0
      · rw [(startProbing_spec u).2 (by simp [State.probing, hsettings, hh])] at hframe ⊢
        exact ⟨congrArg PortUnit.link hport, hother, hframe, fun h => absurd rfl h, fun _ _ => ⟨rfl, rfl⟩, fun _ h => absurd hh h,
          congrArg Uplink.state (a₁ := u.uplink) huplink, congrArg Uplink.lostRun (a₁ := u.uplink) huplink⟩
      · rw [(startProbing_spec u).1 (by simpa [State.probing, hsettings, hup] using hh)] at hframe ⊢
        have hb := buildProbe_ports (dropProbe u)
        obtain ⟨h, hprobe⟩ := buildProbe_uplink (dropProbe u)
        refine ⟨(hb .uplink).1.trans (congrArg PortUnit.link hport), fun q hq => ((hb q).2 hq).trans (hother q hq), hframe,
          fun h => absurd rfl h, fun _ h => absurd h hh, fun _ _ => ?_, ?_, ?_⟩
        · rw [hprobe]
          simp [dropProbe, setUplink, huplink, hnow]
        · rw [hprobe]
          exact congrArg Uplink.state (a₁ := u.uplink) huplink
        · rw [hprobe]
          exact congrArg Uplink.lostRun (a₁ := u.uplink) huplink
    · rw [if_neg hp]
      exact ⟨congrArg PortUnit.link hport, hother, by simp [onlyChanges_iff, ← hu], fun _ => by simp [← hu], fun h => absurd h hp,
        fun h => absurd h hp, by simp [← hu], by simp [← hu]⟩
  · simp only [after_damagedFrame, receiveDamaged]
    cases h : s.linkIsUp p
    · simp [OnlyChanges.refl]
    · simp only [if_true]
      exact ⟨by simp [onlyChanges_iff], fun _ => rfl, fun h => nomatch h⟩

/-! ### Transmission, admission and offers -/

theorem takeNext_eq_head (u : PortUnit) : (u.takeNext = none ∧ (u.urgent ++ (u.store ++ u.guest)) = []) ∨
    ∃ f v, u.takeNext = some (f, v) ∧ (u.urgent ++ (u.store ++ u.guest)).head? = some f ∧
      v.urgent.length + v.store.length + v.guest.length = u.urgent.length + u.store.length + u.guest.length - 1 := by
  unfold PortUnit.takeNext
  split
  · next f rest h => exact .inr ⟨f, _, rfl, by simp [h], by simp [h]; omega⟩
  · next f rest h h' => exact .inr ⟨f, _, rfl, by simp [h, h'], by simp [h, h']⟩
  · next f rest h h' h'' => exact .inr ⟨f, _, rfl, by simp [h, h', h''], by simp [h, h', h'']⟩
  · next h h' h'' => exact .inl ⟨rfl, by simp [h, h', h'']⟩

/-- Settles O20: the frame's end returns its cells and starts the head of the first queue that is not empty. -/
theorem transmitEnd : Obligations.TransmitEnd := by
  intro p f s htx hup
  refine ⟨_, exec_eq_after _ s, ?_⟩
  simp only [after_transmitEnd]
  refine ⟨by simp [onlyChanges_iff], ?_⟩
  unfold transmitEndStep
  rw [htx]
  dsimp only
  generalize hu : count (occSent p f.cls) (returnCells f.cells (setPort p { s.port p with tx := none } s)) = u
  have hport : u.port p = { s.port p with tx := none } := by simp [← hu]
  have hother : ∀ q, q ≠ p → u.port q = s.port q := fun q hq => by simp [← hu, setPort_port_other _ _ _ _ hq]
  have hfree : u.pool.free = s.pool.free + f.cells := by simp [← hu]
  have hlink : (u.port p).link.isSome ∧ (u.port p).tx = none := by
    rw [hport]
    exact ⟨hup, rfl⟩
  refine ⟨by simp [hfree], by simp [← hu, returnCells], fun q hq => (startTx_port_other p q u hq).trans (hother q hq), ?_⟩
  have hmon : (startTx p u).mon.counters = s.mon.counters.map (fun c =>
      if c.admits ⟨.framesSent, none, some p, some f.cls⟩ then c.add 1 else c) := by
    rw [show (startTx p u).mon = u.mon by simp, ← hu]
    rfl
  rw [← and_assoc]
  refine ⟨?_, hmon⟩
  unfold startTx
  dsimp only
  rw [if_pos hlink]
  obtain ⟨hnone, hempty⟩ | ⟨g, v, hnext, hhead, hlen⟩ := takeNext_eq_head (u.port p)
  · rw [hnone]
    rw [hport] at hempty ⊢
    simp only [List.append_eq_nil_iff] at hempty
    obtain ⟨h1, h2, h3⟩ := hempty
    simp [h1, h2, h3]
  · rw [hnext]
    rw [hport] at hhead hlen
    simp only [setPort_port_same]
    exact ⟨hhead.symm, hlen⟩

/-- Settles O21: a forwarded frame is admitted or discarded, a generated message admitted, discarded or refused. -/
theorem admissionAndOffers : Obligations.AdmissionAndOffers := by
  refine ⟨fun q f s => ?_, fun g m s => ?_⟩
  · dsimp only
    have hfits : (match f.cls with
        | .urgent => f.cells ≤ s.pool.free
        | .store => f.cells + 512 ≤ s.pool.free ∧ (s.port q).classCells .store + f.cells ≤ 2048
        | .guest => f.cells + 512 ≤ s.pool.free ∧ s.pool.guestCells + f.cells ≤ 1024) ↔ admissible q f s = true := by
      unfold admissible
      cases f.cls <;> simp
    have hcells : admissible q f s = true → f.cells ≤ s.pool.free := by
      unfold admissible
      cases f.cls <;> simp <;> omega
    obtain ⟨hl, ha, h⟩ | ⟨hn, h⟩ := offerForwarded_spec q f s <;> rw [h]
    · obtain ⟨hperm, hlink, hother, hfree, -⟩ := enqueue_spec q f s
      refine ⟨fun _ => ⟨?_, hperm.symm.subset List.mem_cons_self, ?_, hother, by simp, by simp [onlyChanges_iff]⟩,
        fun hn => absurd ⟨hl, hfits.2 ha⟩ hn⟩
      · have := hcells ha
        omega
      · have := (hperm.map QFrame.cells).sum_eq
        simp only [cellsOf, List.map_cons, List.sum_cons] at this ⊢
        omega
    · exact ⟨fun h => absurd ⟨h.1, hfits.1 h.2⟩ hn, fun _ => ⟨rfl, by simp [onlyChanges_iff], rfl⟩⟩
  · dsimp only
    obtain ⟨hl, h⟩ | ⟨hl, hc, h⟩ | ⟨hl, hc, h⟩ := offer_spec g m s <;> rw [h]
    · have hne : s.linkIsUp m.port ≠ true := by simp [hl]
      exact ⟨fun _ => ⟨rfl, rfl, rfl⟩, fun h => absurd h hne, fun h => absurd h hne, by simp [onlyChanges_iff]⟩
    · have hne : s.linkIsUp m.port ≠ false := by simp [hl]
      obtain ⟨hperm, -, -, hfree, -⟩ := enqueue_spec m.port ⟨m.frame, .urgent, .generated g m.kind, false⟩ s
      refine ⟨fun h => absurd h hne, fun _ hc' => ⟨rfl, ?_, hperm.symm.subset List.mem_cons_self, by simp⟩,
        fun _ hc' => absurd hc (Nat.not_le.2 hc'), by simp [onlyChanges_iff]⟩
      rw [hfree]
      omega
    · have hne : s.linkIsUp m.port ≠ false := by simp [hl]
      exact ⟨fun h => absurd h hne, fun _ hc' => absurd hc (Nat.not_lt.2 hc'), fun _ _ => rfl, OnlyChanges.refl _ _⟩

end Sys2Proof.Machine

/-! Ordinary frames: what a good source makes of a frame, and the forwarding decision by its gates. -/

namespace Sys2Proof.Machine

/-! ### The port gate and the source -/

/-- A frame past the port gate, as its source is learned (R139, R141). -/
theorem receiveFrame_gated {p : Port} {f : Frame} {s : State} (hr : Receives p false s) (hmin : 64 ≤ frameLength f)
    (hmax : frameLength f ≤ 1522) : receiveFrame ⟨p, f, false⟩ s =
      match learnSource p f.src (gated p s) with
      | .dropped u => u
      | .passed entry u =>
        if f.dst = u.settings.stationAddr then
          if f.etherType = u.settings.branchType then parseBranch p f u
          else count (occDiscard .malformed p none) u
        else if isGroup f.dst then copyGroup p (sourceClass p entry) f u
        else forwardUnicast p entry f u := by
  have hg : s.linkIsUp p = true := hr.resolve_right (by simp)
  simp only [receiveFrame, throughGate, hg, hmin, hmax, and_self, if_true, Bool.or_false] 
  rfl

theorem receiveFrame_dropped {p : Port} {f : Frame} {s u : State} (hr : Receives p false s) (hmin : 64 ≤ frameLength f)
    (hmax : frameLength f ≤ 1522) (hl : learnSource p f.src (gated p s) = .dropped u) : receiveFrame ⟨p, f, false⟩ s = u := by
  rw [receiveFrame_gated hr hmin hmax, hl]

/-- A frame whose source passes and that is not for the part is copied or forwarded (R148, R149). -/
theorem receiveFrame_passed {p : Port} {f : Frame} {s u : State} {entry : Option Station} (hr : Receives p false s)
    (hmin : 64 ≤ frameLength f) (hmax : frameLength f ≤ 1522) (hl : learnSource p f.src (gated p s) = .passed entry u)
    (hd : f.dst ≠ s.settings.stationAddr) : receiveFrame ⟨p, f, false⟩ s =
      if isGroup f.dst then copyGroup p (sourceClass p entry) f u else forwardUnicast p entry f u := by
  have hs : u.settings = s.settings := by
    have h := (learnSource_frame p f.src (gated p s)).2.2.2.2.1
    rw [hl] at h
    exact h
  rw [receiveFrame_gated hr hmin hmax, hl]
  simp only [hs, if_neg hd]

theorem goodSource_iff {a : Addr} {s : State} : GoodSource a s ↔ (isGroup a || a == 0 || a == s.settings.stationAddr) = false := by
  simp [GoodSource, and_assoc]

theorem learnSource_bad {p : Port} {a : Addr} {s : State} (h : ¬GoodSource a s) :
    learnSource p a s = .dropped (count (occDiscard .malformed p none) s) := by
  unfold learnSource
  rw [if_pos (Bool.of_not_eq_false (goodSource_iff.not.1 h))]

theorem learnSource_uplink {a : Addr} {s : State} (h : GoodSource a s) : learnSource .uplink a s = .passed none s := by
  unfold learnSource
  rw [if_neg (Bool.eq_false_iff.1 (goodSource_iff.1 h)), if_pos rfl]

/-- A station known on its segment (R141). -/
theorem learnSource_known {p : Port} {a : Addr} {e : Station} {s : State} (h : GoodSource a s) (hp : p ≠ .uplink) (hk : Known p a e s) :
    learnSource p a s = .passed (some { e with age := 0 }) (putStation { e with age := 0 } s) := by
  obtain ⟨hg, -, hseg⟩ := hk
  unfold learnSource
  rw [if_neg (Bool.eq_false_iff.1 (goodSource_iff.1 h)), if_neg hp, hg]
  simp [hseg]

theorem learnSource_new {p : Port} {a : Addr} {s : State} (h : GoodSource a s) (hp : p ≠ .uplink) (hn : Tbl.get s.stations.table a.toNat = none) :
    learnSource p a s = if p = .guest then learnGuest a s else learnStation p a s := by
  unfold learnSource
  rw [if_neg (Bool.eq_false_iff.1 (goodSource_iff.1 h)), if_neg hp, hn]

/-- A station known on another segment (R142, R143). -/
theorem learnSource_elsewhere {p : Port} {a : Addr} {e : Station} {s : State} (h : GoodSource a s) (hp : p ≠ .uplink)
    (hg : Tbl.get s.stations.table a.toNat = some e) (hseg : e.seg ≠ p) :
    learnSource p a s = if e.loaded then .dropped (misplace p e s) else moveStation p e s := by
  unfold learnSource
  rw [if_neg (Bool.eq_false_iff.1 (goodSource_iff.1 h)), if_neg hp, hg]
  simp [hseg]

/-! ### The forwarding decision -/

/-- The segment a destination is on: the one of its entry, or UPLINK (R148). -/
def egressOf (d : Option Station) : Seg := (d.map (·.seg)).getD .uplink

theorem forwardUnicast_cases (p : Port) (entry : Option Station) (f : Frame) (s : State) :
    let d := Tbl.get s.stations.table f.dst.toNat
    (egressOf d = p → forwardUnicast p entry f s = count (occPort .framesFiltered p) s) ∧
      (egressOf d ≠ p → policyCell s.settings.policy p (egressOf d) = .deny →
        forwardUnicast p entry f s = count (occDiscard .policy p none) s) ∧
      (egressOf d ≠ p → policyCell s.settings.policy p (egressOf d) ≠ .deny →
        forwardUnicast p entry f s = throughGates p (egressOf d) entry d f s) := by
  unfold forwardUnicast egressOf
  dsimp only
  refine ⟨fun h => if_pos h, fun h hd => ?_, fun h hd => ?_⟩
  · rw [if_neg h, hd]
  · rw [if_neg h]
    split
    · next hd' => exact absurd hd' hd
    · rfl

/-- A frame that meets no gate is handed for admission in its egress class (R152). -/
theorem throughGates_plain {p q : Port} {entry d : Option Station} {f : Frame} {s : State}
    (htill : ¬(q = .uplink ∧ sourceClass p entry = some .tillStation)) (hguest : ¬(q = .uplink ∧ entry.map (·.cls) = some .guestClient))
    (hdown : ¬(p = .uplink ∧ d.map (·.cls) = some .guestClient)) : throughGates p q entry d f s =
      offerForwarded q ⟨f, egressClass (sourceClass p entry) (d.map (·.cls)), .forwarded, false⟩ s := by
  unfold throughGates
  dsimp only
  rw [if_neg htill, if_neg hguest, if_neg hdown]
  rfl

/-- A known station's frame that is not for the part (R141, R148, R149). -/
theorem receiveFrame_known {p : Port} {f : Frame} {e : Station} {s : State} (hr : Receives p false s) (hmin : 64 ≤ frameLength f)
    (hmax : frameLength f ≤ 1522) (hg : GoodSource f.src s) (hk : Known p f.src e s) (hp : p ≠ .uplink) (hd : f.dst ≠ s.settings.stationAddr) :
    receiveFrame ⟨p, f, false⟩ s =
      if isGroup f.dst then copyGroup p (some e.cls) f (heard p e s) else forwardUnicast p (some { e with age := 0 }) f (heard p e s) :=
  receiveFrame_passed hr hmin hmax (learnSource_known (s := gated p s) hg hp hk) hd

/-- A good source's frame from UPLINK that is not for the part (R141, R148, R149). -/
theorem receiveFrame_uplink {f : Frame} {s : State} (hr : Receives .uplink false s) (hmin : 64 ≤ frameLength f)
    (hmax : frameLength f ≤ 1522) (hg : GoodSource f.src s) (hd : f.dst ≠ s.settings.stationAddr) :
    receiveFrame ⟨.uplink, f, false⟩ s =
      if isGroup f.dst then copyGroup .uplink none f (gated .uplink s) else forwardUnicast .uplink none f (gated .uplink s) :=
  receiveFrame_passed hr hmin hmax (learnSource_uplink (s := gated .uplink s) hg) hd

/-- What a lookup finds after a known source's age is set: what it found before, but for the age of the source itself. -/
theorem heard_get (p : Port) (e : Station) (s : State) (k : Nat) : Tbl.get (heard p e s).stations.table k =
    if k = e.addr.toNat then some { e with age := 0 } else Tbl.get s.stations.table k := Tbl.get_put _ _ _ _

theorem heard_frame (p : Port) (e : Station) (s : State) : OnlyChanges [.pool, .stations, .monitor] s (heard p e s) := by
  simp [onlyChanges_iff, heard, gated, lightPort]

/-- A change of few blocks after another of few. -/
theorem OnlyChanges.trans {bs : List Block} {s t u : State} (h : OnlyChanges bs s t) (k : OnlyChanges bs t u) : OnlyChanges bs s u := by
  obtain ⟨hp, hc, hb⟩ := h
  obtain ⟨kp, kc, kb⟩ := k
  refine ⟨kp.trans hp, kc.trans hc, fun b hn => ?_⟩
  have h1 := hb b hn
  have h2 := kb b hn
  cases b <;> exact Eq.trans h2 h1

theorem OnlyChanges.mono {bs cs : List Block} {s t : State} (h : OnlyChanges bs s t) (hsub : ∀ b ∈ bs, b ∈ cs) : OnlyChanges cs s t :=
  ⟨h.1, h.2.1, fun b hn => h.2.2 b fun hb => hn (hsub b hb)⟩

/-- The blocks that forwarding with no guest's charge writes. -/
abbrev forwardingBlocks : List Block := [.pool, .stations, .monitor]

theorem count_frame_forwarding (o : Occ) (s : State) : OnlyChanges forwardingBlocks s (count o s) := by simp [onlyChanges_iff]

theorem offerForwarded_frame_forwarding (q : Port) (f : QFrame) (s : State) : OnlyChanges forwardingBlocks s (offerForwarded q f s) := by
  simp [onlyChanges_iff]

/-- The frame of a known source's frame, from what becomes of it. -/
theorem known_frame {p : Port} {e : Station} {s t : State} (h : OnlyChanges forwardingBlocks (heard p e s) t) :
    OnlyChanges [.pool, .stations, .monitor] s t := (heard_frame p e s).trans h

/-- Settles O22: past the source and the policy cell no gate holds a frame between two segments that are not UPLINK. -/
theorem ordinaryFrameForwarded : Obligations.OrdinaryFrameForwarded := by
  intro p q f e d s hr hmin hmax hg hk hgroup hdst hkd hpq hp hq
  refine ⟨_, exec_eq_after _ s, ?_⟩
  rw [after_ordinaryFrame, receiveFrame_known hr hmin hmax hg hk hp hdst, if_neg (by simp [hgroup])]
  have hne : f.dst.toNat ≠ e.addr.toNat := fun h => by
    obtain ⟨hge, hae, hse⟩ := hk
    obtain ⟨hgd, -, hsd⟩ := hkd
    rw [h, hae, hge] at hgd
    cases hgd
    exact hpq (hse.symm.trans hsd)
  have hget : Tbl.get (heard p e s).stations.table f.dst.toNat = some d := by rw [heard_get, if_neg hne, hkd.1]
  have heg : egressOf (some d) = q := hkd.2.2
  obtain ⟨-, hdeny, hpass⟩ := forwardUnicast_cases p (some { e with age := 0 }) f (heard p e s)
  rw [hget, heg] at hdeny hpass
  have hpass' : policyCell s.settings.policy p q ≠ .deny → forwardUnicast p (some { e with age := 0 }) f (heard p e s) =
      offerForwarded q ⟨f, if e.cls = .tillStation ∨ d.cls = .tillStation then .urgent
        else if e.cls = .guestClient ∨ d.cls = .guestClient then .guest else .store, .forwarded, false⟩ (heard p e s) := fun h => by
    rw [hpass (Ne.symm hpq) h, throughGates_plain (by simp [hq]) (by simp [hq]) (by simp [hp])]
    simp [egressClass, sourceClass]
  by_cases hcell : policyCell s.settings.policy p q = .deny
  · rw [hdeny (Ne.symm hpq) hcell]
    exact ⟨known_frame (count_frame_forwarding _ _), rfl, fun _ => rfl, fun h => absurd hcell h⟩
  · rw [hpass' hcell]
    exact ⟨known_frame (offerForwarded_frame_forwarding _ _ _), by simp, fun h => absurd h hcell, fun _ => rfl⟩

/-! ### The gates to UPLINK -/

theorem chargeUp_passes {g : GuestRec} {n : Nat} {s : State} (h : s.guest.rate ≠ 0 ∧ n ≤ g.level ∧ n ≤ s.guest.level) :
    chargeUp g n s = (true, { s with guest := { s.guest with
      table := Tbl.put s.guest.table g.addr.toNat { g with level := g.level - n, bytesUp := min maxBytes (g.bytesUp + n) }
      level := s.guest.level - n } }) := by
  unfold chargeUp
  rw [if_neg h.1, if_pos h.2]
  rfl

theorem chargeUp_refused {g : GuestRec} {n : Nat} {s : State} (h : ¬(s.guest.rate ≠ 0 ∧ n ≤ g.level ∧ n ≤ s.guest.level)) :
    chargeUp g n s = (false, shapeAway .uplink g s) := by
  unfold chargeUp
  by_cases hr : s.guest.rate = 0
  · rw [if_pos hr]
  · rw [if_neg hr, if_neg fun h' => h ⟨hr, h'⟩]

/-- Where a known station's frame to an address not known meets the policy cell of UPLINK (R148, R150). -/
theorem forwardUnicast_unknown {p : Port} {e : Station} {f : Frame} {s : State} (hk : Known p f.src e s) (hp : p ≠ .uplink)
    (hn : Tbl.get s.stations.table f.dst.toNat = none) (hcell : policyCell s.settings.policy p .uplink ≠ .deny) :
    forwardUnicast p (some { e with age := 0 }) f (heard p e s) =
      throughGates p .uplink (some { e with age := 0 }) none f (heard p e s) := by
  have hne : f.dst.toNat ≠ e.addr.toNat := fun h => by
    rw [h, hk.2.1, hk.1] at hn
    cases hn
  have hget : Tbl.get (heard p e s).stations.table f.dst.toNat = none := by rw [heard_get, if_neg hne, hn]
  obtain ⟨-, -, hpass⟩ := forwardUnicast_cases p (some { e with age := 0 }) f (heard p e s)
  rw [hget] at hpass
  exact hpass (Ne.symm hp) hcell

theorem gated_port_other {p q : Port} (h : q ≠ p) (s : State) : (gated p s).port q = s.port q :=
  setPort_port_other _ _ _ _ h

/-- The payment gate (R43). -/
theorem throughGates_payment {entry d : Option Station} {f : Frame} {s : State} (he : sourceClass .till entry = some .tillStation) :
    throughGates .till .uplink entry d f s =
      if s.online then offerForwarded .uplink ⟨f, .urgent, .forwarded, true⟩ s else count (occDiscard .heldBack .uplink none) s := by
  unfold throughGates
  dsimp only
  rw [if_pos ⟨rfl, he⟩, he]
  rfl

/-- An upstream guest frame (R176). -/
theorem throughGates_upstream {e : Station} {f : Frame} {g : GuestRec} {s : State} (he : e.cls = .guestClient)
    (hg : Tbl.get s.guest.table f.src.toNat = some g) :
    throughGates .guest .uplink (some e) none f s =
      if (chargeUp g (frameLength f) s).1 then offerForwarded .uplink ⟨f, .guest, .forwarded, false⟩ (chargeUp g (frameLength f) s).2
      else (chargeUp g (frameLength f) s).2 := by
  unfold throughGates
  dsimp only
  rw [if_neg (by simp [sourceClass, he]), if_pos (by simp [he]), hg]
  simp [sendOn, egressClass, sourceClass, he]

/-- Settles O23: the gates of a till's and of a guest's frame to UPLINK. -/
theorem gatesToUplink : Obligations.GatesToUplink := by
  refine ⟨fun f e s hr hmin hmax hg hk he hgroup hdst hn hcell => ⟨_, exec_eq_after _ s, ?_⟩,
    fun f e g s hr hmin hmax hg hk he hget ha hgroup hdst hn hcell => ⟨_, exec_eq_after _ s, ?_⟩⟩
  · rw [after_ordinaryFrame, receiveFrame_known hr hmin hmax hg hk (by decide) hdst, if_neg (by simp [hgroup]),
      forwardUnicast_unknown hk (by decide) hn hcell, throughGates_payment (by simp [sourceClass, he])]
    have hon : (heard .till e s).online = s.online := rfl
    rw [hon]
    by_cases h : s.online = true
    · have hoff : ¬(s.uplink.state = .fallback ∨ s.uplink.state = .recovering) := fun h' => by
        obtain h' | h' := h' <;> simp [State.online, h'] at h
      rw [if_pos h]
      exact ⟨known_frame (offerForwarded_frame_forwarding _ _ _), fun _ => rfl, fun h' => absurd h' hoff⟩
    · have hoff : ¬(s.uplink.state = .up ∨ s.uplink.state = .degraded) := fun h' => h (by simpa [State.online] using h')
      rw [if_neg h]
      exact ⟨known_frame (count_frame_forwarding _ _), fun h' => absurd h' hoff, fun _ => rfl⟩
  · have ht : receiveFrame ⟨.guest, f, false⟩ s = if (chargeUp g (frameLength f) (heard .guest e s)).1 then
        offerForwarded .uplink ⟨f, .guest, .forwarded, false⟩ (chargeUp g (frameLength f) (heard .guest e s)).2
        else (chargeUp g (frameLength f) (heard .guest e s)).2 := by
      rw [receiveFrame_known hr hmin hmax hg hk (by decide) hdst, if_neg (by simp [hgroup]), forwardUnicast_unknown hk (by decide) hn hcell]
      exact throughGates_upstream (e := { e with age := 0 }) (s := heard .guest e s) he hget
    rw [after_ordinaryFrame, ht]
    by_cases h : s.guest.rate ≠ 0 ∧ frameLength f ≤ g.level ∧ frameLength f ≤ s.guest.level
    · rw [chargeUp_passes (s := heard .guest e s) h, ha, if_pos rfl]
      refine ⟨?_, ⟨fun _ => rfl, fun hn => absurd h hn⟩, fun _ => ?_, fun hn => absurd h hn⟩
      · simp [onlyChanges_iff, heard, gated, lightPort]
      · simp only [offerForwarded_frame]
        exact ⟨rfl, Tbl.get_put_same _ _ _⟩
    · rw [chargeUp_refused (s := heard .guest e s) h, if_neg (by simp)]
      have hshape : shapeAway .uplink g (heard .guest e s) = count (occDiscard .guestShaping .uplink (some .guest))
          { heard .guest e s with guest := { s.guest with
            table := Tbl.put s.guest.table f.src.toNat { g with discarded := min 4294967295 (g.discarded + 1) } } } := by
        rw [← ha]
        rfl
      rw [hshape]
      refine ⟨?_, ⟨fun h' => absurd h' h, fun _ => rfl⟩, fun h' => absurd h' h, fun _ => ⟨rfl, fun q hq => ?_, Tbl.get_put_same _ _ _⟩⟩
      · simp [onlyChanges_iff, heard, gated, lightPort]
      · exact gated_port_other hq s

/-! ### Frames of known stations, and frames from UPLINK -/

theorem copyGroup_frame_forwarding (p : Port) (c : Option StationClass) (f : Frame) (s : State) :
    OnlyChanges forwardingBlocks s (copyGroup p c f s) := by simp [onlyChanges_iff]

/-- The copies of a group frame, written out (R149, R152). -/
theorem copyGroup_eq {p : Port} {c : Option StationClass} {f : Frame} {s : State} {cls : Cls} (hc : egressClass c none = cls) :
    copyGroup p c f s = ([Seg.till, .label, .guest, .office].filter (fun q => q != p && policyCell s.settings.policy p q == .permit)).foldl
      (fun v q => offerForwarded q ⟨f, cls, .forwarded, false⟩ v) s := by
  subst hc
  rfl

/-- A destination is looked up alike before and after the source's age is set. -/
theorem heard_destination {p : Port} {a : Addr} {e : Station} {s : State} (hk : Known p a e s) (k : Nat) :
    egressOf (Tbl.get (heard p e s).stations.table k) = egressOf (Tbl.get s.stations.table k) ∧
      (Tbl.get (heard p e s).stations.table k).map (·.cls) = (Tbl.get s.stations.table k).map (·.cls) := by
  rw [heard_get]
  split
  · next h =>
    rw [h, hk.2.1, hk.1]
    exact ⟨rfl, rfl⟩
  · exact ⟨rfl, rfl⟩

/-- Settles O24: a frame of a known station that meets no gate is filtered, denied, sent on, or copied. -/
theorem filteredSentAndCopied : Obligations.FilteredSentAndCopied := by
  intro p f e s hr hmin hmax hg hk hp hdst
  refine ⟨fun d hgroup hd htill hguest => ?_, fun hgroup => ⟨_, exec_eq_after _ s, ?_⟩⟩
  · intro q
    have hq : q = egressOf d := by cases d <;> rfl
    clear_value q
    subst hq hd
    refine ⟨_, exec_eq_after _ s, ?_⟩
    rw [after_ordinaryFrame, receiveFrame_known hr hmin hmax hg hk hp hdst, if_neg (by simp [hgroup])]
    obtain ⟨heg, hcls⟩ := heard_destination hk f.dst.toNat
    obtain ⟨hfilter, hdeny, hpass⟩ := forwardUnicast_cases p (some { e with age := 0 }) f (heard p e s)
    rw [heg] at hfilter hdeny hpass
    generalize egressOf (Tbl.get s.stations.table f.dst.toNat) = q at hfilter hdeny hpass ⊢
    rw [← hcls]
    by_cases hqp : q = p
    · rw [hfilter hqp]
      exact ⟨known_frame (count_frame_forwarding _ _), fun _ => rfl, fun h => absurd hqp h, fun h => absurd hqp h⟩
    by_cases hcell : policyCell s.settings.policy p q = .deny
    · rw [hdeny hqp hcell]
      exact ⟨known_frame (count_frame_forwarding _ _), fun h => absurd h hqp, fun _ _ => rfl, fun _ h => absurd hcell h⟩
    · rw [hpass hqp hcell, throughGates_plain (by simp [sourceClass, htill]) (by simp [hguest]) (by simp [hp])]
      refine ⟨known_frame (offerForwarded_frame_forwarding _ _ _), fun h => absurd h hqp, fun _ h => absurd h hcell, fun _ _ => ?_⟩
      simp [egressClass, sourceClass, htill, hguest]
  · rw [after_ordinaryFrame, receiveFrame_known hr hmin hmax hg hk hp hdst, if_pos hgroup]
    refine ⟨known_frame (copyGroup_frame_forwarding _ _ _ _), copyGroup_eq ?_⟩
    simp [egressClass]

/-! ### Frames from UPLINK -/

theorem gated_frame (bs : List Block) (hpool : .pool ∈ bs) (hmon : .monitor ∈ bs) (p : Port) (s : State) : OnlyChanges bs s (gated p s) := by
  simp [onlyChanges_iff, gated, lightPort, hpool, hmon]

theorem chargeDown_passes {g : GuestRec} {n : Nat} {s : State} (h : n ≤ g.level) :
    chargeDown g n s = (true, { s with guest := { s.guest with
      table := Tbl.put s.guest.table g.addr.toNat { g with level := g.level - n, bytesDown := min maxBytes (g.bytesDown + n) } } }) := by
  unfold chargeDown
  rw [if_pos h]
  rfl

theorem chargeDown_refused {g : GuestRec} {n : Nat} {s : State} (h : g.level < n) : chargeDown g n s = (false, shapeAway .guest g s) := by
  unfold chargeDown
  rw [if_neg (Nat.not_le.2 h)]

/-- A frame from UPLINK for a guest (R177). -/
theorem throughGates_downstream {q : Port} {d : Station} {f : Frame} {g : GuestRec} {s : State} (hq : q ≠ .uplink)
    (hd : d.cls = .guestClient) (hg : Tbl.get s.guest.table f.dst.toNat = some g) :
    throughGates .uplink q none (some d) f s =
      if (chargeDown g (frameLength f) s).1 then offerForwarded q ⟨f, .guest, .forwarded, false⟩ (chargeDown g (frameLength f) s).2
      else (chargeDown g (frameLength f) s).2 := by
  unfold throughGates
  dsimp only
  rw [if_neg (by simp [hq]), if_neg (by simp), if_pos (by simp [hd]), hg]
  simp [sendOn, egressClass, sourceClass, hd]

/-- Settles O25: the source of a frame from UPLINK is not learned; its destination decides. -/
theorem framesFromUplink : Obligations.FramesFromUplink := by
  intro f s hr hmin hmax hg hdst
  refine ⟨_, exec_eq_after _ s, ?_⟩
  rw [after_ordinaryFrame, receiveFrame_uplink hr hmin hmax hg hdst]
  have hgate : ∀ t, OnlyChanges [.pool, .guest, .monitor] (gated .uplink s) t → OnlyChanges [.pool, .guest, .monitor] s t := fun t h =>
    (gated_frame _ (by simp) (by simp) .uplink s).trans h
  refine ⟨?_, fun hgroup => ?_, fun hgroup hn => ?_, fun q d hgroup hk => ?_⟩
  · split
    · exact hgate _ (by simp [onlyChanges_iff])
    · exact hgate _ (by simp [onlyChanges_iff])
  · rw [if_pos hgroup, copyGroup_eq (cls := .store) (by simp [egressClass])]
    congr 1
  · obtain ⟨hfilter, -, -⟩ := forwardUnicast_cases .uplink none f (gated .uplink s)
    rw [if_neg (by simp [hgroup])]
    exact hfilter (by rw [show Tbl.get (gated .uplink s).stations.table f.dst.toNat = none from hn]; rfl)
  · rw [if_neg (by simp [hgroup])]
    obtain ⟨hget, -, hseg⟩ := hk
    obtain ⟨hfilter, hdeny, hpass⟩ := forwardUnicast_cases .uplink none f (gated .uplink s)
    have heg : egressOf (Tbl.get (gated .uplink s).stations.table f.dst.toNat) = q := by
      rw [show Tbl.get (gated .uplink s).stations.table f.dst.toNat = some d from hget]
      exact hseg
    rw [heg] at hfilter hdeny hpass
    rw [show Tbl.get (gated .uplink s).stations.table f.dst.toNat = some d from hget] at hpass
    refine ⟨hfilter, fun hq hc => hdeny hq hc, fun hq hc hcls => ?_, fun g hq hc hcls hgg ha => ?_⟩
    · rw [hpass hq hc, throughGates_plain (by simp [hq]) (by simp) (by simp [hcls])]
      simp [egressClass, sourceClass, hcls]
    · rw [hpass hq hc, throughGates_downstream (s := gated .uplink s) hq hcls hgg]
      refine ⟨fun hl => ?_, fun hl => ?_⟩
      · rw [chargeDown_passes (s := gated .uplink s) hl, ha]
        rfl
      · rw [chargeDown_refused (s := gated .uplink s) hl, if_neg (by simp), ← ha]
        rfl

/-! ### New and moving sources -/

theorem learnedClass_eq {p : Port} (hp : p = .till ∨ p = .label ∨ p = .office) :
    learnedClass p = if p = .till then .tillStation else if p = .office then .officeStation else .other := by
  obtain rfl | rfl | rfl := hp <;> rfl

/-- What a new address on GUEST comes to (R169). -/
theorem learnGuest_cases (a : Addr) (s : State) :
    (s.guest.coolOff.any (fun c => c.1 == a) = true → learnGuest a s = .dropped (count (occDiscard .coolOff .guest none) s)) ∧
      (s.guest.coolOff.any (fun c => c.1 == a) = false → 512 ≤ s.guest.table.length ∨ 2048 ≤ s.stations.table.length →
        learnGuest a s = .dropped (count (occ .learningRefusals) (count (occDiscard .guestShaping .guest (some .guest)) s))) ∧
      (s.guest.coolOff.any (fun c => c.1 == a) = false → s.guest.table.length < 512 → s.stations.table.length < 2048 →
        learnGuest a s = .passed (some ⟨a, .guest, .guestClient, false, 0, false⟩)
          (putGuest ⟨a, s.settings.lease, s.settings.clientDepth, 0, 0, 0, 0⟩ (putStation ⟨a, .guest, .guestClient, false, 0, false⟩ s))) := by
  unfold learnGuest
  refine ⟨fun h => if_pos h, fun h hf => ?_, fun h hg hs => ?_⟩
  · rw [if_neg (by simp [h]), if_pos hf]
  · rw [if_neg (by simp [h]), if_neg (by omega)]

/-- A frame of a source that is no guest client, not from UPLINK, charges nothing. -/
theorem forwardUnicast_uncharged {p : Port} {e : Station} (f : Frame) (s : State) (hp : p ≠ .uplink) (he : e.cls ≠ .guestClient) :
    OnlyChanges [.pool, .monitor] s (forwardUnicast p (some e) f s) := by
  obtain ⟨hfilter, hdeny, hpass⟩ := forwardUnicast_cases p (some e) f s
  generalize Tbl.get s.stations.table f.dst.toNat = d at hfilter hdeny hpass
  by_cases hq : egressOf d = p
  · rw [hfilter hq]
    simp [onlyChanges_iff]
  by_cases hc : policyCell s.settings.policy p (egressOf d) = .deny
  · rw [hdeny hq hc]
    simp [onlyChanges_iff]
  · rw [hpass hq hc]
    unfold throughGates
    dsimp only
    split
    · split <;> simp [onlyChanges_iff]
    · rw [if_neg (by simp [he]), if_neg (by simp [hp])]
      simp [onlyChanges_iff]

theorem copyGroup_uncharged (p : Port) (c : Option StationClass) (f : Frame) (s : State) :
    OnlyChanges [.pool, .monitor] s (copyGroup p c f s) := by simp [onlyChanges_iff]

/-- Settles O27: a new address is learned, turned away, or admitted as a guest. -/
theorem newSources : Obligations.NewSources := by
  refine ⟨fun p f s hp hr hmin hmax hg hn hdst hroom => ⟨_, exec_eq_after _ s, ?_⟩,
    fun f s hr hmin hmax hg hn hgroup hdst => ⟨_, exec_eq_after _ s, ?_⟩⟩
  · have hup : p ≠ .uplink := by obtain rfl | rfl | rfl := hp <;> decide
    have hguest : p ≠ .guest := by obtain rfl | rfl | rfl := hp <;> decide
    have hl : learnSource p f.src (gated p s) = .passed (some ⟨f.src, p, learnedClass p, false, 0, false⟩)
        (putStation ⟨f.src, p, learnedClass p, false, 0, false⟩ (gated p s)) := by
      rw [learnSource_new (s := gated p s) hg hup hn, if_neg hguest]
      exact if_pos hroom
    rw [after_ordinaryFrame, receiveFrame_passed hr hmin hmax hl hdst]
    generalize hu : putStation ⟨f.src, p, learnedClass p, false, 0, false⟩ (gated p s) = u
    have hframe : OnlyChanges [.pool, .stations, .monitor] s u := by simp [onlyChanges_iff, ← hu, gated, lightPort]
    have hnext : ∀ t, OnlyChanges [.pool, .monitor] u t → OnlyChanges [.pool, .stations, .monitor] s t ∧
        Tbl.get t.stations.table f.src.toNat = some ⟨f.src, p,
          if p = .till then .tillStation else if p = .office then .officeStation else .other, false, 0, false⟩ ∧
        ∀ k, k ≠ f.src.toNat → Tbl.get t.stations.table k = Tbl.get s.stations.table k := fun t ht => by
      have hst : t.stations = u.stations := ht.2.2 .stations (by simp)
      rw [hst, ← hu]
      refine ⟨hframe.trans (ht.mono (by simp)), ?_, fun k hk => Tbl.get_put_other _ _ _ _ hk⟩
      rw [← learnedClass_eq hp]
      exact Tbl.get_put_same _ _ _
    split
    · exact hnext _ (copyGroup_uncharged _ _ _ _)
    · exact hnext _ (forwardUnicast_uncharged f u hup (learnedClass_ne_guest hguest))
  · rw [after_ordinaryFrame]
    obtain ⟨hcool, hfull, hin⟩ := learnGuest_cases f.src (gated .guest s)
    have hlearn := learnSource_new (p := .guest) (s := gated .guest s) hg (by decide) hn
    rw [if_pos rfl] at hlearn
    by_cases hc : s.guest.coolOff.any (fun c => c.1 == f.src) = true
    · rw [receiveFrame_dropped hr hmin hmax (hlearn.trans (hcool hc))]
      have hne : ¬s.guest.coolOff.any (fun c => c.1 == f.src) = false := by simp [hc]
      exact ⟨by simp [onlyChanges_iff, gated, lightPort], fun _ => rfl, fun h => absurd h hne, fun h => absurd h hne⟩
    have hc' : s.guest.coolOff.any (fun c => c.1 == f.src) = false := Bool.eq_false_iff.2 hc
    by_cases hf : 512 ≤ s.guest.table.length ∨ 2048 ≤ s.stations.table.length
    · rw [receiveFrame_dropped hr hmin hmax (hlearn.trans (hfull hc' hf))]
      exact ⟨by simp [onlyChanges_iff, gated, lightPort], fun h => absurd h hc, fun _ _ => ⟨rfl, rfl⟩, fun _ _ _ => by omega⟩
    · have hg' : s.guest.table.length < 512 := Nat.lt_of_not_le fun h => hf (.inl h)
      have hs' : s.stations.table.length < 2048 := Nat.lt_of_not_le fun h => hf (.inr h)
      rw [receiveFrame_passed hr hmin hmax (hlearn.trans (hin hc' hg' hs')) hdst, if_pos hgroup]
      generalize hu : putGuest _ (putStation _ (gated .guest s)) = u
      have hframe : OnlyChanges [.pool, .stations, .guest, .monitor] s u := by simp [onlyChanges_iff, ← hu, gated, lightPort]
      have hcopy := copyGroup_uncharged .guest (sourceClass .guest (some ⟨f.src, .guest, .guestClient, false, 0, false⟩)) f u
      refine ⟨hframe.trans (hcopy.mono (by simp)), fun h => absurd h hc, fun _ h => absurd h hf, fun _ _ _ => ?_⟩
      rw [show (copyGroup .guest _ f u).stations = u.stations from hcopy.2.2 .stations (by simp),
        show (copyGroup .guest _ f u).guest = u.guest from hcopy.2.2 .guest (by simp), ← hu]
      exact ⟨Tbl.get_put_same _ _ _, Tbl.get_put_same _ _ _⟩

/-- Settles O26: a LEARNED entry moves with its station or comes to GUEST as a new address; a LOADED one is misplaced. -/
theorem movedAndMisplacedSources : Obligations.MovedAndMisplacedSources := by
  refine ⟨fun p f e s hp hr hmin hmax hg hk hseg hl hdst => ?_, fun f e s hr hmin hmax hg hk hseg hcls hl hgroup hdst hlen => ?_,
    fun p f e s hr hmin hmax hg hk hp hseg hl => ?_, fun p f s hr hmin hmax hg => ?_⟩
  · intro moved counted u
    refine ⟨_, exec_eq_after _ s, ?_⟩
    obtain ⟨hget, haddr, -⟩ := hk
    have hup : p ≠ .uplink := by obtain rfl | rfl | rfl := hp <;> decide
    have hguest : p ≠ .guest := by obtain rfl | rfl | rfl := hp <;> decide
    have hlearn : learnSource p f.src (gated p s) = .passed (some moved) u := by
      rw [learnSource_elsewhere (s := gated p s) hg hup hget hseg, if_neg (by simp [hl])]
      unfold moveStation
      dsimp only
      rw [if_neg hguest, learnedClass_eq hp]
      by_cases hcls : e.cls = .guestClient
      · simp only [if_pos hcls, u, moved, counted, ← haddr]
        rfl
      · simp only [if_neg hcls, u, moved, counted]
        rfl
    have hmoved : moved.cls ≠ .guestClient := by
      have : moved.cls = learnedClass p := (learnedClass_eq hp).symm
      rw [this]
      exact learnedClass_ne_guest hguest
    have hframe : OnlyChanges [.pool, .stations, .guest, .monitor] s u := by simp [onlyChanges_iff, u, counted, gated, lightPort]
    have ht : OnlyChanges [.pool, .monitor] u
        (if isGroup f.dst then copyGroup p (some moved.cls) f u else forwardUnicast p (some moved) f u) := by
      split
      · exact copyGroup_uncharged _ _ _ _
      · exact forwardUnicast_uncharged f u hup hmoved
    have hst : u.stations.table = Tbl.put s.stations.table f.src.toNat moved := by
      rw [← haddr]
      rfl
    rw [after_ordinaryFrame, receiveFrame_passed hr hmin hmax hlearn hdst, show sourceClass p (some moved) = some moved.cls from rfl]
    refine ⟨hframe.trans (ht.mono (by simp)), ht.2.2 .stations (by simp), ht.2.2 .guest (by simp), ?_, fun k hkey => ?_, rfl⟩
    · rw [show State.stations _ = u.stations from ht.2.2 .stations (by simp), hst]
      exact Tbl.get_put_same _ _ _
    · rw [show State.stations _ = u.stations from ht.2.2 .stations (by simp), hst]
      exact Tbl.get_put_other _ _ _ _ hkey
  · intro cool fresh
    refine ⟨_, exec_eq_after _ s, ?_⟩
    obtain ⟨hget, haddr, -⟩ := hk
    generalize hv : dropStation e (count (occ .stationMoves) (gated .guest s)) = v
    have hstations : v.stations = { s.stations with table := Tbl.del s.stations.table f.src.toNat } := by
      rw [← hv, ← haddr]
      unfold dropStation
      dsimp only
      rw [if_neg hcls]
      rfl
    have hguest : v.guest = s.guest := by
      rw [← hv]
      unfold dropStation
      dsimp only
      rw [if_neg hcls]
      rfl
    have hports : ∀ q : Port, q ≠ .guest → v.port q = s.port q := fun q hq => by
      rw [← hv, port_of_pool (s := gated .guest s) (by simp)]
      exact gated_port_other hq s
    have hsettings : v.settings = s.settings := by simp [← hv, gated, lightPort]
    have hframe : OnlyChanges [.pool, .stations, .guest, .monitor] s v := by simp [onlyChanges_iff, ← hv, gated, lightPort]
    have hroom : v.stations.table.length < 2048 := by
      rw [hstations]
      have hlt : (Tbl.del s.stations.table f.src.toNat).length < s.stations.table.length :=
        List.length_filter_lt_length_iff_exists.2 ⟨_, Tbl.mem_of_get hget, by simp⟩
      exact Nat.lt_of_lt_of_le hlt hlen
    have hlearn : learnSource .guest f.src (gated .guest s) = learnGuest f.src v := by
      rw [learnSource_elsewhere (p := .guest) (s := gated .guest s) hg (by decide) hget hseg, if_neg (by simp [hl]), ← hv, ← haddr]
      rfl
    obtain ⟨hcool, hfull, hin⟩ := learnGuest_cases f.src v
    rw [hguest] at hcool hfull hin
    rw [after_ordinaryFrame]
    have hturned : cool = true ∨ 512 ≤ s.guest.table.length → ∃ t, receiveFrame ⟨.guest, f, false⟩ s = t ∧ OnlyChanges [.monitor] v t := by
      rintro h
      by_cases hc : cool = true
      · exact ⟨_, receiveFrame_dropped hr hmin hmax (hlearn.trans (hcool hc)), by simp [onlyChanges_iff]⟩
      · have hc' : cool = false := by simpa using hc
        exact ⟨_, receiveFrame_dropped hr hmin hmax (hlearn.trans (hfull hc' (.inl (h.resolve_left hc)))), by simp [onlyChanges_iff]⟩
    by_cases h : cool = true ∨ 512 ≤ s.guest.table.length
    · obtain ⟨t, ht, hc⟩ := hturned h
      rw [ht]
      refine ⟨hframe.trans (hc.mono (by simp)), fun _ => ⟨(hc.2.2 .stations (by simp)).trans hstations,
        (hc.2.2 .guest (by simp)).trans hguest, fun q hq => ?_⟩, fun hc' hg' => ?_⟩
      · rw [port_of_pool (hc.2.2 .pool (by simp))]
        exact hports q hq
      · obtain h | h := h
        · simp [hc'] at h
        · omega
    · obtain ⟨hc, hg'⟩ := not_or.1 h
      have hc' : cool = false := by simpa using hc
      rw [receiveFrame_passed hr hmin hmax (hlearn.trans (hin hc' (Nat.lt_of_not_le hg') hroom)) hdst, if_pos hgroup]
      generalize hu : putGuest _ (putStation _ v) = u
      have hcopy := copyGroup_uncharged .guest (sourceClass .guest (some ⟨f.src, .guest, .guestClient, false, 0, false⟩)) f u
      have hvu : OnlyChanges [.pool, .stations, .guest, .monitor] v u := by simp [onlyChanges_iff, ← hu]
      refine ⟨(hframe.trans hvu).trans (hcopy.mono (by simp)), fun h' => absurd h' h, fun _ _ => ?_⟩
      rw [show (copyGroup .guest _ f u).stations = u.stations from hcopy.2.2 .stations (by simp),
        show (copyGroup .guest _ f u).guest = u.guest from hcopy.2.2 .guest (by simp), ← hu]
      refine ⟨Tbl.get_put_same _ _ _, ?_⟩
      simp only [putGuest, setGuest, putStation, setStations, hguest, hsettings, fresh]
  · intro u
    refine ⟨_, exec_eq_after _ s, ?_⟩
    have hlearn := learnSource_elsewhere (s := gated p s) hg hp hk.1 hseg
    rw [if_pos hl] at hlearn
    rw [after_ordinaryFrame, receiveFrame_dropped hr hmin hmax hlearn]
    have hmis : misplace p e (gated p s) = if e.misplaced then u else
        raiseNotice (.stationMisplaced f.src e.seg e.cls p) (putStation { e with misplaced := true } u) := by
      rw [← hk.2.1]
      rfl
    have hu : OnlyChanges [.pool, .stations, .monitor, .management] s u := by simp [onlyChanges_iff, u, gated, lightPort]
    rw [hmis]
    by_cases hm : e.misplaced = true
    · rw [if_pos hm]
      exact ⟨hu, fun _ => rfl, fun h => absurd hm (by simp [h])⟩
    · rw [if_neg hm]
      exact ⟨hu.trans (by simp [onlyChanges_iff]), fun h => absurd h hm, fun _ => rfl⟩
  · rw [exec_eq_after, after_ordinaryFrame, receiveFrame_dropped hr hmin hmax (learnSource_bad (s := gated p s) hg)]
    rfl

end Sys2Proof.Machine

/-! Branch messages: what each kind does once it has passed the gate and its checks. -/

namespace Sys2Proof.Machine

/-! ### From the port gate to the owner -/

/-- The checks that a message which arrives in full leaves: its source and its segment (R141, R146, R147). -/
theorem receiveBranch_gated {k : MsgKind} {m : BranchArrival} {s : State} (h : Arrives m k s) : receiveBranch k m s =
    match learnSource m.port m.src (gated m.port s) with
    | .dropped u => u
    | .passed _ u => checkBranch k m.port m.src m.bodyLength.toNat m.bytes u := by
  obtain ⟨hr, hmin, hmax, -⟩ := h
  have hgate : (s.linkIsUp m.port || m.beforeLoss) = true := by simpa [Receives] using hr
  simp only [receiveBranch, throughGate, hgate, hmin, hmax, and_self, if_true]
  rfl

/-- A message of an accepted kind and a whole body reaches its owner (R146, R147). -/
theorem checkBranch_arrived {k : MsgKind} {m : BranchArrival} {s u : State} (h : Arrives m k s) (ha : accepted k m.port u = true) :
    checkBranch k m.port m.src m.bodyLength.toNat m.bytes u = toOwner k m.port m.src (bodyOf m) u := by
  obtain ⟨-, -, -, -, ⟨least, hk, hle⟩, hwhole⟩ := h
  have hlen : ¬(m.bodyLength.toNat < least ∨ m.bytes.length < m.bodyLength.toNat) := by omega
  simp only [checkBranch, hk, ha, Bool.true_eq_false, if_false, if_neg hlen]
  rfl

/-- A known station's message of an accepted kind (R141, R147). -/
theorem receiveBranch_known {k : MsgKind} {m : BranchArrival} {e : Station} {s : State} (h : Arrives m k s) (hp : m.port ≠ .uplink)
    (hk : Known m.port m.src e s) (ha : accepted k m.port s = true) :
    receiveBranch k m s = toOwner k m.port m.src (bodyOf m) (heard m.port e s) := by
  rw [receiveBranch_gated h, learnSource_known (s := gated m.port s) h.2.2.2.1 hp hk]
  exact checkBranch_arrived h ha

/-- Head office's message (R141, R147). -/
theorem receiveBranch_office {k : MsgKind} {m : BranchArrival} {s : State} (h : FromHeadOffice m k s)
    (ha : s.settings.headOffice ≠ 0 → accepted k .uplink s = true) :
    receiveBranch k m s = toOwner k .uplink m.src (bodyOf m) (gated .uplink s) := by
  obtain ⟨harr, hport, hho⟩ := h
  rw [receiveBranch_gated harr, hport, learnSource_uplink (s := gated .uplink s) harr.2.2.2.1]
  have hok := checkBranch_arrived (u := gated .uplink s) harr (by rw [hport]; exact ha hho)
  rw [hport] at hok
  exact hok

theorem accepted_office {k : MsgKind} {s : State} (h : s.settings.headOffice ≠ 0)
    (hk : k = .itemReply ∨ k = .exchOpen ∨ k = .priceChange ∨ k = .exchClose ∨ k = .journalAck ∨ k = .linkEcho) :
    accepted k .uplink s = true := by
  rcases hk with rfl | rfl | rfl | rfl | rfl | rfl <;> simpa [accepted] using h

theorem gated_frame_blocks (p : Port) (s : State) : OnlyChanges [.pool, .monitor] s (gated p s) := by
  simp [onlyChanges_iff, gated, lightPort]

/-! ### The intake queue and the request queue -/

theorem bodyOf_length {m : BranchArrival} {k : MsgKind} {s : State} (h : Arrives m k s) : (bodyOf m).length = m.bodyLength.toNat := by
  have hwhole := h.2.2.2.2.2
  simp [bodyOf, hwhole]

theorem heard_isTillStation {e : Station} {a : Addr} {s : State} (hk : Known .till a e s) (hc : e.cls = .tillStation) :
    (heard .till e s).isTillStation a = true := by
  simp [State.isTillStation, heard_get, hk.2.1, hc]

theorem appendIntake_till (e : IntakeEntry) (s : State) :
    (appendIntake e s).till = { s.till with intake := if s.till.intake.length < 64 then s.till.intake ++ [e] else s.till.intake } := by
  unfold appendIntake
  split <;> rfl

/-- Settles O28: a known till's message is appended, and an OFFICE station's request joins the queue. -/
theorem tillAndManagementIntake : Obligations.TillAndManagementIntake := by
  refine ⟨fun m e s hp hk hc => ⟨fun k ha hq => ?_, fun ha hlen => ?_⟩, fun m e s ha hp hk => ?_⟩
  · have hto : receiveBranch .priceAsk m s = appendIntake ⟨m.src, .ask (field (bodyOf m) 0 1) (field (bodyOf m) 1 2)
        (field (bodyOf m) 3 6) k (field (bodyOf m) 10 4)⟩ (heard .till e s) := by
      rw [receiveBranch_known (e := e) ha (by simp [hp]) (hp ▸ hk) (by simp [accepted, hp]), hp]
      simp only [toOwner, takePriceAsk, heard_isTillStation hk hc, hq]
    refine ⟨_, exec_eq_after _ s, ?_⟩
    rw [after_priceAsk, hto]
    exact ⟨((heard_frame .till e s).mono (by simp)).trans (by simp [onlyChanges_iff]), appendIntake_till _ _⟩
  · have hto : receiveBranch .saleRecord m s = appendIntake ⟨m.src, .sale (field (bodyOf m) 0 1) (field (bodyOf m) 1 4)
        ((bodyOf m).drop 5)⟩ (heard .till e s) := by
      have hfits : (bodyOf m).length - 5 ≤ 240 := by rw [bodyOf_length ha]; omega
      rw [receiveBranch_known (e := e) ha (by simp [hp]) (hp ▸ hk) (by simp [accepted, hp]), hp]
      simp only [toOwner, takeSaleRecord, heard_isTillStation hk hc, hfits, and_self, if_true]
    refine ⟨_, exec_eq_after _ s, ?_⟩
    rw [after_saleRecord, hto]
    exact ⟨((heard_frame .till e s).mono (by simp)).trans (by simp [onlyChanges_iff]), appendIntake_till _ _⟩
  · refine ⟨_, exec_eq_after _ s, ?_⟩
    rw [after_mgmtReq, receiveBranch_known (e := e) ha (by simp [hp]) (hp ▸ hk) (by simp [accepted, hp]), hp]
    refine ⟨((heard_frame .office e s).mono (by simp)).trans (by simp [onlyChanges_iff, toOwner]), fun hl => ?_, fun hl => ?_⟩
    · have hl' : (heard .office e s).mgmt.requests.length < 8 := hl
      simp only [toOwner, appendRequest, if_pos hl']
      rfl
    · have hl' : ¬(heard .office e s).mgmt.requests.length < 8 := by exact Nat.not_lt.2 hl
      simp only [toOwner, appendRequest, if_neg hl']
      rfl

/-! ### Replies to asks -/

/-- A message of the till service leaves everything of it but the backlog. -/
theorem sendTill_till (m : Msg) (s : State) :
    ∃ l, (sendTill m s).till = { s.till with backlog := s.till.backlog ++ l } := by
  unfold sendTill
  rcases sendBehind_cases .tillService s.till.backlog m (fun t => setTill { t.till with backlog := t.till.backlog ++ [m] } t) s with
    ⟨-, -, h⟩ | ⟨-, h⟩ | ⟨-, -, -, h⟩ | ⟨-, -, -, h⟩ <;> rw [h]
  · exact ⟨[m], rfl⟩
  · exact ⟨[], by simp⟩
  · exact ⟨[], by simp⟩
  · exact ⟨[m], rfl⟩

theorem answerAsk_till (dst : Addr) (tag code : Nat) (q : Quote) (s : State) :
    ∃ l, (answerAsk dst tag code q s).till = { s.till with backlog := s.till.backlog ++ l } :=
  sendTill_till _ (count (occQ .asksAnswered q.outcome.index) s)

/-- The end of a referral frees its entry and keeps the generations (R32, R35). -/
theorem endAsk_till (n : Nat) (a : LiveAsk) (q : Quote) (s : State) :
    ∃ l, (endAsk n a q s).till = { s.till with backlog := s.till.backlog ++ l, asks := Tbl.del s.till.asks n } := by
  obtain ⟨l, hl⟩ := answerAsk_till a.src a.tag a.code q s
  exact ⟨l, by simp only [endAsk, setTill, hl]⟩

/-- A reply for an absent code ends its referral, whatever it says. -/
theorem takeAbsentReply_ends (n : Nat) (a : LiveAsk) (c : ReplyContent) (s : State) :
    ∃ q u, takeAbsentReply n a c s = endAsk n a q u ∧ u.till = s.till := by
  cases c with
  | unknown => exact ⟨_, s, rfl, rfl⟩
  | bad => exact ⟨_, count (occ .badReplies) s, rfl, rfl⟩
  | known f adopt =>
    cases adopt with
    | false => exact ⟨_, s, rfl, rfl⟩
    | true =>
      unfold takeAbsentReply
      dsimp only
      split
      · exact ⟨_, _, rfl, rfl⟩
      · exact ⟨_, _, rfl, by simp⟩
      · exact ⟨_, _, rfl, rfl⟩

theorem takeItemReply_found {b : List Byte} {s : State} {a : LiveAsk} {r : ItemRec} (ha : Tbl.get s.till.asks (field b 0 1) = some a)
    (hm : s.till.generation (field b 0 1) = field b 1 1 ∧ a.code = field b 2 6) (hr : lookupItem s.items a.code = some r) :
    takeItemReply b s = endAsk (field b 0 1) a (a.quote s r) s := by
  unfold takeItemReply
  dsimp only
  rw [ha]
  dsimp only
  rw [if_pos hm, hr]

theorem takeItemReply_absent {b : List Byte} {s : State} {a : LiveAsk} (ha : Tbl.get s.till.asks (field b 0 1) = some a)
    (hm : s.till.generation (field b 0 1) = field b 1 1 ∧ a.code = field b 2 6) (hr : lookupItem s.items a.code = none) :
    takeItemReply b s = takeAbsentReply (field b 0 1) a (replyContent b) s := by
  unfold takeItemReply
  dsimp only
  rw [ha]
  dsimp only
  rw [if_pos hm, hr]

theorem takeItemReply_late {b : List Byte} {s : State} (h : ∀ a, Tbl.get s.till.asks (field b 0 1) = some a →
    ¬(s.till.generation (field b 0 1) = field b 1 1 ∧ a.code = field b 2 6)) : takeItemReply b s = count (occ .lateReplies) s := by
  unfold takeItemReply
  dsimp only
  split
  · next a ha => exact if_neg (h a ha)
  · rfl

/-- An adopted description becomes an item (R9, R35). -/
theorem takeAbsentReply_adopted {n w : Nat} {a : LiveAsk} {f : ItemFields} {s : State} (hl : lookupItem s.items a.code = none)
    (hw : freeWay s.items a.code = some w) (hv : validCode a.code = true) (hf : f.valid = true) :
    (takeAbsentReply n a (.known f true) s).items = Tbl.put s.items (slotOf a.code w) ⟨a.code, f, 1, []⟩ := by
  have hfind := lookupItem_eq_none.1 hl
  have hoffer : offerItem a.code f s.items = (.done, Tbl.put s.items (slotOf a.code w) ⟨a.code, f, 1, []⟩) := by
    simp [offerItem, createItem, hfind, hw, hv, hf]
  simp [takeAbsentReply, hoffer]

/-- Settles O29: a matching reply ends its referral by one answer, and any other is counted as late. -/
theorem itemReplyEndsReferral : Obligations.ItemReplyEndsReferral := by
  intro m s h n isMatch
  have hto : receiveBranch .itemReply m s = takeItemReply (bodyOf m) (gated .uplink s) :=
    receiveBranch_office h fun hho => accepted_office hho (by simp)
  refine ⟨_, exec_eq_after _ s, ?_⟩
  rw [after_itemReply, hto]
  refine ⟨((gated_frame_blocks .uplink s).mono (by simp)).trans (by simp [onlyChanges_iff]), fun a ha => ?_, fun hno => ?_⟩
  · obtain ⟨hask, hmatch⟩ := ha
    have hends : ∃ q u, takeItemReply (bodyOf m) (gated .uplink s) = endAsk n a q u ∧ u.till = s.till := by
      cases hr : lookupItem s.items a.code with
      | some r => exact ⟨_, _, takeItemReply_found (s := gated .uplink s) hask hmatch hr, rfl⟩
      | none =>
        rw [takeItemReply_absent (s := gated .uplink s) hask hmatch hr]
        exact takeAbsentReply_ends n a _ _
    obtain ⟨q, u, hend, hu⟩ := hends
    obtain ⟨l, hl⟩ := endAsk_till n a q u
    refine ⟨?_, ?_, fun r hr => takeItemReply_found (s := gated .uplink s) hask hmatch hr, fun hnone hc => ?_,
      fun f w hnone hc hw hv hf => ?_⟩
    · rw [hend, hl, hu]
    · rw [hend, hl, hu]
    · rw [takeItemReply_absent (s := gated .uplink s) hask hmatch hnone, hc]
      exact ⟨by simp [takeAbsentReply, gated, lightPort], rfl⟩
    · rw [takeItemReply_absent (s := gated .uplink s) hask hmatch hnone, hc]
      exact takeAbsentReply_adopted (s := gated .uplink s) hnone hw hv hf
  · rw [takeItemReply_late (s := gated .uplink s) fun a ha hm => hno a ⟨ha, hm.1, hm.2⟩]
    exact ⟨rfl, rfl, rfl⟩

/-! ### Acknowledgements -/

theorem testHighWater_journal (s : State) : ∃ b, (testHighWater s).journal = { s.journal with highArmed := b } := by
  unfold testHighWater
  split
  · split
    · exact ⟨false, by simp [setJournal]⟩
    · exact ⟨s.journal.highArmed, rfl⟩
  · exact ⟨true, rfl⟩

theorem testFull_journal (s : State) : ∃ b, (testFull s).journal = { s.journal with fullArmed := b } := by
  unfold testFull
  split
  · split
    · exact ⟨false, by simp [setJournal]⟩
    · exact ⟨s.journal.fullArmed, rfl⟩
  · exact ⟨true, rfl⟩

/-- The tests of the levels move nothing of the journal but their arming (R60). -/
theorem testLevels_journal (s : State) : ∃ b c, (testLevels s).journal = { s.journal with highArmed := b, fullArmed := c } := by
  obtain ⟨b, hb⟩ := testHighWater_journal s
  obtain ⟨c, hc⟩ := testFull_journal (testHighWater s)
  exact ⟨b, c, by rw [testLevels, hc, hb]⟩

/-- An acknowledgement outside the SENT range is counted and no more (R56). -/
theorem takeAck_invalid {n : Nat} {s : State} (h : ¬(n ≠ 0 ∧ seqDistance s.journal.release n < s.journal.sentCount)) :
    ∃ o, takeAck n s = count o s := by
  unfold takeAck
  dsimp only
  split_ifs with h0 hlt
  · exact ⟨_, rfl⟩
  · exact absurd ⟨h0, hlt⟩ h
  · exact ⟨_, rfl⟩
  · exact ⟨_, rfl⟩

/-- What a valid acknowledgement leaves of the journal (R56, R57). -/
theorem takeValidAck_journal (n d : Nat) (s : State) : ∃ b c, (takeValidAck n d s).journal = { s.journal with
    records := s.journal.records.drop (d + 1), release := seqAfter n, fresh := false,
    ackTimer := if s.journal.sentCount = d + 1 then none else some s.now, highArmed := b, fullArmed := c } := by
  obtain ⟨b, c, hj⟩ := testLevels_journal (countMany (occQ .journalRecords 2) (d + 1) (setJournal { s.journal with
    records := s.journal.records.drop (d + 1), release := seqAfter n, fresh := false,
    ackTimer := if s.journal.sentCount = d + 1 then none else some s.now } s))
  exact ⟨b, c, by rw [takeValidAck, hj]; simp [setJournal]⟩

/-- Settles O30: a sequence of the SENT range releases the records up to it. -/
theorem journalAck : Obligations.JournalAck := by
  intro m s h n d valid
  have hto : receiveBranch .journalAck m s = takeAck n (gated .uplink s) :=
    receiveBranch_office h fun hho => accepted_office hho (by simp)
  refine ⟨_, exec_eq_after _ s, ?_⟩
  rw [after_journalAck, hto]
  refine ⟨((gated_frame_blocks .uplink s).mono (by simp)).trans (by simp [onlyChanges_iff]), fun hv => ?_, fun hv => ?_⟩
  · have htake : takeAck n (gated .uplink s) = takeValidAck n d (gated .uplink s) := by
      unfold takeAck
      dsimp only
      rw [if_neg hv.1]
      exact if_pos hv.2
    obtain ⟨b, c, hj⟩ := takeValidAck_journal n d (gated .uplink s)
    rw [htake, hj]
    exact ⟨rfl, rfl, rfl, rfl, rfl, rfl, rfl, rfl⟩
  · obtain ⟨o, ho⟩ := takeAck_invalid (s := gated .uplink s) hv
    rw [ho]
    exact ⟨rfl, rfl, rfl⟩

/-! ### Notices -/

/-- What sending a message leaves of the management unit: all but the tail of the outbox (R191). -/
theorem sendOut_mgmt (i : OutItem) (s : State) : ∃ l, (sendOut i s).mgmt = { s.mgmt with outbox := s.mgmt.outbox ++ l } := by
  unfold sendOut
  rcases sendBehind_cases .managementUnit s.mgmt.outbox i.msg
    (fun t => { t with mgmt := { t.mgmt with outbox := t.mgmt.outbox ++ [i] } }) s with
    ⟨-, -, h⟩ | ⟨-, h⟩ | ⟨-, -, -, h⟩ | ⟨-, -, -, h⟩ <;> rw [h]
  · exact ⟨[i], rfl⟩
  · exact ⟨[], by simp⟩
  · exact ⟨[], by simp⟩
  · exact ⟨[i], rfl⟩

/-- A notice with its sent mark set, when it is of a number. -/
def markSent (n : Nat) (m : Notice) : Notice := if m.number = n then { m with sent := true } else m

@[simp] theorem markSent_number (n : Nat) (m : Notice) : (markSent n m).number = m.number := by
  unfold markSent
  split <;> rfl

@[simp] theorem markSent_body (n : Nat) (m : Notice) : (markSent n m).body = m.body := by
  unfold markSent
  split <;> rfl

/-- Sending a notice marks it and fills the outbox, when there is a destination, and no more (R196). -/
theorem sendNotice_mgmt (n : Notice) (s : State) : ∃ l, (sendNotice n s).mgmt = { s.mgmt with
    notices := if s.destination.isSome then s.mgmt.notices.map (markSent n.number) else s.mgmt.notices
    outbox := s.mgmt.outbox ++ l } := by
  unfold sendNotice
  cases hd : s.destination with
  | none => exact ⟨[], by simp⟩
  | some d =>
    obtain ⟨l, hl⟩ := sendOut_mgmt ⟨build s d.2 d.1 .notice n.bytes, some n.number⟩ { s with mgmt := { s.mgmt with
      notices := s.mgmt.notices.map (markSent n.number) } }
    exact ⟨l, hl⟩

/-- The notice that the raising of a body queues (R195). -/
def State.noticeOf (s : State) (b : NoticeBody) (sent : Bool) : Notice :=
  ⟨s.mgmt.nextNotice, b, s.clock.time, s.now, decide (32 ≤ s.mgmt.notices.length), sent⟩

/-- The notices that stay when one more is raised: the oldest of 32 is dropped (R195). -/
def State.noticesKept (s : State) : List Notice := if 32 ≤ s.mgmt.notices.length then s.mgmt.notices.drop 1 else s.mgmt.notices

theorem startPulse_queueNotice_mgmt (b : NoticeBody) (s : State) :
    (startPulse (queueNotice b s)).mgmt.notices = s.noticesKept ++ [s.noticeOf b false] ∧
      (startPulse (queueNotice b s)).mgmt.nextNotice = succFromOne 65535 s.mgmt.nextNotice ∧
      (startPulse (queueNotice b s)).destination = s.destination := by
  unfold startPulse
  split <;> simp [queueNotice, State.noticesKept, State.noticeOf, State.destination]

/-- What a notice raised leaves of the queue (R195, R196). -/
theorem raiseNotice_notices (b : NoticeBody) (s : State) :
    (raiseNotice b s).mgmt.notices = (if s.destination.isSome then s.noticesKept.map (markSent s.mgmt.nextNotice) else s.noticesKept) ++
        [s.noticeOf b s.destination.isSome] ∧
      (raiseNotice b s).mgmt.nextNotice = succFromOne 65535 s.mgmt.nextNotice ∧
      (raiseNotice b s).mgmt.alert = (startPulse (queueNotice b s)).mgmt.alert ∧
      (raiseNotice b s).mgmt.owed = (startPulse (queueNotice b s)).mgmt.owed := by
  obtain ⟨hq, hn, hd⟩ := startPulse_queueNotice_mgmt b s
  obtain ⟨l, hl⟩ := sendNotice_mgmt (s.noticeOf b false) (startPulse (queueNotice b s))
  have hmgmt : (raiseNotice b s).mgmt = _ := hl
  rw [hmgmt, hq, hn, hd]
  refine ⟨?_, rfl, rfl, rfl⟩
  cases s.destination with
  | none => simp
  | some d => simp [markSent, State.noticeOf]

/-- The notice raised is in the queue, under its number (R195). -/
theorem raiseNotice_queued (b : NoticeBody) (s : State) :
    ∃ x ∈ (raiseNotice b s).mgmt.notices, x.number = s.mgmt.nextNotice ∧ x.body = b := by
  rw [(raiseNotice_notices b s).1]
  exact ⟨_, List.mem_append_right _ (List.mem_singleton.2 rfl), rfl, rfl⟩

/-- Settles O52: the queue takes the notice at its tail, and the alert line follows its mode. -/
theorem noticeRaised : Obligations.NoticeRaised := by
  intro b s t full
  obtain ⟨hq, hn, ha, ho⟩ := raiseNotice_notices b s
  refine ⟨by simp [t, onlyChanges_iff], hn, ?_, ?_, fun hm => ?_, fun hm hi h0 => ?_, fun hm hi => ?_⟩
  · rw [hq, List.map_append]
    congr 1
    cases s.destination <;> simp [State.noticesKept, full, Function.comp_def]
  · rw [hq, List.getLast?_concat]
    rfl
  · have hlevel : (raiseNotice b s).settings.alertMode = .level := by simpa using hm
    refine ⟨by simp [t, ho, startPulse, queueNotice, hm], ?_⟩
    simp [t, State.alertAsserted, hm, hq]
  · have halert : (raiseNotice b s).mgmt.alert = .pulsing s.now s.settings.pulseWidth := by
      rw [ha]
      simp [startPulse, queueNotice, hm, hi, h0]
    refine ⟨halert, by simp [t, ho, startPulse, queueNotice, hm, hi, h0], ?_⟩
    simp [t, State.alertAsserted, hm, halert]
  · refine ⟨?_, ?_⟩
    · simp [t, ha, startPulse, queueNotice, hi]
    · simp [t, ho, startPulse, queueNotice, hm, hi]

end Sys2Proof.Machine

/-! How a push ends: SHOWN, an attempt used, a label given up (R76 to R81). -/

namespace Sys2Proof.Machine

/-! ### An entry through a dispatch attempt -/

/-- The queue holds an entry of a label with so many attempts. -/
def State.hasEntry (s : State) (n k : Nat) : Prop := ∃ x ∈ s.disp.queue, x.label = n ∧ x.attempts = k

theorem backToWaiting_hasEntry (n k : Nat) (s : State) : (backToWaiting n k s).hasEntry n k :=
  ⟨_, List.mem_append_right _ (List.mem_singleton.2 rfl), rfl, rfl⟩

theorem sweepOne_hasEntry {n k : Nat} {s : State} (h : s.hasEntry n k) (m : Nat) : (sweepOne s m).hasEntry n k := by
  obtain ⟨x, hx, hn⟩ := h
  unfold sweepOne
  split
  · exact ⟨x, List.mem_append_left _ hx, hn⟩
  · exact ⟨x, hx, hn⟩

theorem removeEntry_hasEntry {n k m : Nat} {s : State} (h : s.hasEntry n k) (hne : m ≠ n) : (removeEntry m s).hasEntry n k := by
  obtain ⟨x, hx, rfl, hk⟩ := h
  refine foldl_keeps (P := fun u => u.hasEntry x.label k) (fun u a hu => sweepOne_hasEntry hu a) _ _ ⟨x, ?_, rfl, hk⟩
  exact List.mem_filter.2 ⟨hx, by simpa using hne.symm⟩

theorem push_hasEntry {n k : Nat} {s : State} (h : s.hasEntry n k) (e : LabelEntry) (a : Addr) : (push e a s).hasEntry n k := by
  obtain ⟨x, hx, hn, hk⟩ := h
  unfold State.hasEntry
  rw [(push_queue e a s).1]
  refine ⟨_, List.mem_map_of_mem hx, ?_, ?_⟩ <;> split <;> assumption

/-- A dispatch attempt removes no entry whose label has a radio identity (R74). -/
theorem pickEntry_removed {s : State} {l : List LabelEntry} {e : LabelEntry} (h : pickEntry s l = some (e, none)) :
    (s.label e.label).radio = 0 := by
  induction l with
  | nil => cases h
  | cons d l ih =>
    unfold pickEntry at h
    split at h
    · next h0 =>
      cases h
      exact h0
    · split at h
      · split at h
        · cases h
        · exact ih h
      · exact ih h

theorem dispatchLoop_hasEntry (fuel : Nat) {n k : Nat} {s : State} (h : s.hasEntry n k) (hr : (s.label n).radio ≠ 0) :
    (dispatchLoop fuel s).hasEntry n k := by
  induction fuel generalizing s with
  | zero => exact h
  | succ fuel ih =>
    unfold dispatchLoop
    split
    · exact h
    · split
      · exact h
      · next e hp =>
        have hne : e.label ≠ n := fun hen => hr (hen ▸ pickEntry_removed hp)
        exact ih (removeEntry_hasEntry h hne) (by rwa [((removeEntry_marks _ _).keeps n).1])
      · next e a hp => exact ih (push_hasEntry h e a) (by rwa [label_of_labels (push_labels e a s)])

theorem dispatch_hasEntry {n k : Nat} {s : State} (h : s.hasEntry n k) (hr : (s.label n).radio ≠ 0) : (dispatch s).hasEntry n k :=
  dispatchLoop_hasEntry _ h hr

/-! ### What becomes of a label -/

/-- An attempt used (R78): the entry is in the queue again, no notice, the label's reach kept. -/
structure AttemptUsed (n k : Nat) (s t : State) : Prop where
  entry : (s.label n).radio ≠ 0 → t.hasEntry n k
  mgmt : t.mgmt = s.mgmt
  reach : (t.label n).reachable = (s.label n).reachable

/-- A label given up (R78, R79, R81): UNREACHABLE, with LABEL-GAVE-UP of its record as it stands. -/
structure GivenUp (n : Nat) (last : Option FailOutcome) (s t : State) : Prop where
  reach : (t.label n).reachable = false
  number : t.mgmt.nextNotice = succFromOne 65535 s.mgmt.nextNotice
  notice : ∃ x ∈ t.mgmt.notices, x.number = s.mgmt.nextNotice ∧
    x.body = .labelGaveUp n (s.label n).radio (s.label n).base (s.label n).bound last

/-- No label's display, identity or bound item moves, and no reach but that of one label. -/
def ReachOnly (n : Nat) (s t : State) : Prop :=
  ∀ m, (t.label m).display = (s.label m).display ∧ (t.label m).radio = (s.label m).radio ∧ (t.label m).bound = (s.label m).bound ∧
    (m ≠ n → (t.label m).reachable = (s.label m).reachable)

theorem MarksOnly.reachOnly {s t : State} (h : MarksOnly s t) (n : Nat) : ReachOnly n s t := fun m =>
  ⟨(h.keeps m).2.2.2.1, (h.keeps m).1, (h.keeps m).2.2.1, fun _ => (h.keeps m).2.2.2.2⟩

theorem ReachOnly.trans {n : Nat} {s t u : State} (h : ReachOnly n s t) (k : ReachOnly n t u) : ReachOnly n s u := fun m => by
  obtain ⟨hd, hr, hb, hreach⟩ := h m
  obtain ⟨kd, kr, kb, kreach⟩ := k m
  exact ⟨kd.trans hd, kr.trans hr, kb.trans hb, fun hm => (kreach hm).trans (hreach hm)⟩

theorem setLabel_reachOnly (n : Nat) (b : Bool) (s : State) : ReachOnly n s (setLabel n { s.label n with reachable := b } s) := by
  intro m
  by_cases h : m = n
  · subst h
    simp
  · simp [h]

theorem AttemptUsed.dispatch {n k : Nat} {s t : State} (h : AttemptUsed n k s t) (hl : ReachOnly n s t) : AttemptUsed n k s (dispatch t) where
  entry hr := dispatch_hasEntry (h.entry hr) (by rwa [(hl n).2.1])
  mgmt := by simpa using h.mgmt
  reach := ((dispatch_marks t).keeps n).2.2.2.2.trans h.reach

theorem GivenUp.dispatch {n : Nat} {o : Option FailOutcome} {s t : State} (h : GivenUp n o s t) : GivenUp n o s (dispatch t) where
  reach := ((dispatch_marks t).keeps n).2.2.2.2.trans h.reach
  number := by simpa using h.number
  notice := by simpa using h.notice

theorem AttemptUsed.of_same {n k : Nat} {s u t : State} (h : AttemptUsed n k u t) (hl : u.labels = s.labels) (hm : u.mgmt = s.mgmt) :
    AttemptUsed n k s t where
  entry hr := h.entry (by rwa [label_of_labels hl])
  mgmt := h.mgmt.trans hm
  reach := by rw [h.reach, label_of_labels hl]

theorem GivenUp.of_same {n : Nat} {o : Option FailOutcome} {s u t : State} (h : GivenUp n o u t) (hl : u.labels = s.labels)
    (hm : u.mgmt = s.mgmt) : GivenUp n o s t where
  reach := h.reach
  number := by rw [h.number, hm]
  notice := by
    have := h.notice
    rwa [label_of_labels hl, hm] at this

theorem ReachOnly.of_same {n : Nat} {s u t : State} (h : ReachOnly n u t) (hl : u.labels = s.labels) : ReachOnly n s t := fun m => by
  have := h m
  rwa [label_of_labels hl] at this

theorem giveUp_givenUp (e : LabelEntry) (o : Option FailOutcome) (s : State) :
    GivenUp e.label o s (giveUp e o s) ∧ ReachOnly e.label s (giveUp e o s) := by
  have hset : MarksOnly (setLabel e.label { s.label e.label with reachable := false } s) (giveUp e o s) :=
    (MarksOnly.of_labels (by simp)).trans (removeEntry_marks e.label _)
  refine ⟨⟨?_, ?_, ?_⟩, (setLabel_reachOnly _ _ _).trans (hset.reachOnly _)⟩
  · rw [(hset.keeps _).2.2.2.2]
    simp
  · simpa [giveUp] using (raiseNotice_notices _ (setLabel e.label { s.label e.label with reachable := false } s)).2.1
  · simp only [giveUp, removeEntry_frame]
    exact raiseNotice_queued _ (setLabel e.label { s.label e.label with reachable := false } s)

/-- RADIO-BUSY, NO-REPLY or a time-out (R78): an attempt used below the retry limit, else the label given up. -/
theorem takeFailure_spec (e : LabelEntry) (f : Flight) (o : FailOutcome) (s : State) :
    let attempts := if f.superseded then 0 else e.attempts + 1
    (attempts < s.settings.retryLimit → AttemptUsed e.label attempts s (takeFailure e f o s)) ∧
      (s.settings.retryLimit ≤ attempts → GivenUp e.label (some o) s (takeFailure e f o s)) ∧
      ReachOnly e.label s (takeFailure e f o s) := by
  intro attempts
  have hlt : attempts < s.settings.retryLimit → takeFailure e f o s = backToWaiting e.label attempts s := fun h => if_pos h
  have hge : s.settings.retryLimit ≤ attempts → takeFailure e f o s = giveUp e (some o) s := fun h => if_neg (Nat.not_lt.2 h)
  refine ⟨fun h => ?_, fun h => ?_, ?_⟩
  · rw [hlt h]
    exact ⟨fun _ => backToWaiting_hasEntry _ _ s, by simp, by rw [label_of_labels (backToWaiting_labels _ _ s)]⟩
  · rw [hge h]
    exact (giveUp_givenUp e _ s).1
  · rcases Nat.lt_or_ge attempts s.settings.retryLimit with h | h
    · rw [hlt h]
      exact (MarksOnly.of_labels (backToWaiting_labels _ _ s)).reachOnly _
    · rw [hge h]
      exact (giveUp_givenUp e _ s).2

/-- The same after the dispatch attempt that follows (R74). -/
theorem takeFailure_dispatched (e : LabelEntry) (f : Flight) (o : FailOutcome) (s : State) :
    let attempts := if f.superseded then 0 else e.attempts + 1
    (attempts < s.settings.retryLimit → AttemptUsed e.label attempts s (dispatch (takeFailure e f o s))) ∧
      (s.settings.retryLimit ≤ attempts → GivenUp e.label (some o) s (dispatch (takeFailure e f o s))) ∧
      ReachOnly e.label s (dispatch (takeFailure e f o s)) := by
  intro attempts
  obtain ⟨hused, hgiven, hreach⟩ := takeFailure_spec e f o s
  exact ⟨fun h => (hused h).dispatch hreach, fun h => (hgiven h).dispatch, hreach.trans ((dispatch_marks _).reachOnly _)⟩

/-! ### LABEL_RESULT -/

/-- A result of a known base station for a push in flight (R76). -/
theorem takeLabelResult_flight {a : Addr} {b : List Byte} {s : State} {e : LabelEntry} {f : Flight}
    (hbase : (Tbl.get s.stations.table a.toNat).any (fun e => e.cls.code == 2) = true) (h1 : 1 ≤ field b 2 1) (h4 : field b 2 1 ≤ 4)
    (hf : s.flightOf (field b 0 2) = some (e, f)) :
    (field b 2 1 = 1 → takeLabelResult a b s = dispatch (takeShown e f (count (occQ .labelOutcomes 0) s))) ∧
      (field b 2 1 = 2 → takeLabelResult a b s = dispatch (takeFailure e f .radioBusy (count (occQ .labelOutcomes 1) s))) ∧
      (field b 2 1 = 3 → takeLabelResult a b s = dispatch (takeFailure e f .noReply (count (occQ .labelOutcomes 2) s))) ∧
      (field b 2 1 = 4 → takeLabelResult a b s = dispatch (giveUp e none (count (occQ .labelOutcomes 3) s))) := by
  have hrange : ¬(field b 2 1 = 0 ∨ field b 2 1 > 4) := by omega
  unfold takeLabelResult
  dsimp only
  rw [hbase, if_neg (by simp), if_neg hrange, hf]
  dsimp only
  refine ⟨fun h => ?_, fun h => ?_, fun h => ?_, fun h => ?_⟩ <;> (rw [h]; try rfl)

theorem heard_isBase {p : Port} {a : Addr} {b : Station} {s : State} (hk : Known p a b s) :
    (Tbl.get (heard p b s).stations.table a.toNat).any (fun e => e.cls.code == 2) = b.cls.isBase := by
  rw [heard_get, if_pos (by rw [hk.2.1])]
  cases b.cls <;> simp [StationClass.isBase, StationClass.code]

theorem receiveBranch_label {m : BranchArrival} {b : Station} {s : State} (ha : Arrives m .labelResult s) (hp : m.port = .label)
    (hk : Known .label m.src b s) : receiveBranch .labelResult m s = takeLabelResult m.src (bodyOf m) (heard .label b s) := by
  rw [receiveBranch_known (e := b) ha (by simp [hp]) (hp ▸ hk) (by simp [accepted, hp]), hp]
  rfl

/-- SHOWN writes the label that was pushed, while it has the pushed identity (R77). -/
theorem takeShown_labels (e : LabelEntry) (f : Flight) (s : State) :
    ((s.label e.label).radio = f.radio → ((takeShown e f s).label e.label).reachable = true ∧
      ((takeShown e f s).label e.label).display = displayAfter f) ∧
    ((s.label e.label).radio ≠ f.radio → ((takeShown e f s).label e.label).display = (s.label e.label).display) ∧
    ∀ n, n ≠ e.label → ((takeShown e f s).label n).display = (s.label n).display ∧
      ((takeShown e f s).label n).reachable = (s.label n).reachable := by
  have hmarks : MarksOnly (if (s.label e.label).radio = f.radio then
      setLabel e.label { s.label e.label with reachable := true, display := displayAfter f } s else s) (takeShown e f s) := by
    unfold takeShown
    dsimp only
    split_ifs
    · exact .of_labels (backToWaiting_labels _ _ _)
    · exact removeEntry_marks _ _
    · exact .of_labels (backToWaiting_labels _ _ _)
    · exact removeEntry_marks _ _
  by_cases hr : (s.label e.label).radio = f.radio
  · rw [if_pos hr] at hmarks
    refine ⟨fun _ => ?_, fun h => absurd hr h, fun n hn => ?_⟩
    · rw [(hmarks.keeps e.label).2.2.2.2, (hmarks.keeps e.label).2.2.2.1]
      simp
    · rw [(hmarks.keeps n).2.2.2.2, (hmarks.keeps n).2.2.2.1]
      simp [hn]
  · rw [if_neg hr] at hmarks
    exact ⟨fun h => absurd h hr, fun _ => (hmarks.keeps _).2.2.2.1, fun n _ => ⟨(hmarks.keeps n).2.2.2.1, (hmarks.keeps n).2.2.2.2⟩⟩

/-- Settles O31: SHOWN writes one label, and the dispatch attempt after it writes marks alone. -/
theorem labelShown : Obligations.LabelShown := by
  intro m b e f s ha hp hk hbase hf h1
  have hto : receiveBranch .labelResult m s = dispatch (takeShown e f (count (occQ .labelOutcomes 0) (heard .label b s))) := by
    rw [receiveBranch_label ha hp hk]
    exact (takeLabelResult_flight ((heard_isBase hk).trans hbase) (by omega) (by omega) hf).1 h1
  refine ⟨_, exec_eq_after _ s, ?_⟩
  rw [after_labelResult, hto]
  generalize hu : count (occQ .labelOutcomes 0) (heard .label b s) = u
  have hframe : OnlyChanges [.pool, .stations, .monitor] s u :=
    hu ▸ (heard_frame .label b s).trans (by simp [onlyChanges_iff])
  have hlabel : ∀ n, u.label n = s.label n := fun n => by rw [← hu]; rfl
  have hmarks := dispatch_marks (takeShown e f u)
  obtain ⟨hsame, hchanged, hother⟩ := takeShown_labels e f u
  refine ⟨(hframe.mono (by simp)).trans (by simp [onlyChanges_iff]), fun hr => ?_, fun hr => ?_, fun n hn => ?_⟩
  · rw [(hmarks.keeps e.label).2.2.2.2, (hmarks.keeps e.label).2.2.2.1]
    exact hsame (by rwa [hlabel])
  · rw [(hmarks.keeps e.label).2.2.2.1, ← hlabel]
    exact hchanged (by rwa [hlabel])
  · rw [(hmarks.keeps n).2.2.2.2, (hmarks.keeps n).2.2.2.1, ← hlabel]
    exact hother n hn

/-- Settles O32: what is odd is counted; a failure uses an attempt or gives the label up. -/
theorem labelFailures : Obligations.LabelFailures := by
  intro m b s ha hp hk tag outcome odd
  have hbase : (Tbl.get (heard .label b s).stations.table m.src.toNat).any (fun e => e.cls.code == 2) = b.cls.isBase := heard_isBase hk
  refine ⟨_, exec_eq_after _ s, ?_⟩
  rw [after_labelResult, receiveBranch_label ha hp hk]
  refine ⟨((heard_frame .label b s).mono (by simp)).trans (by simp [onlyChanges_iff]), fun hb => ?_, fun hb ho => ?_,
    fun hb h1 h4 hf => ?_, fun e f hb hf h2 h4 => ?_⟩
  · unfold takeLabelResult
    dsimp only
    rw [hbase, hb, if_pos (by simp)]
    rfl
  · unfold takeLabelResult
    dsimp only
    rw [hbase, hb, if_neg (by simp), if_pos ho]
    rfl
  · have hrange : ¬(outcome = 0 ∨ outcome > 4) := by omega
    have hf' : (heard .label b s).flightOf (field (bodyOf m) 0 2) = none := hf
    unfold takeLabelResult
    dsimp only
    rw [hbase, hb, if_neg (by simp), if_neg hrange, hf']
    rfl
  · intro attempts l
    obtain ⟨-, hbusy, hnoReply, hrefused⟩ := takeLabelResult_flight (s := heard .label b s) (hbase.trans hb) (by omega) h4 hf
    rcases Nat.lt_or_ge 3 outcome with h3 | h3
    · have h4' : outcome = 4 := by omega
      obtain ⟨hgiven, hreach⟩ := giveUp_givenUp e none (count (occQ .labelOutcomes 3) (heard .label b s))
      rw [hrefused h4', if_pos h4']
      have hg : GivenUp e.label none s _ := hgiven.dispatch.of_same rfl rfl
      have hr : ReachOnly e.label s _ := (hreach.trans ((dispatch_marks _).reachOnly _)).of_same rfl
      exact ⟨fun h => absurd h (by omega), fun _ => ⟨hg.reach, hg.number, hg.notice⟩, hr⟩
    · obtain ⟨o, k, hlast, hres⟩ : ∃ o k, (if outcome = 4 then none else if outcome = 2 then some .radioBusy else some .noReply) = some o ∧
          takeLabelResult m.src (bodyOf m) (heard .label b s) =
            dispatch (takeFailure e f o (count (occQ .labelOutcomes k) (heard .label b s))) := by
        by_cases h2' : outcome = 2
        · exact ⟨.radioBusy, 1, by simp [h2'], hbusy h2'⟩
        · have h3' : outcome = 3 := by omega
          exact ⟨.noReply, 2, by simp [h3'], hnoReply h3'⟩
      generalize hu : count (occQ .labelOutcomes k) (heard .label b s) = u at hres
      have hl : u.labels = s.labels := by rw [← hu]; rfl
      have hm : u.mgmt = s.mgmt := by rw [← hu]; rfl
      have hset : u.settings = s.settings := by rw [← hu]; rfl
      obtain ⟨hused, hgiven, hreach⟩ := takeFailure_dispatched e f o u
      rw [hset] at hused hgiven
      rw [hres, hlast]
      refine ⟨fun _ hlt => ?_, fun hor => ?_, hreach.of_same hl⟩
      · have h := (hused hlt).of_same hl hm
        exact ⟨h.mgmt, h.reach, h.entry⟩
      · have hne : ¬outcome = 4 := by omega
        have h := (hgiven (hor.resolve_left hne)).of_same hl hm
        exact ⟨h.reach, h.number, h.notice⟩

/-! ### PUSH_TIMEOUT -/

theorem expirePush_early {tag : Nat} {s : State}
    (h : ∀ e f, s.flightOf tag = some (e, f) → elapsed s.now f.sent < s.settings.pushTimeout * 1000) : expirePush tag s = s := by
  unfold expirePush
  split
  · next e f hf => exact if_neg (Nat.not_le.2 (h e f hf))
  · rfl

theorem expirePush_due {tag : Nat} {e : LabelEntry} {f : Flight} {s : State} (hf : s.flightOf tag = some (e, f))
    (hd : s.settings.pushTimeout * 1000 ≤ elapsed s.now f.sent) :
    expirePush tag s = takeFailure e f .timeout (count (occQ .labelOutcomes 4) s) := by
  unfold expirePush
  rw [hf]
  exact if_pos hd

theorem AttemptUsed.dispatchOn {n k : Nat} {s t : State} (h : AttemptUsed n k s t) (hl : ReachOnly n s t) :
    AttemptUsed n k s (dispatchOn s t) := by
  rcases dispatchOn_cases s t with hd | ⟨-, hd⟩ <;> rw [hd]
  · exact h
  · exact h.dispatch hl

theorem GivenUp.dispatchOn {n : Nat} {o : Option FailOutcome} {s t : State} (h : GivenUp n o s t) : GivenUp n o s (dispatchOn s t) := by
  rcases dispatchOn_cases s t with hd | ⟨-, hd⟩ <;> rw [hd]
  · exact h
  · exact h.dispatch

/-- Settles O42: a push that is due fails once, as a result that says so does. -/
theorem pushTimeout : Obligations.PushTimeout := by
  refine ⟨fun tag s h => ?_, fun tag e f s hf hd hradio => ?_⟩
  · rw [exec_eq_after, after_pushTimeout, expirePush_early h, dispatchOn_of_disp (s := s) rfl]
  · intro attempts
    refine ⟨_, exec_eq_after _ s, ?_⟩
    rw [after_pushTimeout, expirePush_due hf hd]
    generalize hu : count (occQ .labelOutcomes 4) s = u
    have hl : u.labels = s.labels := by rw [← hu]; rfl
    have hm : u.mgmt = s.mgmt := by rw [← hu]; rfl
    have hset : u.settings = s.settings := by rw [← hu]; rfl
    have hframe : OnlyChanges [.monitor] s u := hu ▸ by simp [onlyChanges_iff]
    obtain ⟨hused, hgiven, hreach⟩ := takeFailure_spec e f .timeout u
    rw [hset] at hused hgiven
    have hreach' := hreach.of_same hl
    refine ⟨(hframe.mono (by simp)).trans (by simp [onlyChanges_iff]), fun hlt => ?_, fun hge => ?_,
      hreach'.trans ((dispatchOn_marks s _).reachOnly _)⟩
    · have h := ((hused hlt).of_same hl hm).dispatchOn hreach'
      exact ⟨h.entry hradio, h.mgmt, h.reach⟩
    · have h := ((hgiven hge).of_same hl hm).dispatchOn
      exact ⟨h.reach, h.number, h.notice⟩

end Sys2Proof.Machine

/-! The exchange unit and the uplink monitor by head office's messages (O33 to O36). -/

namespace Sys2Proof.Machine

/-! ### Window events -/

@[simp] theorem recomputeWindow_windowIn (s : State) : (recomputeWindow s).windowIn = s.windowNow := by
  unfold recomputeWindow exchWindowEvent
  split
  · next h => exact h.symm
  · split <;> simp

/-- A window event ends the open batch when the window closes with any-time off (R88, R115). -/
theorem recomputeWindow_exchState (s : State) : (recomputeWindow s).exch.state =
    (if s.windowIn = true ∧ s.windowNow = false ∧ s.settings.anyTime = false then s.exch.dropOpen else s.exch).state := by
  unfold recomputeWindow exchWindowEvent
  by_cases hsame : s.windowNow = s.windowIn
  · rw [if_pos hsame, if_neg (fun h => by rw [hsame, h.1] at h; cases h.2.1)]
  · rw [if_neg hsame]
    by_cases hclose : s.windowNow = false ∧ s.settings.anyTime = false
    · have hin : s.windowIn = true := Bool.of_not_eq_false fun h => hsame (hclose.1.trans h.symm)
      rw [if_pos hclose, if_pos ⟨hin, hclose⟩]
      obtain ⟨l, -, he, -⟩ := discardBatch_exch .window { s with windowIn := s.windowNow }
      simp [he]
    · rw [if_neg hclose, if_neg (fun h => hclose h.2)]
      simp

theorem recomputeWindow_lastBatch (s : State) : (recomputeWindow s).exch.lastBatch = s.exch.lastBatch := by
  rcases recomputeWindow_exch s with h | ⟨c, l, -, -, h⟩ <;> rw [h]

theorem setClock_now_window (time : Nat) (s : State) : (setClock time s).windowIn =
    windowAt s.settings.openSecond s.settings.closeSecond (min time maxStoreTime % daySeconds) := by
  rw [setClock, recomputeWindow_windowIn]
  simp [State.windowNow, clockOf]

/-! ### EXCH_OPEN -/

@[simp] theorem sendExch_state (m : Msg) (s : State) : (sendExch m s).exch.state = s.exch.state := by
  obtain ⟨l, -, h⟩ := sendExch_exch m s
  rw [h]

@[simp] theorem sendExch_lastBatch (m : Msg) (s : State) : (sendExch m s).exch.lastBatch = s.exch.lastBatch := by
  obtain ⟨l, -, h⟩ := sendExch_exch m s
  rw [h]

/-- The state of an EXCH-OPEN before its answer is sent: READY opens the batch (R100). -/
def openedState (a : OpenAnswer) (batch announced : Nat) (t : State) : State :=
  if a = .ready then setExchState (.staging (openedBatch batch announced t.now)) t else t

theorem takeExchOpen_full {b : List Byte} {s : State} (h : 7 ≤ s.exch.outbox.length) : takeExchOpen b s = count (occ .strayMessages) s :=
  if_pos h

theorem takeExchOpen_room {b : List Byte} {s : State} (h : s.exch.outbox.length < 7) :
    let t := setClock (field b 6 6) s
    let a := openAnswer (s.exch.state = .idle) (field b 0 4) (field b 4 2) t
    let u := openedState a (field b 0 4) (field b 4 2) t
    takeExchOpen b s = sendExch (build u .uplink u.settings.headOffice .exchAnswer (exchAnswerBody (field b 0 4) a u)) u :=
  if_neg (Nat.not_le.2 h)

theorem openedState_eq (a : OpenAnswer) (batch announced : Nat) (t : State) :
    openedState a batch announced t = { t with exch := { t.exch with state := (openedState a batch announced t).exch.state } } := by
  unfold openedState
  split <;> rfl

theorem openAnswer_ready {wasIdle : Bool} {batch announced : Nat} {t : State} : openAnswer wasIdle batch announced t = .ready ↔
    wasIdle = true ∧ t.online = true ∧ t.exch.lastBatch < batch ∧ (t.windowIn = true ∨ t.settings.anyTime = true) ∧
      announced ≤ t.freePending := by
  unfold openAnswer
  split_ifs with h1 h2 h3 h4 h5
  · simp [h1]
  · simp [h2]
  · simp [h3]
  · simp [h4.1, h4.2]
  · simp [h5]
  · have hwin : t.windowIn = true ∨ t.settings.anyTime = true := by
      by_contra h
      exact h4 ⟨Bool.eq_false_iff.2 fun hw => h (.inl hw), Bool.eq_false_iff.2 fun ha => h (.inr ha)⟩
    exact iff_of_true rfl ⟨Bool.of_not_eq_false h1, Bool.of_not_eq_false h2, Nat.not_le.1 h3, hwin, Nat.not_lt.1 h5⟩

/-- The code of an answer: the first condition that holds (R102). -/
theorem openAnswer_code (wasIdle : Bool) (batch announced : Nat) (t : State) : (openAnswer wasIdle batch announced t).code =
    if wasIdle = false then 2 else if t.online = false then 3 else if batch ≤ t.exch.lastBatch then 4
      else if t.windowIn = false ∧ t.settings.anyTime = false then 5 else if t.freePending < announced then 6 else 1 := by
  unfold openAnswer
  split_ifs <;> rfl

theorem OpenAnswer.code_ready {a : OpenAnswer} : a.code = 1 ↔ a = .ready := by cases a <;> simp [OpenAnswer.code]

theorem online_iff {s : State} : s.online = true ↔ s.uplink.state = .up ∨ s.uplink.state = .degraded := by
  cases h : s.uplink.state <;> simp [State.online, h]

theorem online_false_iff {s : State} : s.online = false ↔ s.uplink.state = .fallback ∨ s.uplink.state = .recovering := by
  cases h : s.uplink.state <;> simp [State.online, h]

/-- What the clock setting of an EXCH-OPEN leaves for its answer (R86, R88). -/
theorem setClock_leaves (time : Nat) (s : State) :
    (setClock time s).clock = clockOf time ∧ (setClock time s).online = s.online ∧ (setClock time s).freePending = s.freePending ∧
      (setClock time s).exch.lastBatch = s.exch.lastBatch := by
  refine ⟨by simp [setClock], by simp [State.online], by simp [State.freePending], ?_⟩
  exact recomputeWindow_lastBatch { s with clock := clockOf time }

/-- The exchange state a clock setting leaves: an open batch goes when the window closes with any-time off (R88, R115). -/
theorem setClock_exchState (time : Nat) (s : State) : (setClock time s).exch.state = (if s.windowIn = true ∧
    windowAt s.settings.openSecond s.settings.closeSecond (min time maxStoreTime % daySeconds) = false ∧ s.settings.anyTime = false
    then s.exch.dropOpen else s.exch).state := by
  have h := recomputeWindow_exchState { s with clock := clockOf time }
  simpa [setClock, State.windowNow, clockOf] using h

/-- Settles O33: the clock is set, the conditions are judged in order, and the answer goes out from the state they leave. -/
theorem exchangeOpen : Obligations.ExchangeOpen := by
  intro m s h batch announced time inNow ready code closes
  have hto : receiveBranch .exchOpen m s = takeExchOpen (bodyOf m) (gated .uplink s) :=
    receiveBranch_office h fun hho => accepted_office hho (by simp)
  refine ⟨_, exec_eq_after _ s, ?_⟩
  rw [after_exchOpen, hto]
  refine ⟨((gated_frame_blocks .uplink s).mono (by simp)).trans (by simp [onlyChanges_iff]), fun hf => takeExchOpen_full hf, fun hr => ?_⟩
  have hclockOf : clockOf (field (bodyOf m) 6 6) = ⟨true, time / 86400, time % 86400, 0⟩ := rfl
  rw [takeExchOpen_room (b := bodyOf m) (s := gated .uplink s) hr]
  dsimp only
  have hset : (setClock (field (bodyOf m) 6 6) (gated .uplink s)).settings = s.settings := by simp [gated, lightPort]
  have hnow : (setClock (field (bodyOf m) 6 6) (gated .uplink s)).now = s.now := by simp [gated, lightPort]
  have hrecomputed : recomputeWindow { gated .uplink s with clock := ⟨true, time / 86400, time % 86400, 0⟩ } =
    setClock (field (bodyOf m) 6 6) (gated .uplink s) := rfl
  obtain ⟨hclock, honline, hfree, hlast⟩ := setClock_leaves (field (bodyOf m) 6 6) (gated .uplink s)
  have hwindow : (setClock (field (bodyOf m) 6 6) (gated .uplink s)).windowIn = inNow := setClock_now_window _ _
  have hstate : (setClock (field (bodyOf m) 6 6) (gated .uplink s)).exch.state =
    (if closes then s.exch.dropOpen else s.exch).state := setClock_exchState (field (bodyOf m) 6 6) (gated .uplink s)
  rw [hrecomputed]
  generalize setClock (field (bodyOf m) 6 6) (gated .uplink s) = clockSet at *
  have hfree' : clockSet.freePending = 8192 - s.sched.entries.length := hfree
  have hlast' : clockSet.exch.lastBatch = s.exch.lastBatch := hlast
  have honline' : clockSet.online = s.online := honline
  have hidle : decide ((gated .uplink s).exch.state = .idle) = decide (s.exch.state = .idle) := rfl
  rw [hidle]
  generalize ha : openAnswer (decide (s.exch.state = .idle)) (field (bodyOf m) 0 4) (field (bodyOf m) 4 2) clockSet = a
  have hready : a = .ready ↔ ready := by
    rw [← ha, openAnswer_ready, hfree', hlast', honline', hwindow, hset, online_iff, decide_eq_true_iff]
  have hcode : a.code = code := by
    rw [← ha, openAnswer_code, hfree', hlast', honline', hwindow, hset]
    simp only [online_false_iff, decide_eq_false_iff_not]
    rfl
  have hopened : (openedState a batch announced clockSet).exch.state =
      if a = .ready then .staging ⟨batch, announced, 1, 0, 0, none, 0, [], s.now, []⟩ else clockSet.exch.state := by
    unfold openedState
    split
    · simp [setExchState, openedBatch, hnow]
    · rfl
  have hfields : (openedState a batch announced clockSet).settings = s.settings ∧
      (openedState a batch announced clockSet).freePending = 8192 - s.sched.entries.length ∧
      (openedState a batch announced clockSet).exch.lastBatch = s.exch.lastBatch ∧
      (openedState a batch announced clockSet).clock = clockOf (field (bodyOf m) 6 6) ∧
      (openedState a batch announced clockSet).windowIn = inNow := by
    unfold openedState
    split
    · exact ⟨hset, hfree', hlast', hclock, hwindow⟩
    · exact ⟨hset, hfree', hlast', hclock, hwindow⟩
  have hsame := openedState_eq a batch announced clockSet
  generalize openedState a batch announced clockSet = opened at *
  obtain ⟨hoset, hofree, holast, hoclock, howindow⟩ := hfields
  simp only [sendExch_state, sendExch_lastBatch, sendExch_frame]
  refine ⟨hoclock.trans hclockOf, howindow, holast, ?_, fun hy => ?_, fun hi hn => ?_, fun k hk => ?_, fun c hc hn => ?_, fun c hc hy => ?_, ?_⟩
  · rw [← hready, ← hcode, OpenAnswer.code_ready]
  · rw [hopened, if_pos (hready.2 hy)]
  · rw [hopened, if_neg (fun h => hn (hready.1 h)), hstate]
    split
    · rw [Exchange.dropOpen_of_not_staging (by simp [hi]), hi]
    · exact hi
  · rw [hopened, if_neg (fun h => by rw [(hready.1 h).1] at hk; cases hk), hstate]
    split
    · rw [Exchange.dropOpen_of_committing hk, hk]
    · exact hk
  · rw [hopened, if_neg (fun h => by rw [(hready.1 h).1] at hc; cases hc), hstate, if_neg hn, hc]
  · rw [hopened, if_neg (fun h => by rw [(hready.1 h).1] at hc; cases hc), hstate, if_pos hy, Exchange.dropOpen_of_staging hc]
  · rw [← hsame]
    congr 1
    simp only [build, hoset, exchAnswerBody, hofree, holast, hcode]
    cases opened.exch.state <;> rfl

end Sys2Proof.Machine

/-! The records and the close of a batch, and the echo of a probe (O34 to O36). -/

namespace Sys2Proof.Machine

/-! ### Records and close -/

/-- A record of the open, unbroken batch (R104 to R106). -/
theorem takePriceChange_open {b : List Byte} {c : StagingCtx} {s : State} (hs : s.exch.state = .staging c) (hb : field b 0 4 = c.batch) :
    takePriceChange b s = takeRecord b { c with quiet := s.now } s := by
  unfold takePriceChange
  rw [hs]
  exact if_pos hb

/-- A record leaves the last batch and the outbox (R104 to R106). -/
theorem takeRecord_exch (b : List Byte) (c : StagingCtx) (s : State) :
    ∃ x, (takeRecord b c s).exch = { s.exch with state := x } := by
  unfold takeRecord
  dsimp only
  (repeat' split) <;> exact ⟨_, rfl⟩

/-- The record in sequence is staged or refused; another breaks the batch (R104 to R106). -/
theorem takeRecord_state {b : List Byte} {c : StagingCtx} {s : State} (hbroken : c.broken = none) :
    let next : StagingCtx := { c with sum := (c.sum + wordSum b) % wordModulus, expected := c.expected + 1, received := c.received + 1 }
    (field b 4 2 ≠ c.expected ∨ c.received = 8192 →
      (takeRecord b c s).exch.state = .staging { c with broken := some (c.expected, field b 4 2) }) ∧
    (field b 4 2 = c.expected → c.received ≠ 8192 → ∀ x, changeOf b = some x →
      (takeRecord b c s).exch.state = .staging { next with staging := stage x c.staging }) ∧
    (field b 4 2 = c.expected → c.received ≠ 8192 → changeOf b = none →
      (takeRecord b c s).exch.state = .staging { next with
        refused := c.refused + 1, refusedList := addRefused (field b 4 2) c.refusedList }) := by
  have hopen : ¬c.broken.isSome = true := by simp [hbroken]
  unfold takeRecord
  dsimp only
  rw [if_neg hopen]
  refine ⟨fun hw => by rw [if_pos hw]; rfl, fun hq hn x hx => ?_, fun hq hn hx => ?_⟩
  · rw [if_neg (fun h => h.elim (fun h => h hq) hn), hx]
    rfl
  · rw [if_neg (fun h => h.elim (fun h => h hq) hn), hx]
    rfl

/-- Settles O34: the open batch takes its record by the sequence and the form it has. -/
theorem priceChangeRecord : Obligations.PriceChangeRecord := by
  intro m c s h hs hb hbroken seq next
  have hto : receiveBranch .priceChange m s = takeRecord (bodyOf m) { c with quiet := s.now } (gated .uplink s) := by
    rw [receiveBranch_office h fun hho => accepted_office hho (by simp)]
    exact takePriceChange_open (s := gated .uplink s) hs hb
  obtain ⟨x, hx⟩ := takeRecord_exch (bodyOf m) { c with quiet := s.now } (gated .uplink s)
  obtain ⟨hwrong, hgood, hbad⟩ := takeRecord_state (b := bodyOf m) (c := { c with quiet := s.now }) (s := gated .uplink s) hbroken
  refine ⟨_, exec_eq_after _ s, ?_⟩
  rw [after_priceChange, hto]
  exact ⟨((gated_frame_blocks .uplink s).mono (by simp)).trans (by simp [onlyChanges_iff]), by rw [hx]; rfl, by rw [hx]; rfl,
    hwrong, hgood, hbad⟩

/-- The close of the open batch: each check that fails discards it, in order; a whole batch begins to commit (R109). -/
theorem takeExchClose_open {b : List Byte} {c : StagingCtx} {s : State} (hs : s.exch.state = .staging c) (hb : field b 0 4 = c.batch) :
    let whole := c.broken = none ∧ field b 4 2 = c.received ∧ field b 6 4 = c.sum ∧ c.staging.length ≤ s.freePending
    (whole → takeExchClose b s = beginCommit c s) ∧ (¬whole → ∃ r, takeExchClose b s = discardBatch r s) := by
  unfold takeExchClose
  rw [hs]
  dsimp only
  rw [if_neg (not_not.2 hb)]
  refine ⟨fun ⟨hbroken, hcount, hsum, hfit⟩ => ?_, fun hw => ?_⟩
  · rw [if_neg (by simp [hbroken]), if_neg (not_not.2 hcount), if_neg (not_not.2 hsum), if_neg (Nat.not_lt.2 hfit)]
  · split_ifs with h1 h2 h3 h4
    · exact ⟨_, rfl⟩
    · exact ⟨_, rfl⟩
    · exact ⟨_, rfl⟩
    · exact ⟨_, rfl⟩
    · exact absurd ⟨by simpa using h1, not_not.1 h2, not_not.1 h3, Nat.not_lt.1 h4⟩ hw

/-- What becomes of the exchange unit when a whole batch begins to commit (R110, R112). -/
theorem beginCommit_exch (c : StagingCtx) (s : State) :
    (c.staging ≠ [] → (beginCommit c s).exch =
      { s.exch with state := .committing ⟨c.batch, c.received, c.refused, 0, c.refusedList, c.staging⟩ }) ∧
    (c.staging = [] → ∃ l, (beginCommit c s).exch = ⟨.idle, c.batch, s.exch.outbox ++ l⟩) := by
  unfold beginCommit
  dsimp only
  refine ⟨fun h => by rw [if_neg h]; rfl, fun h => ?_⟩
  rw [if_pos h]
  obtain ⟨l, -, he⟩ := endCommit_exch ⟨c.batch, c.received, c.refused, 0, c.refusedList, c.staging⟩
    (setExchState (.committing ⟨c.batch, c.received, c.refused, 0, c.refusedList, c.staging⟩) s)
  exact ⟨l, he⟩

/-- Settles O35: a whole batch commits; with a check failed it is discarded. -/
theorem exchangeClose : Obligations.ExchangeClose := by
  intro m c s h hs hb whole
  have hto : receiveBranch .exchClose m s = takeExchClose (bodyOf m) (gated .uplink s) :=
    receiveBranch_office h fun hho => accepted_office hho (by simp)
  obtain ⟨hwhole, hfailed⟩ := takeExchClose_open (s := gated .uplink s) hs hb
  obtain ⟨hqueue, hempty⟩ := beginCommit_exch c (gated .uplink s)
  refine ⟨_, exec_eq_after _ s, ?_⟩
  rw [after_exchClose, hto]
  refine ⟨((gated_frame_blocks .uplink s).mono (by simp)).trans (by simp [onlyChanges_iff]), fun hw hq => ?_, fun hw hq => ?_, fun hw => ?_⟩
  · rw [hwhole hw, hqueue hq]
    exact ⟨rfl, rfl⟩
  · obtain ⟨l, hl⟩ := hempty hq
    rw [hwhole hw, hl]
    exact ⟨rfl, rfl⟩
  · obtain ⟨r, hr⟩ := hfailed hw
    obtain ⟨l, -, he, -⟩ := discardBatch_exch r (gated .uplink s)
    have hstaging : (gated .uplink s).exch.state = .staging c := hs
    rw [hr, he, Exchange.dropOpen_of_staging hstaging]
    exact ⟨rfl, rfl⟩

/-! ### Echoes -/

/-- What a change of state leaves of the uplink monitor: the new state with its runs at 0 (R123). -/
theorem changeUplink_uplink {new : UplinkState} {s : State} (h : s.uplink.state ≠ new) (c : UplinkCause) :
    (changeUplink new c s).uplink = { s.uplink with state := new, slowRun := 0, goodRun := 0, lostRun := 0 } := by
  unfold changeUplink
  dsimp only
  rw [if_neg h]
  split <;> simp [setUplink]

theorem changeUplink_same {new : UplinkState} {s : State} (h : s.uplink.state = new) (c : UplinkCause) : changeUplink new c s = s :=
  if_pos h

/-- The state a counted echo leaves (R129, R131). -/
def stateByEcho (good : Bool) (u : Uplink) : UplinkState :=
  match u.state with
  | .up => if good then .up else if u.slowRun + 1 = 2 then .degraded else .up
  | .degraded => if good && u.goodRun + 1 == 3 then .up else .degraded
  | .fallback => if u.force then .fallback else .recovering
  | .recovering => if good && u.goodRun + 1 == 5 then .up else .recovering

/-- A counted echo moves the state and the runs (R129, R131). -/
theorem moveByEcho_uplink (good : Bool) (s : State) : (moveByEcho good s).uplink.state = stateByEcho good s.uplink ∧
    (moveByEcho good s).uplink.lastRtt = s.uplink.lastRtt ∧ (moveByEcho good s).uplink.probe = s.uplink.probe ∧
    (moveByEcho good s).uplink.force = s.uplink.force ∧ (s.uplink.lostRun = 0 → (moveByEcho good s).uplink.lostRun = 0) := by
  unfold moveByEcho stateByEcho
  dsimp only
  cases hs : s.uplink.state with
  | up =>
    dsimp only
    cases good
    · by_cases hrun : s.uplink.slowRun + 1 = 2
      · rw [if_neg (by simp), if_pos hrun, if_neg (by simp), if_pos hrun, changeUplink_uplink (by simp [hs])]
        simp
      · rw [if_neg (by simp), if_neg hrun, if_neg (by simp), if_neg hrun]
        simp [setUplink]
    · simp [setUplink]
  | degraded =>
    dsimp only
    cases good
    · simp [setUplink]
    · rw [if_neg (by simp)]
      split
      · next h =>
        rw [changeUplink_uplink (by simp [hs])]
        simp [h]
      · next h =>
        have hne : s.uplink.goodRun ≠ 2 := by omega
        simp [setUplink, hne]
  | fallback =>
    dsimp only
    split
    · next h => simp [hs]
    · next h =>
      rw [changeUplink_uplink (by simp [hs])]
      simp
  | recovering =>
    dsimp only
    cases good
    · simp [setUplink]
    · rw [if_neg (by simp)]
      split
      · next h =>
        rw [changeUplink_uplink (by simp [hs])]
        simp [h]
      · next h =>
        have hne : s.uplink.goodRun ≠ 4 := by omega
        simp [setUplink, hne]

/-- The echo of the latest, unanswered probe is counted (R126). -/
theorem takeLinkEcho_latest {b : List Byte} {p : Probe} {s : State} (hp : s.uplink.probe = some p) (ha : p.answered = false)
    (hseq : p.seq = field b 0 4) (hsent : p.sent = field b 4 4) : takeLinkEcho b s = countEcho p s := by
  unfold takeLinkEcho
  rw [hp]
  dsimp only
  rw [if_neg (by simp [hseq, ha]), if_neg (not_not.2 hsent)]

/-- Settles O36: the echo is counted, then the runs move the state. -/
theorem linkEcho : Obligations.LinkEcho := by
  intro m p s h hp ha hseq hsent rtt good
  have hto : receiveBranch .linkEcho m s = countEcho p (gated .uplink s) := by
    rw [receiveBranch_office h fun hho => accepted_office hho (by simp)]
    exact takeLinkEcho_latest (s := gated .uplink s) hp ha hseq hsent
  refine ⟨_, exec_eq_after _ s, ?_⟩
  rw [after_linkEcho, hto]
  refine ⟨((gated_frame_blocks .uplink s).mono (by simp)).trans (by simp [onlyChanges_iff]), ?_⟩
  unfold countEcho
  dsimp only
  obtain ⟨hstate, hrtt, hprobe, hforce, hlost⟩ := moveByEcho_uplink good (count (occQ .probeOutcomes (if good then 0 else 1))
    (setUplink { s.uplink with
      lastRtt := some rtt
      probe := some { p with answered := true }
      lostRun := 0
      history := if good ∧ s.uplink.state = .up then joinHistory rtt s.uplink.history else s.uplink.history } (gated .uplink s)))
  exact ⟨hrtt, hlost rfl, hprobe, hforce, hstate⟩

end Sys2Proof.Machine

/-! The intake queue, the time-outs of asks and acknowledgements, the upload, and the refills (O37 to O41). -/

namespace Sys2Proof.Machine

/-! ### Asks -/

theorem takeIntakeStep_ask {src : Addr} {tillNumber tag code q : Nat} {k : QtyKind} {rest : List IntakeEntry} {s : State}
    (hb : s.till.backlog = []) (hi : s.till.intake = ⟨src, .ask tillNumber tag code k q⟩ :: rest) :
    takeIntakeStep s = takeAsk src tag code k q (setTill { s.till with intake := rest } s) := by
  unfold takeIntakeStep
  rw [if_pos hb, hi]

theorem takeIntakeStep_sale {src : Addr} {n saleSeq : Nat} {body : List Byte} {rest : List IntakeEntry} {s : State}
    (hb : s.till.backlog = []) (hi : s.till.intake = ⟨src, .sale n saleSeq body⟩ :: rest) :
    takeIntakeStep s = takeSale src n saleSeq body (setTill { s.till with intake := rest } s) := by
  unfold takeIntakeStep
  rw [if_pos hb, hi]

theorem validCode_of_lookup {items : SMap ItemRec} {code : Nat} {r : ItemRec} (h : lookupItem items code = some r) : validCode code = true := by
  by_contra hv
  simp [lookupItem, findItem, hv] at h

theorem takeAsk_hit {src : Addr} {tag code q : Nat} {k : QtyKind} {r : ItemRec} {s : State}
    (hd : s.till.asks.any (fun p => p.2.src == src && p.2.tag == tag) = false) (hr : lookupItem s.items code = some r) :
    takeAsk src tag code k q s = answerAsk src tag code (quoteItem s.labels r k q) s := by
  unfold takeAsk
  rw [hd, if_neg (by simp), if_neg (by simp [validCode_of_lookup hr]), hr]

theorem takeAsk_miss {src : Addr} {tag code q : Nat} {k : QtyKind} {s : State}
    (hd : s.till.asks.any (fun p => p.2.src == src && p.2.tag == tag) = false) (hv : validCode code = true)
    (hr : lookupItem s.items code = none) : takeAsk src tag code k q s = takeMiss ⟨src, tag, code, k, q, s.now⟩ s := by
  unfold takeAsk
  rw [hd, if_neg (by simp), if_neg (by simp [hv]), hr]

/-- The entry that a referral takes is the lowest that is free (R32). -/
theorem freeAsk_some {asks : SMap LiveAsk} {n : Nat} (h : freeAsk asks = some n) :
    n < 256 ∧ Tbl.get asks n = none ∧ ∀ j, j < n → Tbl.get asks j ≠ none := by
  obtain ⟨hp, hn, hlow⟩ := List.find?_range_eq_some.1 h
  refine ⟨List.mem_range.1 hn, Option.isNone_iff_eq_none.1 hp, fun j hj hnone => ?_⟩
  have := hlow j hj
  simp [hnone] at this

/-- A referral takes one entry of the ask table and moves its generation (R32). -/
theorem referAsk_till (n : Nat) (a : LiveAsk) (s : State) : ∃ l, (referAsk n a s).till = { s.till with
    asks := Tbl.put s.till.asks n a, backlog := s.till.backlog ++ l,
    generations := putGeneration s.till.generations n ((s.till.generation n + 1) % 256) } :=
  sendTill_till _ (count (occ .queriesSent) (setTill { s.till with
    asks := Tbl.put s.till.asks n a,
    generations := putGeneration s.till.generations n ((s.till.generation n + 1) % 256) } s))

theorem putGeneration_get (m : SMap Nat) (n g j : Nat) :
    (Tbl.get (putGeneration m n g) j).getD 0 = if j = n then g else (Tbl.get m j).getD 0 := by
  unfold putGeneration
  split
  · next h =>
    rw [Tbl.get_del, h]
    split <;> rfl
  · rw [Tbl.get_put]
    split <;> rfl

/-- Settles O37: a hit is answered from the table; a miss is referred, or answered BUSY or UNKNOWN. -/
theorem askTaken : Obligations.AskTaken := by
  refine ⟨fun src tillNumber tag code q k rest r s hb hi hd hr => ?_, fun src tillNumber tag code q k rest s hb hi hd hv hr => ?_⟩
  · have hto : takeIntakeStep s = answerAsk src tag code (quoteItem s.labels r k q) (setTill { s.till with intake := rest } s) := by
      rw [takeIntakeStep_ask hb hi]
      exact takeAsk_hit (s := setTill { s.till with intake := rest } s) hd hr
    obtain ⟨l, hl⟩ := answerAsk_till src tag code (quoteItem s.labels r k q) (setTill { s.till with intake := rest } s)
    refine ⟨_, exec_eq_after _ s, ?_⟩
    rw [after_takeIntakeEntry, hto]
    refine ⟨by simp [onlyChanges_iff, setTill], rfl, ?_, ?_, ?_⟩ <;> rw [hl] <;> rfl
  · intro taken canRefer
    have hto : takeIntakeStep s = takeMiss ⟨src, tag, code, k, q, s.now⟩ taken := by
      rw [takeIntakeStep_ask hb hi]
      exact takeAsk_miss (s := taken) hd hv hr
    have hcan : (taken.settings.headOffice = 0 ∨ taken.online = false) ↔ ¬canRefer := by
      have hon : taken.online = true ↔ s.uplink.state = .up ∨ s.uplink.state = .degraded := online_iff (s := taken)
      rw [← Bool.not_eq_true, hon, not_and_or, not_not, or_comm]
    have htill : ∀ q', ∃ l, (answerAsk src tag code q' taken).till = { s.till with intake := rest, backlog := s.till.backlog ++ l } :=
      fun q' => answerAsk_till src tag code q' taken
    refine ⟨_, exec_eq_after _ s, ?_⟩
    rw [after_takeIntakeEntry, hto]
    refine ⟨OnlyChanges.trans (t := taken) (by simp [onlyChanges_iff, taken]) (by simp [onlyChanges_iff]), ?_, fun hno => ?_, fun hyes hfull => ?_,
      fun n hyes hfree => ?_⟩
    · unfold takeMiss
      split
      · obtain ⟨l, hl⟩ := htill (emptyQuote .unknown true)
        rw [hl]
      · split
        · next n hn =>
          obtain ⟨l, hl⟩ := referAsk_till n ⟨src, tag, code, k, q, s.now⟩ taken
          rw [hl]
        · obtain ⟨l, hl⟩ := htill (emptyQuote .busy false)
          rw [hl]
    · exact if_pos (hcan.2 hno)
    · unfold takeMiss
      have hfull' : freeAsk taken.till.asks = none := hfull
      rw [if_neg (fun h => hcan.1 h hyes), hfull']
      rfl
    · have hrefer : takeMiss ⟨src, tag, code, k, q, s.now⟩ taken = referAsk n ⟨src, tag, code, k, q, s.now⟩ taken := by
        unfold takeMiss
        have hfree' : freeAsk taken.till.asks = some n := hfree
        rw [if_neg (fun h => hcan.1 h hyes), hfree']
      obtain ⟨hlt, hnone, hlow⟩ := freeAsk_some hfree
      obtain ⟨l, hl⟩ := referAsk_till n ⟨src, tag, code, k, q, s.now⟩ taken
      rw [hrefer, hl]
      refine ⟨hlt, hnone, hlow, Tbl.get_put_same _ _ _, ?_, fun j hj => ⟨Tbl.get_put_other _ _ _ _ hj, ?_⟩⟩
      · exact (putGeneration_get _ _ _ _).trans (if_pos rfl)
      · exact (putGeneration_get _ _ _ _).trans (if_neg hj)

/-! ### Sale records -/

theorem answerSale_till (dst : Addr) (n saleSeq : Nat) (taken : Bool) (seq : Nat) (s : State) :
    ∃ l, (answerSale dst n saleSeq taken seq s).till = { s.till with backlog := s.till.backlog ++ l } := sendTill_till _ s

theorem takeSale_repeat {src : Addr} {n saleSeq : Nat} {body : List Byte} {row : TillRow} {s : State}
    (hr : Tbl.get s.till.register n = some row) (hq : row.saleSeq = saleSeq) :
    takeSale src n saleSeq body s = answerSale src n saleSeq true row.journalSeq s := by
  unfold takeSale
  have hfound : (Tbl.get s.till.register n).filter (fun r => r.saleSeq == saleSeq) = some row := by simp [hr, hq]
  rw [hfound]

theorem register_filter_none {register : SMap TillRow} {n saleSeq : Nat}
    (h : ∀ row, Tbl.get register n = some row → row.saleSeq ≠ saleSeq) :
    (Tbl.get register n).filter (fun r => r.saleSeq == saleSeq) = none := by
  cases hg : Tbl.get register n with
  | none => rfl
  | some row => simp [h row hg]

/-- A new sale record is journaled and registered (R40, R52), or refused by a full journal. -/
theorem takeSale_new {src : Addr} {n saleSeq : Nat} {body : List Byte} {s : State}
    (h : ∀ row, Tbl.get s.till.register n = some row → row.saleSeq ≠ saleSeq) :
    (s.journal.count < 16384 → ∃ u b c l, takeSale src n saleSeq body s = u ∧
      u.journal = { s.journal with
        records := s.journal.records ++ [⟨s.journal.free, n, saleSeq, s.clock.time, body⟩], free := seqAfter s.journal.free,
        highArmed := b, fullArmed := c } ∧
      u.till = { s.till with register := Tbl.put s.till.register n ⟨saleSeq, s.journal.free⟩, backlog := s.till.backlog ++ l }) ∧
    (16384 ≤ s.journal.count → takeSale src n saleSeq body s = answerSale src n saleSeq false 0 s) := by
  unfold takeSale
  rw [register_filter_none h]
  dsimp only
  refine ⟨fun hlt => ?_, fun hge => ?_⟩
  · have htake : journalTake n saleSeq body s = some (s.journal.free, testLevels (count (occQ .journalRecords 0)
        (setJournal { s.journal with
          records := s.journal.records ++ [⟨s.journal.free, n, saleSeq, s.clock.time, body⟩], free := seqAfter s.journal.free } s))) :=
      if_pos hlt
    obtain ⟨b, c, hj⟩ := testLevels_journal (count (occQ .journalRecords 0) (setJournal { s.journal with
      records := s.journal.records ++ [⟨s.journal.free, n, saleSeq, s.clock.time, body⟩], free := seqAfter s.journal.free } s))
    have ht : (testLevels (count (occQ .journalRecords 0) (setJournal { s.journal with
      records := s.journal.records ++ [⟨s.journal.free, n, saleSeq, s.clock.time, body⟩], free := seqAfter s.journal.free } s))).till =
        s.till := by simp [setJournal]
    rw [htake]
    dsimp only
    generalize testLevels _ = levels at hj ht
    obtain ⟨l, hl⟩ := answerSale_till src n saleSeq true s.journal.free
      (setTill { levels.till with register := Tbl.put levels.till.register n ⟨saleSeq, s.journal.free⟩ } levels)
    refine ⟨_, b, c, l, rfl, ?_, ?_⟩
    · simp [answerSale, setTill, hj, setJournal]
    · rw [hl]
      simp [setTill, ht]
  · have htake : journalTake n saleSeq body s = none := if_neg (Nat.not_lt.2 hge)
    rw [htake]

/-- A sale record leaves the rest of the intake queue. -/
theorem takeSale_intake (src : Addr) (n saleSeq : Nat) (body : List Byte) (s : State) :
    (takeSale src n saleSeq body s).till.intake = s.till.intake := by
  by_cases h : ∃ row, Tbl.get s.till.register n = some row ∧ row.saleSeq = saleSeq
  · obtain ⟨row, hr, hq⟩ := h
    obtain ⟨l, hl⟩ := answerSale_till src n saleSeq true row.journalSeq s
    rw [takeSale_repeat hr hq, hl]
  · obtain ⟨hroom, hfull⟩ := takeSale_new (src := src) (body := body) fun row hr hq => h ⟨row, hr, hq⟩
    rcases Nat.lt_or_ge s.journal.count 16384 with hc | hc
    · obtain ⟨u, b, c, l, hu, -, ht⟩ := hroom hc
      rw [hu, ht]
    · obtain ⟨l, hl⟩ := answerSale_till src n saleSeq false 0 s
      rw [hfull hc, hl]

/-- Settles O38: a repeat is answered from the register, a new record journaled, and none taken by a full journal. -/
theorem saleTaken : Obligations.SaleTaken := by
  intro src n saleSeq body rest s hb hi
  have hto := takeIntakeStep_sale (s := s) hb hi
  generalize htaken : setTill { s.till with intake := rest } s = taken at hto
  have htill : taken.till = { s.till with intake := rest } := by rw [← htaken]; rfl
  have hjournal : taken.journal = s.journal := by rw [← htaken]; rfl
  have hclock : taken.clock = s.clock := by rw [← htaken]; rfl
  have hframe : OnlyChanges [.till] s taken := by rw [← htaken]; simp [onlyChanges_iff, setTill]
  have hsame : { s with till := { s.till with intake := rest } } = taken := htaken
  refine ⟨_, exec_eq_after _ s, ?_⟩
  rw [after_takeIntakeEntry, hto, hsame]
  refine ⟨(hframe.mono (by simp)).trans (by simp [onlyChanges_iff]), ?_, fun row hr hq => ?_, fun hnew => ⟨fun hlt => ?_, fun hge => ?_⟩⟩
  · rw [takeSale_intake, htill]
  · have hrep := takeSale_repeat (src := src) (body := body) (s := taken) (by rw [htill]; exact hr) hq
    obtain ⟨l, hl⟩ := answerSale_till src n saleSeq true row.journalSeq taken
    rw [hrep, hl, htill]
    exact ⟨by simp [answerSale, hjournal], rfl, rfl⟩
  · obtain ⟨u, b, c, l, hu, hj, ht⟩ := (takeSale_new (src := src) (body := body) (s := taken) (by rw [htill]; exact hnew)).1 (by rwa [hjournal])
    rw [hu, hj, ht, hjournal, hclock]
    exact ⟨rfl, rfl, rfl, rfl, by simp⟩
  · have href := (takeSale_new (src := src) (body := body) (s := taken) (by rw [htill]; exact hnew)).2 (by rwa [hjournal])
    obtain ⟨l, hl⟩ := answerSale_till src n saleSeq false 0 taken
    rw [href, hl, htill]
    exact ⟨by simp [answerSale, hjournal], rfl, rfl⟩

/-! ### Time-outs -/

theorem askTimeoutStep_due {n : Nat} {a : LiveAsk} {s : State} (ha : Tbl.get s.till.asks n = some a)
    (hd : s.settings.askTimeout * 1000 ≤ elapsed s.now a.sent) :
    askTimeoutStep n s = endAsk n a (emptyQuote .unknown true) (count (occ .askTimeouts) s) := by
  unfold askTimeoutStep
  rw [ha]
  exact if_pos hd

theorem askTimeoutStep_early {n : Nat} {s : State}
    (h : ∀ a, Tbl.get s.till.asks n = some a → elapsed s.now a.sent < s.settings.askTimeout * 1000) : askTimeoutStep n s = s := by
  unfold askTimeoutStep
  split
  · next a ha => exact if_neg (Nat.not_le.2 (h a ha))
  · rfl

/-- Where the answer that ends a referral goes (R45, R161). -/
theorem endAsk_backlog (n : Nat) (a : LiveAsk) (q : Quote) (s : State) :
    (s.linkIsUp .till = false → (endAsk n a q s).till.backlog = s.till.backlog) ∧
    (s.till.backlog ≠ [] → s.linkIsUp .till = true →
      (endAsk n a q s).till.backlog = s.till.backlog ++ [build s .till a.src .priceAns (priceAnsBody a.tag a.code q)]) := by
  have hto : (endAsk n a q s).till.backlog = (sendTill (build s .till a.src .priceAns (priceAnsBody a.tag a.code q))
    (count (occQ .asksAnswered q.outcome.index) s)).till.backlog := rfl
  rw [hto]
  unfold sendTill
  generalize hm : build s .till a.src .priceAns (priceAnsBody a.tag a.code q) = m
  have hp : m.port = .till := by rw [← hm]; rfl
  have hlink : (count (occQ .asksAnswered q.outcome.index) s).linkIsUp m.port = s.linkIsUp .till := by rw [hp]; rfl
  rcases sendBehind_cases .tillService s.till.backlog m (fun t => setTill { t.till with backlog := t.till.backlog ++ [m] } t)
    (count (occQ .asksAnswered q.outcome.index) s) with ⟨hw, hl, h⟩ | ⟨hl, h⟩ | ⟨hw, hl, -, h⟩ | ⟨hw, hl, -, h⟩
  · refine ⟨fun hd => ?_, fun _ _ => by rw [count_till, h]; rfl⟩
    rw [hlink, hd] at hl
    cases hl
  · refine ⟨fun _ => by rw [count_till, h]; rfl, fun _ hu => ?_⟩
    rw [hlink, hu] at hl
    cases hl
  · refine ⟨fun hd => ?_, fun hne => absurd hw hne⟩
    rw [hlink, hd] at hl
    cases hl
  · refine ⟨fun hd => ?_, fun hne => absurd hw hne⟩
    rw [hlink, hd] at hl
    cases hl

/-- Settles O39: each time-out acts once it is due, and before that not at all. -/
theorem askAndAckTimeouts : Obligations.AskAndAckTimeouts := by
  refine ⟨fun n s => ⟨_, exec_eq_after _ s, ?_⟩, fun start s hs => ⟨fun hd => ⟨_, exec_eq_after _ s, ?_⟩, fun he => ?_⟩⟩
  · rw [after_askTimeout]
    refine ⟨by simp [onlyChanges_iff], fun a ha hd => ?_, fun a ha he => ?_, fun hn => ?_⟩
    · rw [askTimeoutStep_due ha hd]
      obtain ⟨l, hl⟩ := endAsk_till n a (emptyQuote .unknown true) (count (occ .askTimeouts) s)
      obtain ⟨hdown, hup⟩ := endAsk_backlog n a (emptyQuote .unknown true) (count (occ .askTimeouts) s)
      exact ⟨by rw [hl]; rfl, by rw [hl]; rfl, by rw [hl]; rfl, hdown, hup⟩
    · refine askTimeoutStep_early fun b hb => ?_
      rw [ha] at hb
      cases hb
      exact he
    · exact askTimeoutStep_early fun b hb => by rw [hn] at hb; cases hb
  · rw [after_ackTimeout]
    have hto : ackTimeoutStep s = rewind (count (occ .ackTimeouts) s) := by
      unfold ackTimeoutStep
      rw [hs]
      exact if_pos hd
    rw [hto]
    exact ⟨by simp [onlyChanges_iff, rewind, setJournal], rfl, rfl⟩
  · have hto : ackTimeoutStep s = s := by
      unfold ackTimeoutStep
      rw [hs]
      exact if_neg (Nat.not_le.2 he)
    rw [exec_eq_after, after_ackTimeout, hto]

/-! ### The upload -/

theorem journalSendStep_sends {r : SaleRec} {s : State} (hu : s.uplink.state = .up ∨ s.uplink.state = .degraded)
    (hh : s.settings.headOffice ≠ 0) (hheld : 0 < s.journal.heldCount) (hsent : s.journal.sentCount < 64) (hc : 1000 ≤ s.journal.credit)
    (hn : s.journal.held = none) (hr : s.journal.records.find? (fun x => x.seq == s.journal.next) = some r) :
    journalSendStep s = sendRecord r s := by
  have hready : s.sendReady = true := by
    have hh' : (s.settings.headOffice != 0) = true := by simpa using hh
    have hu' : (s.uplink.state == .up || s.uplink.state == .degraded) = true := by simpa using hu
    simp only [State.sendReady, hu', hh', hheld, hsent, hc, hn, decide_true, Option.isNone_none, Bool.and_self]
  unfold journalSendStep
  rw [if_pos hready, hr]

/-- Settles O40: the marks move as the record is built, and the message waits when the pool refuses it. -/
theorem journalSend : Obligations.JournalSend := by
  intro r s hu hh hheld hsent hc hn hr fresh m
  refine ⟨_, exec_eq_after _ s, ?_⟩
  rw [after_journalSend]
  refine ⟨by simp [onlyChanges_iff], ?_⟩
  rw [journalSendStep_sends hu hh hheld hsent hc hn hr]
  have hto : sendRecord r s = offerOr .journalUpload m (fun u => setJournal { u.journal with held := some m } u)
    (count (occQ .journalRecords 1) (setJournal { s.journal with
      next := seqAfter s.journal.next
      credit := s.journal.credit - 1000
      ackTimer := if s.journal.sentCount = 0 then some s.now else s.journal.ackTimer } s)) := rfl
  rw [hto]
  generalize hmoved : count (occQ .journalRecords 1) (setJournal { s.journal with
      next := seqAfter s.journal.next
      credit := s.journal.credit - 1000
      ackTimer := if s.journal.sentCount = 0 then some s.now else s.journal.ackTimer } s) = moved
  have hj : moved.journal = { s.journal with
      next := seqAfter s.journal.next
      credit := s.journal.credit - 1000
      ackTimer := if s.journal.sentCount = 0 then some s.now else s.journal.ackTimer } := by rw [← hmoved]; rfl
  have hpool : moved.pool = s.pool := by rw [← hmoved]; rfl
  have hmon : moved.mon.counters = s.mon.counters.map
      (fun c => if c.admits ⟨.journalRecords, some 1, none, none⟩ then c.add 1 else c) := by rw [← hmoved]; rfl
  have hlink : moved.linkIsUp m.port = s.linkIsUp .uplink := linkIsUp_of_pool hpool _
  unfold offerOr
  obtain ⟨hl, ho⟩ | ⟨hl, hcells, ho⟩ | ⟨hl, hcells, ho⟩ := offer_spec .journalUpload m moved
  · rw [ho, if_pos rfl, count_journal, hj]
    refine ⟨rfl, rfl, rfl, rfl, rfl, rfl, rfl, fun hup => ?_, fun _ => hn⟩
    rw [← hlink, hl] at hup
    cases hup
  · rw [ho, if_pos rfl, (enqueue_frame _ _ _).2.2.2.2.2.2.2.2.2.1, hj]
    exact ⟨rfl, rfl, rfl, rfl, rfl, rfl, rfl, fun _ hfew => absurd (hpool ▸ hcells) (Nat.not_le.2 hfew), fun _ => hn⟩
  · rw [ho]
    simp only [Bool.false_eq_true, if_false, setJournal, hj]
    refine ⟨trivial, trivial, trivial, trivial, trivial, trivial, trivial, fun _ _ => ⟨trivial, hpool, hmon⟩, fun hor => ?_⟩
    rcases hor with hdown | hfit
    · rw [← hlink, hl] at hdown
      cases hdown
    · exact absurd (hpool ▸ hfit) (Nat.not_le.2 hcells)

/-! ### Refills -/

/-- Settles O41: each refill writes its own figures. -/
theorem tickRefills : Obligations.TickRefills := by
  intro s rate fill
  refine ⟨rfl, _, exec_eq_after _ s, ?_⟩
  rw [after_bucketRefill]
  refine ⟨by simp [onlyChanges_iff], rfl, rfl, rfl, rfl, fun k => ?_⟩
  exact Tbl.get_map s.guest.table (fun g => g.refilled s.settings.clientRate s.settings.clientDepth) k

end Sys2Proof.Machine

/-! The clock, the exchange's own steps, the probe timer and the second steps (O43, O45 to O47). -/

namespace Sys2Proof.Machine

/-! ### The clock's second -/

theorem windowAt_iff {o c x : Nat} : windowAt o c x = true ↔ (o < c ∧ o ≤ x ∧ x < c) ∨ (c < o ∧ (o ≤ x ∨ x < c)) := by
  unfold windowAt
  split
  · next h => simp [h, Nat.lt_asymm h]
  · next h =>
    split
    · next h' => simp [h, h']
    · next h' => simp [h, h']

theorem clockSecondStep_acts {s : State} (hs : s.clock.isSet = true) (hh : ¬(s.clock.day = 65535 ∧ s.clock.second = 86399)) :
    clockSecondStep s = recomputeWindow { s with clock := s.clock.nextSecond } := by
  have hheld : s.clock.isHeld = false := by
    rw [Clock.isHeld, Bool.and_eq_false_iff]
    rcases not_and_or.1 hh with h | h
    · exact .inl (by simpa using h)
    · exact .inr (by simpa using h)
  exact if_pos ⟨hs, hheld⟩

/-- The next second of a clock (R85). -/
theorem Clock.nextSecond_spec (c : Clock) : c.nextSecond.isSet = c.isSet ∧ c.nextSecond.phase = 0 ∧
    (c.second = 86399 → c.nextSecond.day = c.day + 1 ∧ c.nextSecond.second = 0) ∧
    (c.second ≠ 86399 → c.nextSecond.day = c.day ∧ c.nextSecond.second = c.second + 1) := by
  unfold Clock.nextSecond
  by_cases h : c.second = 86399
  · have hend : c.second + 1 = daySeconds := by rw [h]; rfl
    rw [if_pos hend]
    exact ⟨rfl, rfl, fun _ => ⟨rfl, rfl⟩, fun hn => absurd h hn⟩
  · have hend : ¬c.second + 1 = daySeconds := by
      unfold daySeconds
      omega
    rw [if_neg hend]
    exact ⟨rfl, rfl, fun h' => absurd h' h, fun _ => ⟨rfl, rfl⟩⟩

/-- Settles O43: the clock takes its next second, and the window is tested on it. -/
theorem clockSecond : Obligations.ClockSecond := by
  intro s hset hheld
  obtain ⟨hisSet, hphase, hend, hnext⟩ := s.clock.nextSecond_spec
  have hwindow : (recomputeWindow { s with clock := s.clock.nextSecond }).windowIn =
      windowAt s.settings.openSecond s.settings.closeSecond s.clock.nextSecond.second := by
    rw [recomputeWindow_windowIn]
    simp [State.windowNow, hisSet, hset]
  have hclock : (recomputeWindow { s with clock := s.clock.nextSecond }).clock = s.clock.nextSecond := by simp
  refine ⟨_, exec_eq_after _ s, ?_⟩
  rw [after_clockSecond, clockSecondStep_acts hset hheld]
  refine ⟨by simp [onlyChanges_iff], ?_⟩
  rw [hclock]
  refine ⟨hisSet.trans hset, hphase, hend, hnext, by rw [hwindow, windowAt_iff], fun c hc hin hout hany => ?_⟩
  rw [recomputeWindow_windowIn] at hout
  rw [recomputeWindow_exchState, if_pos ⟨hin, hout, hany⟩]
  exact congrArg Exchange.state (Exchange.dropOpen_of_staging (e := s.exch) hc)

/-! ### The exchange's own steps -/

/-- A discard of the open batch raises its notice (R114). -/
theorem discardBatch_notice (r : DiscardReason) {c : StagingCtx} {s : State} (h : s.exch.state = .staging c) :
    ∃ x ∈ (discardBatch r s).mgmt.notices, x.number = s.mgmt.nextNotice ∧
      x.body = .batchResult c.batch (some r) c.received 0 c.refused s.exch.lastBatch := by
  unfold discardBatch
  rw [h]
  dsimp only
  have hnumber : ∀ u : State, u.mgmt = s.mgmt → ∃ x ∈ (raiseNotice (.batchResult c.batch (some r) c.received 0 c.refused s.exch.lastBatch)
      u).mgmt.notices, x.number = s.mgmt.nextNotice ∧ x.body = .batchResult c.batch (some r) c.received 0 c.refused s.exch.lastBatch := by
    intro u hu
    rw [← hu]
    exact raiseNotice_queued _ u
  split
  · exact hnumber _ (by simp [setExchState])
  · exact hnumber _ (by simp [setExchState])

/-- One change handed to the schedule; the last one ends the commit (R111, R112). -/
theorem commitChangeStep_committing {k : CommitCtx} {c : Change} {rest : List Change} {s : State}
    (hs : s.exch.state = .committing k) (hq : k.queue = c :: rest) :
    let r := insertPending k.batch c s
    (rest = [] → commitChangeStep s = endCommit (k.after c rest r.1) (setExchState (.committing (k.after c rest r.1)) r.2)) ∧
      (rest ≠ [] → commitChangeStep s = setExchState (.committing (k.after c rest r.1)) r.2) := by
  unfold commitChangeStep
  rw [hs]
  dsimp only
  rw [hq]
  exact ⟨fun h => if_pos h, fun h => if_neg h⟩

theorem CommitCtx.after_spec (k : CommitCtx) (c : Change) (rest : List Change) (done : Bool) :
    (k.after c rest done).queue = rest ∧ (k.after c rest done).batch = k.batch ∧
      (done = true → (k.after c rest done).committed = k.committed + 1 ∧ (k.after c rest done).refused = k.refused) ∧
      (done = false → (k.after c rest done).committed = k.committed ∧ (k.after c rest done).refused = k.refused + 1) := by
  cases done
  · exact ⟨rfl, rfl, fun h => (nomatch h), fun _ => ⟨rfl, rfl⟩⟩
  · exact ⟨rfl, rfl, fun _ => ⟨rfl, rfl⟩, fun h => (nomatch h)⟩

theorem insertPending_done (batch : Nat) (c : Change) (s : State) :
    ((∃ x ∈ s.sched.entries, x.change.alike c = true) ∨ s.sched.entries.length < 8192 → (insertPending batch c s).1 = true) ∧
    (¬(∃ x ∈ s.sched.entries, x.change.alike c = true) → 8192 ≤ s.sched.entries.length → (insertPending batch c s).1 = false) := by
  obtain ⟨hp, h⟩ | ⟨hp, hroom, h⟩ | ⟨hp, hfull, h⟩ := insertPending_cases batch c s <;> rw [h]
  · exact ⟨fun _ => rfl, fun hn => absurd hp hn⟩
  · exact ⟨fun _ => rfl, fun _ hge => absurd hroom (Nat.not_lt.2 hge)⟩
  · exact ⟨fun hor => hor.elim (fun h => absurd h hp) (fun h => absurd h (Nat.not_lt.2 hfull)), fun _ _ => rfl⟩

/-- Settles O45: the quiet time-out discards, and one change goes to its place in the list. -/
theorem quietTimeoutAndCommitChange : Obligations.QuietTimeoutAndCommitChange := by
  refine ⟨fun c s hs => ⟨fun hd => ⟨_, exec_eq_after _ s, ?_⟩, fun he => ?_⟩, fun k c rest s hs hq => ?_⟩
  · have hto : quietTimeoutStep s = discardBatch .quiet s := by
      unfold quietTimeoutStep
      rw [hs]
      exact if_pos hd
    obtain ⟨l, -, hexch, -⟩ := discardBatch_exch .quiet s
    rw [after_quietTimeout, hto]
    refine ⟨by simp [onlyChanges_iff], ?_, ?_, discardBatch_notice .quiet hs⟩
    · rw [hexch, Exchange.dropOpen_of_staging hs]
    · rw [hexch, Exchange.dropOpen_of_staging hs]
  · have hto : quietTimeoutStep s = s := by
      unfold quietTimeoutStep
      rw [hs]
      exact if_neg (Nat.not_le.2 he)
    rw [exec_eq_after, after_quietTimeout, hto]
  · intro present
    refine ⟨_, exec_eq_after _ s, ?_⟩
    rw [after_commitChange]
    obtain ⟨hlast, hmore⟩ := commitChangeStep_committing hs hq
    obtain ⟨hqueue, hbatch, hdone, hrefused⟩ := k.after_spec c rest (insertPending k.batch c s).1
    obtain ⟨hin, hfull⟩ := insertPending_done k.batch c s
    have hsched : (commitChangeStep s).sched = (insertPending k.batch c s).2.sched := by
      by_cases h : rest = []
      · rw [hlast h]
        simp [setExchState]
      · rw [hmore h]
        rfl
    refine ⟨by simp [onlyChanges_iff], ?_⟩
    rw [hsched]
    refine ⟨fun hp => ?_, fun hp hroom => ?_, fun hp hge => ?_, fun h => ?_, fun h => ?_⟩
    · obtain ⟨-, hi⟩ | ⟨hn, -⟩ | ⟨hn, -⟩ := insertPending_cases k.batch c s
      · rw [hi]
        exact ⟨rfl, rfl⟩
      · exact absurd hp hn
      · exact absurd hp hn
    · obtain ⟨hy, -⟩ | ⟨-, -, hi⟩ | ⟨-, hge, -⟩ := insertPending_cases k.batch c s
      · exact absurd hy hp
      · rw [hi]
        exact ⟨rfl, rfl⟩
      · exact absurd hroom (Nat.not_lt.2 hge)
    · obtain ⟨hy, -⟩ | ⟨-, hroom, -⟩ | ⟨-, -, hi⟩ := insertPending_cases k.batch c s
      · exact absurd hy hp
      · exact absurd hroom (Nat.not_lt.2 hge)
      · rw [hi]
    · obtain ⟨l, -, he⟩ := endCommit_exch (k.after c rest (insertPending k.batch c s).1)
        (setExchState (.committing (k.after c rest (insertPending k.batch c s).1)) (insertPending k.batch c s).2)
      rw [hlast h, he]
      exact ⟨rfl, hbatch⟩
    · rw [hmore h]
      refine ⟨_, rfl, hqueue, hbatch, ?_, ?_, fun hp => hdone (hin hp), fun hp hge => hrefused (hfull hp hge)⟩
      · simp [setExchState]
      · simp [setExchState]

/-! ### The probe timer -/

/-- What a lost probe leaves of the uplink monitor (R125, R130). -/
theorem loseProbe_uplink (s : State) : (loseProbe s).uplink.seq = s.uplink.seq ∧ (loseProbe s).uplink.goodRun = 0 ∧
    (loseProbe s).uplink.slowRun = 0 ∧
    (s.uplink.state = .fallback → (loseProbe s).uplink.state = .fallback ∧ (loseProbe s).uplink.lostRun = min 3 (s.uplink.lostRun + 1)) ∧
    (s.uplink.state = .recovering → (loseProbe s).uplink.state = .fallback) ∧
    (s.uplink.state = .up ∨ s.uplink.state = .degraded →
      (loseProbe s).uplink.state = if 2 ≤ s.uplink.lostRun then .fallback else s.uplink.state) := by
  unfold loseProbe
  dsimp only
  generalize hu : count (occQ .probeOutcomes 2)
    (setUplink { s.uplink with lostRun := min 3 (s.uplink.lostRun + 1), slowRun := 0, goodRun := 0, held := none } s) = u
  have huplink : u.uplink = { s.uplink with lostRun := min 3 (s.uplink.lostRun + 1), slowRun := 0, goodRun := 0, held := none } := by
    rw [← hu]
    rfl
  have hfalls : s.uplink.state ≠ .fallback → (changeUplink .fallback .lost u).uplink =
      { s.uplink with state := .fallback, lostRun := 0, slowRun := 0, goodRun := 0, held := none } := fun hne => by
    rw [changeUplink_uplink (by rw [huplink]; exact hne), huplink]
  have hthird : s.uplink.state = .up ∨ s.uplink.state = .degraded →
      (if min 3 (s.uplink.lostRun + 1) = 3 then changeUplink .fallback .lost u else u).uplink.state =
        (if 2 ≤ s.uplink.lostRun then .fallback else s.uplink.state) ∧
      (if min 3 (s.uplink.lostRun + 1) = 3 then changeUplink .fallback .lost u else u).uplink.seq = s.uplink.seq ∧
      (if min 3 (s.uplink.lostRun + 1) = 3 then changeUplink .fallback .lost u else u).uplink.goodRun = 0 ∧
      (if min 3 (s.uplink.lostRun + 1) = 3 then changeUplink .fallback .lost u else u).uplink.slowRun = 0 := fun hs => by
    have hne : s.uplink.state ≠ .fallback := by rcases hs with h | h <;> simp [h]
    by_cases h2 : 2 ≤ s.uplink.lostRun
    · rw [if_pos (by omega : min 3 (s.uplink.lostRun + 1) = 3), if_pos h2, hfalls hne]
      exact ⟨rfl, rfl, rfl, rfl⟩
    · rw [if_neg (by omega : ¬min 3 (s.uplink.lostRun + 1) = 3), if_neg h2, huplink]
      exact ⟨rfl, rfl, rfl, rfl⟩
  cases hs : s.uplink.state with
  | fallback => simp [huplink, hs]
  | recovering => simp [hfalls (by simp [hs])]
  | up => simpa [hs, and_assoc, and_comm, and_left_comm] using hthird (.inl hs)
  | degraded => simpa [hs, and_assoc, and_comm, and_left_comm] using hthird (.inr hs)

/-- Settles O46: the probe is judged, then the next one is built. -/
theorem probeTimer : Obligations.ProbeTimer := by
  intro start p s ht hd hp lost
  have hto : probeTimerStep s = buildProbe (judgeProbe s) := by
    unfold probeTimerStep
    rw [ht]
    exact if_pos hd
  obtain ⟨h, hb⟩ := buildProbe_uplink (judgeProbe s)
  have hnow : (judgeProbe s).now = s.now := by simp
  have hlost : lost → judgeProbe s = loseProbe s := fun hl => if_pos (by simp [hp, show p.answered = false from hl])
  have hkept : ¬lost → judgeProbe s = s := fun hl => if_neg (by simp [hp, Bool.of_not_eq_false hl])
  have hseq : (judgeProbe s).uplink.seq = s.uplink.seq := by
    by_cases hl : lost
    · rw [hlost hl, (loseProbe_uplink s).1]
    · rw [hkept hl]
  obtain ⟨-, hgood, hslow, hfall, hrec, hup⟩ := loseProbe_uplink s
  refine ⟨_, exec_eq_after _ s, ?_⟩
  rw [after_probeTimer]
  refine ⟨by simp [onlyChanges_iff], ?_⟩
  rw [hto, hb, hseq, hnow]
  refine ⟨rfl, rfl, rfl, fun hl => ?_, fun hl => ?_, fun hl hs => ?_, fun hl hs => ?_, fun hl hs => ?_⟩
  · rw [hkept hl]
    exact ⟨rfl, rfl⟩
  · rw [hlost hl]
    exact ⟨hgood, hslow⟩
  · rw [hlost hl]
    exact hfall hs
  · rw [hlost hl]
    exact hrec hs
  · rw [hlost hl]
    exact hup hs

/-! ### The second steps -/

/-- Settles O47: each step maps the tables entry by entry. -/
theorem secondSteps : Obligations.SecondSteps := by
  refine ⟨fun s hs => ⟨_, exec_eq_after _ s, ?_⟩, fun s hs => ⟨_, exec_eq_after _ s, ?_⟩⟩
  · rw [after_ageingStep]
    refine ⟨by simp [onlyChanges_iff], rfl, rfl, rfl, rfl, rfl, rfl, fun k => ?_, fun k => ageingStepBody_guest hs k⟩
    rw [ageingStepBody_station hs]
    cases Tbl.get s.stations.table k with
    | none => rfl
    | some e =>
      have hout : agesOut s.settings.ageLimit e = decide (e.loaded = false ∧ s.settings.ageLimit < min 65535 (e.age + 1)) := by
        simp [agesOut, Station.aged]
      by_cases h : e.loaded = false ∧ s.settings.ageLimit < min 65535 (e.age + 1)
      · rw [Option.filter_some_neg (by simp [hout, h]), Option.bind_some, if_pos h]
        rfl
      · rw [Option.filter_some_pos (by simp only [hout, h, decide_false, Bool.not_false]), Option.bind_some, if_neg h]
        rfl
  · rw [after_guestSecondStep]
    refine ⟨by simp [onlyChanges_iff], rfl, rfl, rfl, rfl, rfl, fun k g hg hl => ?_, fun k g hg hl => ?_, fun k hg => ?_, fun he => ?_,
      fun a he hlen => ?_⟩
    · rw [guestSecondStepBody_guest hs, guestSecondStepBody_station hs, hg]
      simp [Option.filter, hl]
    · rw [guestSecondStepBody_guest hs, guestSecondStepBody_station hs, hg]
      simp [Option.filter, Nat.not_le.2 hl]
    · rw [guestSecondStepBody_guest hs, guestSecondStepBody_station hs, hg]
      simp
    · have hcool : (guestSecondStepBody s).guest.coolOff = s.guest.expiring.foldl (joinCoolOff s.settings.coolOff)
          ((s.guest.coolOff.map (fun c => (c.1, c.2 - 1))).filter (fun c => c.2 != 0)) := rfl
      rw [hcool, he]
      rfl
    · have hcool : (guestSecondStepBody s).guest.coolOff = s.guest.expiring.foldl (joinCoolOff s.settings.coolOff)
          ((s.guest.coolOff.map (fun c => (c.1, c.2 - 1))).filter (fun c => c.2 != 0)) := rfl
      have hroom : ¬64 ≤ ((s.guest.coolOff.map (fun c => (c.1, c.2 - 1))).filter (fun c => c.2 != 0)).length := by
        have := List.length_filter_le (fun c : Addr × Nat => c.2 != 0) (s.guest.coolOff.map (fun c => (c.1, c.2 - 1)))
        rw [List.length_map] at this
        omega
      rw [hcool, he]
      simp only [List.foldl_cons, List.foldl_nil, joinCoolOff]
      rw [if_neg hroom]

end Sys2Proof.Machine

/-! Writes of the item table, and the activation of a pending change (O44). -/

namespace Sys2Proof.Machine

/-! ### Writes -/

section
variable {code slot : Nat} {f : ItemFields} {r : ItemRec} {s : State}

/-- A write of an item present (R7, R10, R11). -/
theorem writeItem_present (h : findItem s.items code = some (slot, r)) (hf : f.valid = true) :
    writeItem code f s = (.done, oweAll (if sameOnLabels r.fields f then [] else r.labels)
      { s with items := Tbl.put s.items slot (r.write f) }) := by
  have hv : validCode code = true := validCode_of_lookup (lookupItem_of_find h)
  simp [writeItem, storeItem, hv, hf, h]

/-- A write that creates an item in the lowest free way (R5). -/
theorem writeItem_created {w : Nat} (hv : validCode code = true) (h : findItem s.items code = none) (hf : f.valid = true)
    (hw : freeWay s.items code = some w) :
    writeItem code f s = (.done, { s with items := Tbl.put s.items (slotOf code w) ⟨code, f, 1, []⟩ }) := by
  simp [writeItem, storeItem, createItem, hv, hf, h, hw, oweAll]

/-- A write for which the bucket is full (R5). -/
theorem writeItem_full (hv : validCode code = true) (h : findItem s.items code = none) (hf : f.valid = true)
    (hw : freeWay s.items code = none) : writeItem code f s = (.full, s) := by
  simp [writeItem, storeItem, createItem, hv, hf, h, hw, oweAll]

/-- A write of a code out of range or of fields not valid (R3). -/
theorem writeItem_invalid (h : validCode code = false ∨ f.valid = false) : writeItem code f s = (.badField, s) := by
  have hb : (validCode code && f.valid) = false := by rcases h with h | h <;> simp [h]
  simp [writeItem, storeItem, hb, oweAll]

end

/-! ### The request of a change -/

/-- Why a SET fails (R92). -/
def setFailure : WriteOutcome → Option ActFailReason
  | .full => some .bucketFull
  | .badField => some .badField
  | _ => none

/-- Why a BIND fails (R92). -/
def bindFailure : WriteOutcome → Option ActFailReason
  | .notFound => some .noItem
  | .full => some .labelsFull
  | _ => none

section
variable {c : Change} {s : State}

theorem applyChange_set {p : PartialFields} {f : ItemFields} (h : c.action = .set p) (hf : mergedFields c.code p s.items = f)
    {o : WriteOutcome} {u : State} (hw : writeItem c.code f s = (o, u)) :
    applyChange c s = (setFailure o, u) := by
  unfold applyChange
  rw [h]
  dsimp only
  rw [hf, hw]
  cases o <;> rfl

theorem applyChange_delete (h : c.action = .delete) : applyChange c s = (none, (deleteItem c.code s).2) := by
  unfold applyChange
  rw [h]

theorem applyChange_unbind {l : Nat} (h : c.action = .unbind l) : applyChange c s = (none, (unbindLabel l c.code s).2) := by
  unfold applyChange
  rw [h]

theorem applyChange_bind {l : Nat} (h : c.action = .bind l) {o : WriteOutcome} {u : State} (hb : bindLabel l c.code s = (o, u)) :
    applyChange c s = (bindFailure o, u) := by
  unfold applyChange
  rw [h]
  dsimp only
  rw [hb]
  cases o <;> rfl

theorem mergedFields_present {code : Nat} {p : PartialFields} {items : SMap ItemRec} {r : ItemRec} (h : lookupItem items code = some r) :
    mergedFields code p items = r.fields.apply p := by
  simp [mergedFields, h]

theorem mergedFields_absent {code : Nat} {p : PartialFields} {items : SMap ItemRec} (h : lookupItem items code = none) :
    mergedFields code p items = creationDefaults.apply p := by
  simp [mergedFields, h]

end

/-! ### Bindings -/

/-- The two spellings of a list without a label. -/
theorem filter_ne_eq (l : List Nat) (n : Nat) : l.filter (fun m => m ≠ n) = l.filter (fun m => !(m == n)) :=
  List.filter_congr fun m _ => by by_cases h : m = n <;> simp [h]

section
variable {n code : Nat} {r : ItemRec} {s : State}

/-- What a bind that is carried out leaves (R13). -/
theorem bindLabel_leaves (hr : lookupItem s.items code = some r) (hn : n ∉ r.labels) (hl : r.labels.length < 4) :
    let t := (bindLabel n code s).2
    (bindLabel n code s).1 = .done ∧ lookupItem t.items code = some { r with labels := r.labels ++ [n] } ∧
      (t.label n).bound = some code ∧
      (∀ other o, (s.label n).bound = some other → other ≠ code → lookupItem s.items other = some o →
        lookupItem t.items other = some { o with labels := o.labels.filter (fun m => m ≠ n) }) ∧
      ∀ other, other ≠ code → (s.label n).bound ≠ some other → lookupItem t.items other = lookupItem s.items other := by
  have hitems : ∀ other, lookupItem (bindLabel n code s).2.items other = lookupItem
      (setItemLabels code (fun ls => ls ++ [n]) (freed n s)).items other := fun other => by
    rw [bindLabel_done hr hn hl]
    simp
  have hsame : r.labels.filter (fun m => !(m == n)) = r.labels :=
    List.filter_eq_self.2 fun m hm => by simpa using fun h : m = n => hn (h ▸ hm)
  have hfreed : lookupItem (freed n s).items code = some r := by
    rw [freed_lookup, hr]
    split
    · simp [hsame]
    · rfl
  dsimp only
  refine ⟨by rw [bindLabel_done hr hn hl], ?_, ?_, fun other o hb hne ho => ?_, fun other hne hb => ?_⟩
  · rw [hitems, setItemLabels_lookup, if_pos rfl, hfreed]
    rfl
  · rw [bindLabel_done hr hn hl]
    simp
  · rw [hitems, setItemLabels_lookup, if_neg hne, freed_lookup, if_pos hb, ho, filter_ne_eq]
    rfl
  · rw [hitems, setItemLabels_lookup, if_neg hne, freed_lookup, if_neg hb]

theorem bindLabel_noItem (h : lookupItem s.items code = none) : bindLabel n code s = (.notFound, s) := by
  simp [bindLabel, h]

theorem bindLabel_bound (hr : lookupItem s.items code = some r) (hn : n ∈ r.labels) : bindLabel n code s = (.done, s) := by
  simp [bindLabel, hr, hn]

theorem bindLabel_full (hr : lookupItem s.items code = some r) (hn : n ∉ r.labels) (hl : 4 ≤ r.labels.length) :
    bindLabel n code s = (.full, s) := by
  simp [bindLabel, hr, hn, hl]

/-- What an unbind that is carried out leaves (R14). -/
theorem unbindLabel_leaves (hr : lookupItem s.items code = some r) (hn : n ∈ r.labels) :
    let t := (unbindLabel n code s).2
    lookupItem t.items code = some { r with labels := r.labels.filter (fun m => m ≠ n) } ∧ (t.label n).bound = none ∧
      ∀ other, other ≠ code → lookupItem t.items other = lookupItem s.items other := by
  have hdone : unbindLabel n code s =
      (.done, owe n (noteBound n none (setItemLabels code (fun ls => ls.filter (fun m => !(m == n))) s))) :=
    if_pos (unbindOutcome_done.2 ⟨r, hr, hn⟩)
  dsimp only
  rw [hdone]
  refine ⟨?_, by simp, fun other hne => ?_⟩
  · simp only [owe_frame, noteBound_frame, setItemLabels_lookup, if_true, hr, filter_ne_eq]
    rfl
  · simp [setItemLabels_lookup, hne]

theorem unbindLabel_absent (h : ∀ r, lookupItem s.items code = some r → n ∉ r.labels) : (unbindLabel n code s).2 = s := by
  have hno : unbindOutcome n code s ≠ .done := fun hd => by
    obtain ⟨r, hr, hn⟩ := unbindOutcome_done.1 hd
    exact h r hr hn
  simp [unbindLabel, hno]

end

/-! ### Activation -/

theorem activationStep_due {e : PendingEntry} {rest : List PendingEntry} {s : State} (h : s.sched.entries = e :: rest)
    (hset : s.clock.isSet = true) (hdue : e.change.time ≤ s.clock.day * 86400 + s.clock.second) :
    activationStep s = activateEntry e (count (occ .activations) (setEntries rest s)) := by
  have hd : s.headDue = true := by
    unfold State.headDue
    rw [h]
    simpa [hset, Clock.time, daySeconds] using hdue
  unfold activationStep
  rw [h]
  exact if_pos hd

theorem activateEntry_done {e : PendingEntry} {s u : State} (h : applyChange e.change s = (none, u)) :
    activateEntry e s = dispatchOn s u := by
  unfold activateEntry
  rw [h]

theorem activateEntry_failed {e : PendingEntry} {s u : State} {reason : ActFailReason} (h : applyChange e.change s = (some reason, u)) :
    activateEntry e s = raiseNotice (.activationFailed e.change.code e.change.action.kind e.change.time e.batch e.change.seq reason
      e.change.action.bindLabel) u := by
  unfold activateEntry
  rw [h]

/-- Settles O44: the head leaves the list and makes its one request, whose outcomes exclude one another. -/
theorem activation : Obligations.Activation := by
  intro e rest s hs hset hdue code item counted
  have hto : activationStep s = activateEntry e counted := activationStep_due hs hset hdue
  have hitem : lookupItem counted.items code = item := rfl
  have hfind : ∀ {slot r}, findItem s.items code = some (slot, r) → findItem counted.items code = some (slot, r) := fun h => h
  have hnofind : item = none → findItem counted.items code = none := fun h => lookupItem_eq_none.1 h
  have hstays : dispatchOn counted counted = counted := dispatchOn_of_disp rfl
  refine ⟨_, exec_eq_after _ s, ?_⟩
  rw [after_activation]
  refine ⟨by simp [onlyChanges_iff], ?_⟩
  rw [hto]
  refine ⟨by simp [counted], by simp [counted], fun p slot r ha hf hv => ?_, fun p w ha hv hi hf hw => ?_, fun slot r ha hf => ?_,
    fun l r ha hr hn hl => ?_, fun l r ha hr hn => ?_, fun l hno => ?_, ⟨fun p ha hv hi hf hw => ?_, fun p ha hbad => ?_,
    fun l ha hi => ?_, fun l r ha hr hn hl => ?_⟩, fun l ha hi => ?_⟩
  · have hw := writeItem_present (hfind hf) hv
    have happly := applyChange_set (s := counted) ha (mergedFields_present (lookupItem_of_find hf)) hw
    rw [activateEntry_done happly]
    simp [counted]
  · have hc := writeItem_created hv (hnofind hi) hf (w := w) hw
    have happly := applyChange_set (s := counted) ha (mergedFields_absent hi) hc
    rw [activateEntry_done happly]
    simp [counted]
  · rw [activateEntry_done (applyChange_delete ha)]
    refine ⟨?_, fun n hn => ?_, by simp [counted]⟩
    · rw [(dispatchOn_frame _ _).2.2.2.2.2.1]
      exact deleteItem_items (hfind hf)
    · rw [((dispatchOn_marks _ _).keeps n).2.2.1, deleteItem_bound (hfind hf), if_pos hn]
  · obtain ⟨ho, hcode, hbound, hother, hrest⟩ := bindLabel_leaves (s := counted) hr hn hl
    have happly := applyChange_bind ha (Prod.ext ho rfl)
    rw [activateEntry_done happly]
    simp only [dispatchOn_frame]
    exact ⟨hcode, by rw [((dispatchOn_marks _ _).keeps l).2.2.1]; exact hbound, by simp [counted], hother, hrest⟩
  · obtain ⟨hcode, hbound, hrest⟩ := unbindLabel_leaves (s := counted) hr hn
    rw [activateEntry_done (applyChange_unbind ha)]
    simp only [dispatchOn_frame]
    exact ⟨hcode, by rw [((dispatchOn_marks _ _).keeps l).2.2.1]; exact hbound, by simp [counted], hrest⟩
  · rcases hno with ⟨ha, hi⟩ | ⟨ha, hn⟩ | ⟨ha, r, hr, hn⟩
    · rw [activateEntry_done (applyChange_delete ha), deleteItem_absent (hnofind hi), hstays]
    · rw [activateEntry_done (applyChange_unbind ha), unbindLabel_absent (s := counted) hn, hstays]
    · have happly := applyChange_bind ha (bindLabel_bound (s := counted) hr hn)
      rw [activateEntry_done happly, hstays]
  · have hc := writeItem_full hv (hnofind hi) hf hw
    have happly := applyChange_set (s := counted) ha (mergedFields_absent hi) hc
    rw [activateEntry_failed happly, ha]
    exact ⟨rfl, by simp [counted]⟩
  · have hc := writeItem_invalid (s := counted) (code := code) (f := mergedFields code p counted.items) hbad
    have happly := applyChange_set ha rfl hc
    rw [activateEntry_failed happly, ha]
    exact ⟨rfl, by simp [counted]⟩
  · have happly := applyChange_bind ha (bindLabel_noItem (s := counted) hi)
    rw [activateEntry_failed happly, ha]
    exact ⟨rfl, by simp [counted]⟩
  · have happly := applyChange_bind ha (bindLabel_full (s := counted) hr hn hl)
    rw [activateEntry_failed happly, ha]
    exact ⟨rfl, by simp [counted]⟩
  · have happly := applyChange_bind ha (bindLabel_noItem (s := counted) hi)
    rw [activateEntry_failed happly, ha]
    exact raiseNotice_queued _ counted

end Sys2Proof.Machine

/-! Held messages, the occupancy sample, the alert line and the lamps, and requests taken and answered (O48 to O51). -/

namespace Sys2Proof.Machine

/-! ### What offers take from the pool -/

/-- Cells are taken and none returned: the free cells do not grow, the re-offer mark and the links stand. -/
structure Spends (s t : State) : Prop where
  free : t.pool.free ≤ s.pool.free
  mark : t.pool.reoffer = s.pool.reoffer
  link : ∀ p : Port, (t.port p).link = (s.port p).link

theorem Spends.of_pool {s t : State} (h : t.pool = s.pool) : Spends s t := ⟨by rw [h], by rw [h], fun p => by rw [port_of_pool h]⟩

theorem Spends.trans {s t u : State} (h : Spends s t) (k : Spends t u) : Spends s u :=
  ⟨k.free.trans h.free, k.mark.trans h.mark, fun p => (k.link p).trans (h.link p)⟩

/-- A state with the pool of the one that was left. -/
theorem Spends.to_pool {s t u : State} (h : Spends s t) (hp : u.pool = t.pool) : Spends s u := h.trans (.of_pool hp)

theorem Spends.linkIsUp {s t : State} (h : Spends s t) (p : Port) : t.linkIsUp p = s.linkIsUp p := by
  simp [State.linkIsUp, h.link p]

theorem offer_spends (g : Generator) (m : Msg) (s : State) : Spends s (offer g m s).2 := by
  refine ⟨?_, ?_, offer_link g m s⟩
  · obtain ⟨-, h⟩ | ⟨-, -, h⟩ | ⟨-, -, h⟩ := offer_spec g m s <;> rw [h]
    · exact Nat.le_refl _
    · exact (enqueue_spec _ _ _).2.2.2.1 ▸ Nat.sub_le _ _
  · obtain ⟨-, h⟩ | ⟨-, -, h⟩ | ⟨-, -, h⟩ := offer_spec g m s <;> rw [h]
    · rfl
    · exact (enqueue_spec _ _ _).2.2.2.2

theorem push_spends (e : LabelEntry) (a : Addr) (s : State) : Spends s (push e a s) := by
  unfold push
  dsimp only
  have hfly : (count (occ .labelPushes) (fly e (freeTag s.tagsInFlight s.tagsInFlight.length s.disp.nextTag) s)).pool = s.pool := by simp
  refine (Spends.of_pool hfly).trans ((offer_spends _ _ _).to_pool (offerOr_pool ?_ _))
  exact fun _ => rfl

theorem dispatchLoop_spends (fuel : Nat) (s : State) : Spends s (dispatchLoop fuel s) := by
  induction fuel generalizing s with
  | zero => exact .of_pool rfl
  | succ fuel ih =>
    unfold dispatchLoop
    split
    · exact .of_pool rfl
    · split
      · exact .of_pool rfl
      · exact (Spends.of_pool (by simp)).trans (ih _)
      · exact (push_spends _ _ _).trans (ih _)

theorem dispatch_spends {s t : State} (h : t.pool = s.pool) : Spends s (dispatch t) := (Spends.of_pool h).trans (dispatchLoop_spends _ t)

/-! ### Lists offered in turn -/

/-- A message is done with when its link is down, and sent when its cells suffice (R161). -/
def passes (m : Msg) (u : State) : Prop := u.linkIsUp m.port = false ∨ cellsFor (frameLength m.frame) ≤ u.pool.free

theorem offer_passes {g : Generator} {m : Msg} {s : State} : (offer g m s).1 = true ↔ passes m s := by
  unfold passes
  obtain ⟨hl, h⟩ | ⟨hl, hc, h⟩ | ⟨hl, hc, h⟩ := offer_spec g m s <;> rw [h]
  · exact iff_of_true rfl (.inl hl)
  · exact iff_of_true rfl (.inr hc)
  · refine iff_of_false (by simp) (not_or.2 ⟨by simp [hl], Nat.not_le.2 hc⟩)

theorem offer_refused {g : Generator} {m : Msg} {s : State} (h : ¬passes m s) : offer g m s = (false, s) := by
  obtain ⟨hl, -⟩ | ⟨-, hc, -⟩ | ⟨-, -, ho⟩ := offer_spec g m s
  · exact absurd (.inl hl) h
  · exact absurd (.inr hc) h
  · exact ho

/-- The cells that a message takes when it is sent on a live link. -/
def cellsOn (u : State) (m : Msg) : Nat := if u.linkIsUp m.port then cellsFor (frameLength m.frame) else 0

theorem offer_free {g : Generator} {m : Msg} {s : State} (h : passes m s) : (offer g m s).2.pool.free + cellsOn s m = s.pool.free := by
  unfold cellsOn
  obtain ⟨hl, ho⟩ | ⟨hl, hc, ho⟩ | ⟨hl, hc, -⟩ := offer_spec g m s
  · rw [ho, hl]
    rfl
  · rw [ho, hl, (enqueue_spec _ _ _).2.2.2.1]
    exact Nat.sub_add_cancel hc
  · exact absurd h (not_or.2 ⟨by simp [hl], Nat.not_le.2 hc⟩)

/-- What a list of messages offered in turn sends: its first ones, until one has too few cells (R45, R120). -/
def SentInTurn (before after : List Msg) (u v : State) : Prop :=
  ∃ sent, before = sent ++ after ∧ (∀ m, after.head? = some m → ¬passes m v) ∧
    v.pool.free + ((sent.filter (fun m => u.linkIsUp m.port)).map (fun m => cellsFor (frameLength m.frame))).sum = u.pool.free

theorem offerInTurn_sent (g : Generator) (l : List Msg) (s : State) : SentInTurn l (offerInTurn g l s).1 s (offerInTurn g l s).2 := by
  induction l generalizing s with
  | nil => exact ⟨[], rfl, fun m h => (nomatch h), rfl⟩
  | cons m l ih =>
    unfold offerInTurn
    dsimp only
    by_cases hp : passes m s
    · rw [if_pos (offer_passes.2 hp)]
      obtain ⟨sent, hl, hhead, hsum⟩ := ih (offer g m s).2
      refine ⟨m :: sent, congrArg (m :: ·) hl, hhead, ?_⟩
      have hlink : ∀ x : Msg, (offer g m s).2.linkIsUp x.port = s.linkIsUp x.port := fun x => (offer_spends g m s).linkIsUp x.port
      simp only [hlink] at hsum
      have hfree := offer_free (g := g) hp
      unfold cellsOn at hfree
      rw [List.filter_cons]
      split at hfree
      · next h =>
        rw [if_pos h, List.map_cons, List.sum_cons]
        omega
      · next h =>
        rw [if_neg h]
        omega
    · rw [offer_refused hp]
      refine ⟨[], rfl, fun x hx => ?_, rfl⟩
      cases hx
      exact hp

theorem outboxInTurn_eq (l : List OutItem) (s : State) :
    (outboxInTurn l s).1.map (·.msg) = (offerInTurn .managementUnit (l.map (·.msg)) s).1 ∧
      (outboxInTurn l s).2 = (offerInTurn .managementUnit (l.map (·.msg)) s).2 := by
  induction l generalizing s with
  | nil => exact ⟨rfl, rfl⟩
  | cons i l ih =>
    simp only [outboxInTurn, List.map_cons, offerInTurn]
    split
    · exact ih _
    · exact ⟨rfl, rfl⟩

theorem offerInTurn_spends (g : Generator) (l : List Msg) (s : State) : Spends s (offerInTurn g l s).2 := by
  induction l generalizing s with
  | nil => exact .of_pool rfl
  | cons m l ih =>
    unfold offerInTurn
    dsimp only
    split
    · exact (offer_spends g m s).trans (ih _)
    · exact offer_spends g m s

/-- No generator that offers again returns a cell (R161). -/
theorem reofferFor_spends (u : State) (g : Generator) : Spends u (reofferFor u g) := by
  cases g with
  | tillService => exact (offerInTurn_spends .tillService u.till.backlog u).to_pool rfl
  | exchangeUnit => exact (offerInTurn_spends .exchangeUnit u.exch.outbox u).to_pool rfl
  | managementUnit =>
    have h := offerInTurn_spends .managementUnit (u.mgmt.outbox.map (·.msg)) u
    rw [← (outboxInTurn_eq u.mgmt.outbox u).2] at h
    exact h.to_pool rfl
  | journalUpload =>
    change Spends u (reofferSend u)
    unfold reofferSend
    split
    · exact .of_pool rfl
    · dsimp only
      split
      · exact (offer_spends _ _ u).to_pool rfl
      · exact offer_spends _ _ u
  | uplinkMonitor =>
    change Spends u (reofferProbe u)
    unfold reofferProbe
    split
    · exact .of_pool rfl
    · dsimp only
      split
      · exact (offer_spends _ _ u).to_pool rfl
      · exact offer_spends _ _ u
  | labelDispatcher =>
    change Spends u (reofferPush u)
    unfold reofferPush
    split
    · exact .of_pool rfl
    · next m _ =>
      dsimp only
      split
      · exact (offer_spends .labelDispatcher m u).trans (dispatch_spends rfl)
      · exact offer_spends _ _ u

/-! ### A generator with one message -/

theorem reofferSend_cases (u : State) : (u.journal.held = none → reofferSend u = u) ∧
    ∀ m, u.journal.held = some m → (passes m u → reofferSend u =
      setJournal { u.journal with held := none } (offer .journalUpload m u).2) ∧ (¬passes m u → reofferSend u = u) := by
  refine ⟨fun h => by simp [reofferSend, h], fun m h => ⟨fun hp => ?_, fun hp => ?_⟩⟩
  · simp [reofferSend, h, offer_passes.2 hp, setJournal]
  · simp [reofferSend, h, offer_refused hp]

theorem reofferProbe_cases (u : State) : (u.uplink.held = none → reofferProbe u = u) ∧
    ∀ m, u.uplink.held = some m → (passes m u → reofferProbe u =
      setUplink { u.uplink with held := none } (offer .uplinkMonitor m u).2) ∧ (¬passes m u → reofferProbe u = u) := by
  refine ⟨fun h => by simp [reofferProbe, h], fun m h => ⟨fun hp => ?_, fun hp => ?_⟩⟩
  · simp [reofferProbe, h, offer_passes.2 hp, setUplink]
  · simp [reofferProbe, h, offer_refused hp]

theorem reofferPush_cases (u : State) : (u.disp.held = none → reofferPush u = u) ∧
    ∀ x, u.disp.held = some x → (passes x.2 u → reofferPush u =
      dispatch { (offer .labelDispatcher x.2 u).2 with disp := { u.disp with held := none } }) ∧ (¬passes x.2 u → reofferPush u = u) := by
  refine ⟨fun h => by simp [reofferPush, h], fun x h => ⟨fun hp => ?_, fun hp => ?_⟩⟩
  · simp [reofferPush, h, offer_passes.2 hp]
  · simp [reofferPush, h, offer_refused hp]

/-! ### The journal's message alone -/

/-- No generator but the journal upload holds a message. -/
structure OthersIdle (u : State) : Prop where
  till : u.till.backlog = []
  disp : u.disp.held = none
  uplink : u.uplink.held = none
  exch : u.exch.outbox = []
  mgmt : u.mgmt.outbox = []

theorem reofferFor_idle {u : State} (h : OthersIdle u) {g : Generator} (hg : g ≠ .journalUpload) : reofferFor u g = u := by
  obtain ⟨htill, hdisp, huplink, hexch, hmgmt⟩ := h
  cases g with
  | journalUpload => exact absurd rfl hg
  | labelDispatcher => exact (reofferPush_cases u).1 hdisp
  | uplinkMonitor => exact (reofferProbe_cases u).1 huplink
  | tillService =>
    change reofferBacklog u = u
    unfold reofferBacklog
    rw [htill]
    change setTill { u.till with backlog := [] } u = u
    rw [← htill]
    rfl
  | exchangeUnit =>
    change reofferOutbox u = u
    unfold reofferOutbox
    rw [hexch]
    change setExch { u.exch with outbox := [] } u = u
    rw [← hexch]
    rfl
  | managementUnit =>
    change reofferOut u = u
    unfold reofferOut
    rw [hmgmt]
    change { u with mgmt := { u.mgmt with outbox := [] } } = u
    rw [← hmgmt]

theorem reofferAll_order (order : List Generator) (g : Generator) : g ∈ order ++ allGenerators.filter (fun g => !order.contains g) := by
  rw [List.mem_append]
  by_cases h : g ∈ order
  · exact .inl h
  · refine .inr (List.mem_filter.2 ⟨?_, by simpa using h⟩)
    cases g <;> simp [allGenerators]

/-- The journal's message offered by a list that names its generator (R53). -/
theorem foldl_reoffer_journal {l : List Generator} (hl : .journalUpload ∈ l) {m : Msg} {u : State} (hi : OthersIdle u)
    (hm : u.journal.held = some m) (hup : u.linkIsUp m.port = true) :
    (cellsFor (frameLength m.frame) ≤ u.pool.free → (l.foldl reofferFor u).journal.held = none ∧
      (l.foldl reofferFor u).pool.free + cellsFor (frameLength m.frame) = u.pool.free) ∧
    (u.pool.free < cellsFor (frameLength m.frame) → (l.foldl reofferFor u).journal.held = some m ∧
      (l.foldl reofferFor u).pool.free = u.pool.free) := by
  refine ⟨fun hfit => ?_, fun hfew => ?_⟩
  · -- once the message has been admitted nothing waits, and nothing more happens
    have hdone : ∀ (k : List Generator) (v : State), OthersIdle v → v.journal.held = none → k.foldl reofferFor v = v := fun k v hv hn =>
      foldl_keeps (P := (· = v)) (fun w g hw => by
        subst hw
        by_cases hg : g = .journalUpload
        · rw [hg]
          exact (reofferSend_cases w).1 hn
        · exact reofferFor_idle hv hg) k v rfl
    have hp : passes m u := .inr hfit
    induction l with
    | nil => cases hl
    | cons g l ih =>
      rw [List.foldl_cons]
      by_cases hg : g = .journalUpload
      · have hsend : reofferFor u g = setJournal { u.journal with held := none } (offer .journalUpload m u).2 := by
          rw [hg]
          exact ((reofferSend_cases u).2 m hm).1 hp
        have hfree := offer_free (g := .journalUpload) hp
        rw [cellsOn, if_pos hup] at hfree
        rw [hsend, hdone l _ ⟨by simpa [setJournal] using hi.till, by simpa [setJournal] using hi.disp, by simpa [setJournal] using hi.uplink,
          by simpa [setJournal] using hi.exch, by simpa [setJournal] using hi.mgmt⟩ rfl]
        exact ⟨rfl, hfree⟩
      · rw [reofferFor_idle hi hg]
        exact ih ((List.mem_cons.1 hl).resolve_left fun h => hg h.symm)
  · have hp : ¬passes m u := not_or.2 ⟨by simp [hup], Nat.not_le.2 hfew⟩
    have hstays : l.foldl reofferFor u = u := foldl_keeps (P := (· = u)) (fun w g hw => by
        subst hw
        by_cases hg : g = .journalUpload
        · rw [hg]
          exact ((reofferSend_cases w).2 m hm).2 hp
        · exact reofferFor_idle hi hg) l u rfl
    rw [hstays]
    exact ⟨hm, rfl⟩

/-- Settles O48: each generator offers what it holds, by its list or by its one message. -/
theorem heldMessagesOffered : Obligations.HeldMessagesOffered := by
  unfold Obligations.HeldMessagesOffered
  intro cells passes' inTurn
  refine ⟨fun order s => ⟨_, exec_eq_after _ s, ?_⟩, fun u => ?_⟩
  · have hspends : Spends { s with pool := { s.pool with reoffer := false } } (reofferAll order s) :=
      foldl_keeps (P := Spends { s with pool := { s.pool with reoffer := false } }) (fun w g hw => hw.trans (reofferFor_spends w g)) _ _
        (.of_pool rfl)
    rw [after_heldMessageReoffer]
    refine ⟨by simp [onlyChanges_iff], hspends.mark, hspends.free, hspends.linkIsUp, rfl, fun m hm ht hd hu he hg hup => ?_⟩
    exact foldl_reoffer_journal (u := { s with pool := { s.pool with reoffer := false } }) (reofferAll_order order _)
      ⟨ht, hd, hu, he, hg⟩ hm hup
  · have hmgmt : inTurn (u.mgmt.outbox.map (·.msg)) ((reofferFor u .managementUnit).mgmt.outbox.map (·.msg)) u (reofferFor u .managementUnit) := by
      obtain ⟨hlist, hstate⟩ := outboxInTurn_eq u.mgmt.outbox u
      have h := offerInTurn_sent .managementUnit (u.mgmt.outbox.map (·.msg)) u
      rw [← hlist, ← hstate] at h
      exact h
    refine ⟨offerInTurn_sent .tillService u.till.backlog u, offerInTurn_sent .exchangeUnit u.exch.outbox u, hmgmt,
      (reofferSend_cases u).1, fun m hm => ⟨fun hp => ?_, ((reofferSend_cases u).2 m hm).2⟩,
      (reofferProbe_cases u).1, fun m hm => ⟨fun hp => ?_, ((reofferProbe_cases u).2 m hm).2⟩,
      (reofferPush_cases u).1, (reofferPush_cases u).2⟩
    · exact congrArg State.journal (((reofferSend_cases u).2 m hm).1 hp)
    · exact congrArg State.uplink (((reofferProbe_cases u).2 m hm).1 hp)

end Sys2Proof.Machine

/-! The occupancy sample, the alert line and the lamps, and requests taken and answered (O49 to O51). -/

namespace Sys2Proof.Machine

/-! ### Answers -/

/-- The message item of an answer (R191). -/
def answerItem (r : Request) (result : MgmtResult) (data : List Byte) (s : State) : OutItem :=
  ⟨⟨r.port, r.src, s.settings.stationAddr, s.settings.branchType, .mgmtAns, be 2 r.tag ++ be 1 r.code ++ be 1 result.code ++ data⟩, none⟩

/-- Where an answer goes: behind what waits, nowhere on a dead link, onto its port, or to the head of the outbox (R191). -/
theorem answer_cases (r : Request) (result : MgmtResult) (data : List Byte) (s : State) :
    (s.mgmt.outbox ≠ [] ∧ s.linkIsUp r.port = true ∧ answer r result data s =
      { s with mgmt := { s.mgmt with outbox := s.mgmt.outbox ++ [answerItem r result data s] } }) ∨
    (s.linkIsUp r.port = false ∧ answer r result data s = count (occDiscard .admission r.port (some .urgent)) s) ∨
    (s.mgmt.outbox = [] ∧ s.linkIsUp r.port = true ∧ cellsFor (frameLength (answerItem r result data s).msg.frame) ≤ s.pool.free ∧
      answer r result data s =
        enqueue r.port ⟨(answerItem r result data s).msg.frame, .urgent, .generated .managementUnit .mgmtAns, false⟩ s) ∨
    (s.mgmt.outbox = [] ∧ s.linkIsUp r.port = true ∧ s.pool.free < cellsFor (frameLength (answerItem r result data s).msg.frame) ∧
      answer r result data s = { s with mgmt := { s.mgmt with outbox := s.mgmt.outbox ++ [answerItem r result data s] } }) :=
  sendBehind_cases .managementUnit s.mgmt.outbox (answerItem r result data s).msg
    (fun t => { t with mgmt := { t.mgmt with outbox := t.mgmt.outbox ++ [answerItem r result data s] } }) s

/-- An answer counts at most, as the monitor sees it. -/
@[simp] theorem answer_monitor (r : Request) (result : MgmtResult) (data : List Byte) (s : State) :
    (answer r result data s).mon.hold = s.mon.hold ∧ (answer r result data s).mon.due = s.mon.due ∧
      (answer r result data s).mon.waiting = s.mon.waiting := by
  obtain ⟨-, -, h⟩ | ⟨-, h⟩ | ⟨-, -, -, h⟩ | ⟨-, -, -, h⟩ := answer_cases r result data s <;> rw [h]
  · exact ⟨rfl, rfl, rfl⟩
  · exact ⟨rfl, rfl, rfl⟩
  · simp
  · exact ⟨rfl, rfl, rfl⟩

/-! ### The occupancy sample -/

theorem meets_iff (th : Nat) (inv : Bool) (v : Nat) : meets th inv v = true ↔ ((v < th) = (inv = true)) := by
  cases inv <;> simp [meets]

/-- What a counter becomes at a sample instant (R185). -/
theorem Counter.sample_occupancy (s : State) (c : Counter) (o : Occupancy) :
    (c.source = .occupancy o .plain → c.sample s = c.add (s.occupancy o)) ∧
    (∀ th inv, c.source = .occupancy o (.level th inv) →
      c.sample s = if (s.occupancy o < th) = (inv = true) then c.add 1 else c) ∧
    (∀ th inv, c.source = .occupancy o (.edge th inv) → c.sample s =
      { (if (s.occupancy o < th) = (inv = true) ∧ c.lastMet = false then c.add 1 else c) with
        lastMet := decide ((s.occupancy o < th) = (inv = true)) }) := by
  unfold Counter.sample
  refine ⟨fun h => by rw [h], fun th inv h => ?_, fun th inv h => ?_⟩
  · rw [h]
    dsimp only
    by_cases hm : (s.occupancy o < th) = (inv = true)
    · rw [if_pos ((meets_iff _ _ _).2 hm), if_pos hm]
    · rw [if_neg (fun h => hm ((meets_iff _ _ _).1 h)), if_neg hm]
  · rw [h]
    dsimp only
    by_cases hm : (s.occupancy o < th) = (inv = true)
    · have hmet := (meets_iff _ _ _).2 hm
      cases hl : c.lastMet <;> simp [hmet, hm]
    · have hmet : meets th inv (s.occupancy o) = false := Bool.eq_false_iff.2 fun h => hm ((meets_iff _ _ _).1 h)
      simp only [hmet, hm, Bool.false_and, Bool.false_eq_true, if_false, false_and, decide_false]

/-- Settles O49: the counters sample, and a snapshot that is due is copied and answered. -/
theorem occupancySample : Obligations.OccupancySample := by
  intro s
  refine ⟨_, exec_eq_after _ s, ?_⟩
  rw [after_occupancySample]
  refine ⟨by simp [onlyChanges_iff], fun hd => ?_, fun hd => ?_⟩
  · have hto : occupancySampleStep s = { s with mon := { s.mon with counters := s.mon.counters.map (Counter.sample s) } } :=
      if_neg (by simp [hd])
    rw [hto]
    refine ⟨by simp [onlyChanges_iff], rfl, List.map_congr_left fun c _ => ?_⟩
    split
    · next o h => exact (Counter.sample_occupancy s c o).1 h
    · next o th inv h => exact (Counter.sample_occupancy s c o).2.1 th inv h
    · next o th inv h => exact (Counter.sample_occupancy s c o).2.2 th inv h
    · next h1 h2 h3 =>
      unfold Counter.sample
      split
      · next o h => exact absurd h (h1 o)
      · next o th inv h => exact absurd h (h2 o th inv)
      · next o th inv h => exact absurd h (h3 o th inv)
      · rfl
  · have hto : occupancySampleStep s = s.mon.waiting.foldl
        (fun v r => answer r .done (be 2 (succFromOne 65535 s.mon.hold.number)) v)
        (takeSnapshot { s with mon := { s.mon with counters := s.mon.counters.map (Counter.sample s) } }) := if_pos hd
    have hkeeps : ∀ (l : List Request) (b : List Byte) (u : State),
        (l.foldl (fun v r => answer r .done b v) u).mon.hold = u.mon.hold ∧
        (l.foldl (fun v r => answer r .done b v) u).mon.due = u.mon.due ∧
        (l.foldl (fun v r => answer r .done b v) u).mon.waiting = u.mon.waiting := fun l b u =>
      foldl_keeps (P := fun v => v.mon.hold = u.mon.hold ∧ v.mon.due = u.mon.due ∧ v.mon.waiting = u.mon.waiting)
        (fun v r hv => by simpa using hv) l u ⟨rfl, rfl, rfl⟩
    obtain ⟨hhold, hdue, hwait⟩ := hkeeps s.mon.waiting (be 2 (succFromOne 65535 s.mon.hold.number))
      (takeSnapshot { s with mon := { s.mon with counters := s.mon.counters.map (Counter.sample s) } })
    rw [← hto] at hhold hdue hwait
    rw [hhold, hdue, hwait]
    exact ⟨rfl, rfl, rfl, rfl, rfl, rfl, hto⟩

/-! ### The alert line and the lamps -/

/-- Settles O50: a pulse, its gap and a port's lamp end by their own clocks. -/
theorem pulseAndLampEnd : Obligations.PulseAndLampEnd := by
  refine fun s => ⟨fun start w ha hd => ?_, fun start w ha hd => ⟨_, exec_eq_after _ s, ?_⟩, fun p start ha hd => ⟨_, exec_eq_after _ s, ?_⟩⟩
  · have hto : alertPulseEndStep s = { s with mgmt := { s.mgmt with alert := .gap s.now w } } := by
      unfold alertPulseEndStep
      rw [ha]
      exact if_pos hd
    rw [exec_eq_after, after_alertPulseEnd, hto]
  · have hto : alertPulseEndStep s = startPulse { s with mgmt := { s.mgmt with alert := .idle } } := by
      unfold alertPulseEndStep
      rw [ha]
      exact if_pos hd
    rw [after_alertPulseEnd, hto]
    refine ⟨by simp [onlyChanges_iff], ?_⟩
    unfold startPulse
    by_cases h : s.settings.alertMode = .pulse ∧ 0 < s.mgmt.owed
    · simp [h]
    · have hno : ¬(s.settings.alertMode = .pulse ∧ 0 < s.mgmt.owed ∧ AlertPhase.idle = AlertPhase.idle) := fun hp => h ⟨hp.1, hp.2.1⟩
      rw [if_neg hno, if_neg h, if_neg h]
      exact ⟨rfl, rfl, rfl⟩
  · have hto : portLampExpiryStep p s = setPort p { s.port p with activity := none } s := by
      unfold portLampExpiryStep
      rw [ha]
      exact if_pos hd
    rw [after_portLampExpiry, hto]
    refine ⟨by simp [onlyChanges_iff], ?_, fun q hq => setPort_port_other _ _ _ _ hq, setPort_port_same _ _ _, rfl⟩
    simp [State.lit]

/-! ### Requests -/

theorem takeRequest_later {r : Request} {s : State} (h : s.mgmt.firstSender ≠ none) :
    takeRequest r s = { s with mgmt := { s.mgmt with requests := s.mgmt.requests.drop 1 } } := if_neg h

/-- The state in which the first request has been taken, before any notice is sent (R196). -/
def firstTaken (r : Request) (s : State) : State :=
  { s with mgmt := { s.mgmt with requests := s.mgmt.requests.drop 1, firstSender := some (r.src, r.port) } }

theorem takeRequest_first {r : Request} {s : State} (h : s.mgmt.firstSender = none) :
    takeRequest r s = if s.settings.noticeAddr = 0 then sendUnsent (firstTaken r s) else firstTaken r s := if_pos h

/-- What sending notices leaves of the management unit: sent marks and the outbox alone. -/
theorem sendNotices_mgmt (l : List Notice) (s : State) : ∃ (f : Notice → Notice) (k : List OutItem),
    (∀ n, (f n).number = n.number) ∧ (∀ n, n.sent = true → (f n).sent = true) ∧
      (s.destination.isSome = true → ∀ n, (∃ m ∈ l, m.number = n.number) → (f n).sent = true) ∧
      (l.foldl (fun t n => sendNotice n t) s).mgmt =
        { s.mgmt with notices := s.mgmt.notices.map f, outbox := s.mgmt.outbox ++ k } := by
  induction l generalizing s with
  | nil => exact ⟨id, [], fun _ => rfl, fun _ h => h, fun _ n ⟨m, hm, _⟩ => absurd hm List.not_mem_nil, by simp⟩
  | cons a l ih =>
    obtain ⟨k, hk⟩ := sendNotice_mgmt a s
    obtain ⟨f, j, hnum, hkeep, hsent, hfold⟩ := ih (sendNotice a s)
    have hdest : (sendNotice a s).destination = s.destination := by
      simp [State.destination, hk]
    rw [List.foldl_cons, hfold, hk]
    cases hd : s.destination.isSome with
    | false => exact ⟨f, k ++ j, hnum, hkeep, fun h => (nomatch h), by simp⟩
    | true =>
      refine ⟨f ∘ markSent a.number, k ++ j, fun n => by simp [hnum], fun n hn => hkeep _ ?_, fun _ n hm => ?_, by simp⟩
      · unfold markSent
        split
        · rfl
        · exact hn
      · by_cases hn : a.number = n.number
        · refine hkeep _ ?_
          unfold markSent
          rw [if_pos hn.symm]
        · obtain ⟨m, hml, hmn⟩ := hm
          have hml' : m ∈ l := (List.mem_cons.1 hml).resolve_left fun h => hn (h ▸ hmn)
          exact hsent (hdest ▸ hd) _ ⟨m, hml', by simpa using hmn⟩

/-- The notices after the unsent ones have been sent: the same numbers, and all sent when there is a destination (R196). -/
theorem sendUnsent_mgmt (s : State) : ∃ (f : Notice → Notice) (k : List OutItem), (∀ n, (f n).number = n.number) ∧
    (s.destination.isSome = true → ∀ n ∈ s.mgmt.notices, (f n).sent = true) ∧
    (sendUnsent s).mgmt = { s.mgmt with notices := s.mgmt.notices.map f, outbox := s.mgmt.outbox ++ k } := by
  obtain ⟨f, k, hnum, hkeep, hsent, hm⟩ := sendNotices_mgmt (s.mgmt.notices.filter (fun n => !n.sent)) s
  refine ⟨f, k, hnum, fun hd n hn => ?_, hm⟩
  cases hs : n.sent with
  | true => exact hkeep n hs
  | false => exact hsent hd n ⟨n, List.mem_filter.2 ⟨hn, by simp [hs]⟩, rfl⟩

/-- What taking a request leaves of the management unit (R190, R196). -/
theorem takeRequest_mgmt (r : Request) (s : State) : ∃ (f : Notice → Notice) (k : List OutItem), (∀ n, (f n).number = n.number) ∧
    (s.mgmt.firstSender = none → s.settings.noticeAddr = 0 → ∀ n ∈ s.mgmt.notices, (f n).sent = true) ∧
    (takeRequest r s).mgmt = { s.mgmt with
      requests := s.mgmt.requests.drop 1, firstSender := if s.mgmt.firstSender = none then some (r.src, r.port) else s.mgmt.firstSender,
      notices := s.mgmt.notices.map f, outbox := s.mgmt.outbox ++ k } := by
  by_cases h : s.mgmt.firstSender = none
  · rw [takeRequest_first h]
    by_cases hn : s.settings.noticeAddr = 0
    · obtain ⟨f, k, hnum, hsent, hm⟩ := sendUnsent_mgmt (firstTaken r s)
      rw [if_pos hn, hm, if_pos h]
      refine ⟨f, k, hnum, fun _ _ => hsent ?_, rfl⟩
      simp [State.destination, firstTaken, hn]
    · rw [if_neg hn, if_pos h]
      exact ⟨id, [], fun _ => rfl, fun _ h => absurd h hn, by simp [firstTaken]⟩
  · rw [takeRequest_later h, if_neg h]
    exact ⟨id, [], fun _ => rfl, fun h' => absurd h' h, by simp⟩

/-- Settles O51: the head leaves the queue, and its answer goes where the outbox and the link let it. -/
theorem requestTakenAndAnswered : Obligations.RequestTakenAndAnswered := by
  refine ⟨fun r s => ?_, fun r result data s => ?_⟩
  · intro t
    obtain ⟨f, k, hnum, hsent, hm⟩ := takeRequest_mgmt r s
    refine ⟨by simp [t, onlyChanges_iff], by rw [hm], by rw [hm], by rw [hm], ?_, fun h => by rw [hm]; exact if_pos h,
      takeRequest_later, fun h hn n hmem => ?_⟩
    · rw [hm, List.map_map]
      exact List.map_congr_left fun n _ => hnum n
    · rw [hm] at hmem
      obtain ⟨x, hx, rfl⟩ := List.mem_map.1 hmem
      exact hsent h hn x hx
  · intro t item
    obtain ⟨l, hmgmt⟩ := sendOut_mgmt item s
    have hmgmt' : t.mgmt = { s.mgmt with outbox := s.mgmt.outbox ++ l } := hmgmt
    refine ⟨by simp [t, onlyChanges_iff], by rw [hmgmt'], ?_⟩
    obtain ⟨hw, hl, h⟩ | ⟨hl, h⟩ | ⟨hw, hl, hc, h⟩ | ⟨hw, hl, hc, h⟩ := answer_cases r result data s
    · exact ⟨fun _ _ => h, fun hn => absurd hn hw, fun hn => absurd hn hw, fun hd => by rw [hl] at hd; cases hd⟩
    · have hno : ¬s.linkIsUp r.port = true := by simp [hl]
      exact ⟨fun _ hu => absurd hu hno, fun _ hu => absurd hu hno, fun _ hu => absurd hu hno, fun _ => h⟩
    · refine ⟨fun hn => absurd hw hn, fun _ _ hfew => absurd hc (Nat.not_le.2 hfew), fun _ _ _ => ?_, fun hd => by rw [hl] at hd; cases hd⟩
      obtain ⟨hframes, -, -, hfree, -⟩ := enqueue_spec r.port
        ⟨item.msg.frame, .urgent, .generated .managementUnit .mgmtAns, false⟩ s
      have ht : t = enqueue r.port ⟨item.msg.frame, .urgent, .generated .managementUnit .mgmtAns, false⟩ s := h
      rw [ht]
      refine ⟨by simp [hw], ?_, _, hframes.symm.subset List.mem_cons_self, rfl, rfl⟩
      rw [hfree]
      exact Nat.sub_add_cancel hc
    · refine ⟨fun hn => absurd hw hn, fun _ _ _ => ?_, fun _ _ hfit => absurd hfit (Nat.not_le.2 hc), fun hd => by rw [hl] at hd; cases hd⟩
      have ht : t = { s with mgmt := { s.mgmt with outbox := s.mgmt.outbox ++ [item] } } := h
      rw [ht, hw]
      exact ⟨rfl, rfl⟩

end Sys2Proof.Machine

/-! Requests: the reads, the notices cleared, and codes not listed (O53, O60). -/

namespace Sys2Proof.Machine

/-! ### A request that is taken -/

theorem Takes.run {s : State} {r : Request} {c : Nat} (h : Takes s r c) (run : Request → State → State) :
    runHead (isCode c) run s = run r (takeRequest r s) :=
  runHead_takes h.1 h.2.1 (by simp [isCode, h.2.2])

/-- What the monitor keeps while events are counted: the hold set, the snapshot due, who waits for it, and the counters' sources. -/
structure MonitorKept (s t : State) : Prop where
  hold : t.mon.hold = s.mon.hold
  due : t.mon.due = s.mon.due
  waiting : t.mon.waiting = s.mon.waiting
  sources : t.mon.counters.map (·.source) = s.mon.counters.map (·.source)

theorem MonitorKept.refl (s : State) : MonitorKept s s := ⟨rfl, rfl, rfl, rfl⟩

theorem MonitorKept.trans {s t u : State} (h : MonitorKept s t) (k : MonitorKept t u) : MonitorKept s u :=
  ⟨k.hold.trans h.hold, k.due.trans h.due, k.waiting.trans h.waiting, k.sources.trans h.sources⟩

theorem MonitorKept.of_mon {s t : State} (h : t.mon = s.mon) : MonitorKept s t := by
  refine ⟨?_, ?_, ?_, ?_⟩ <;> rw [h]

theorem Counter.add_source (c : Counter) (n : Nat) : (c.add n).source = c.source := by
  unfold Counter.add
  split <;> rfl

theorem count_monitorKept (o : Occ) (s : State) : MonitorKept s (count o s) := by
  refine ⟨rfl, rfl, rfl, ?_⟩
  simp only [count, List.map_map]
  refine List.map_congr_left fun c _ => ?_
  dsimp only [Function.comp]
  split
  · exact Counter.add_source c 1
  · rfl

theorem countAll_monitorKept (l : List Occ) (s : State) : MonitorKept s (countAll l s) :=
  foldl_keeps (P := MonitorKept s) (fun u o hu => hu.trans (count_monitorKept o u)) l s (.refl s)

theorem startTx_monitorKept (p : Port) {s t : State} (h : MonitorKept s t) : MonitorKept s (startTx p t) := h.trans (.of_mon (by simp))

theorem removeFrames_monitorKept (p : Port) (sel : QFrame → Bool) (why : QFrame → List Occ) (s : State) :
    MonitorKept s (removeFrames p sel why s) := by
  unfold removeFrames
  dsimp only
  split
  · exact .refl s
  · refine startTx_monitorKept p (MonitorKept.trans ?_ (countAll_monitorKept _ _))
    exact .of_mon rfl

/-- The basic operations keep the sources, the hold set and the snapshot due. -/
theorem monitorKept_closed (s : State) : Closed (MonitorKept s) where
  write _ hm _ _ hs := hs.trans (.of_mon hm)
  reoffer _ hs := hs.trans (.of_mon rfl)
  count o hs := hs.trans (count_monitorKept o _)
  activity _ _ hs := hs.trans (.of_mon rfl)
  enqueue p f _ _ hs := hs.trans (.of_mon (by simp))
  removeFrames p sel why hs := hs.trans (removeFrames_monitorKept p sel why _)
  transmitEnd p hs := by
    refine hs.trans ?_
    unfold transmitEndStep
    split
    · exact .refl _
    · refine startTx_monitorKept p (MonitorKept.trans ?_ (count_monitorKept _ _))
      exact .of_mon rfl
  emptyPorts hs := hs.trans (.of_mon rfl)

theorem takeRequest_monitorKept (r : Request) (s : State) : MonitorKept s (takeRequest r s) :=
  takeRequest_closed (monitorKept_closed s) r (.refl s)

theorem answer_monitorKept (r : Request) (o : MgmtResult) (d : List Byte) (s : State) : MonitorKept s (answer r o d s) :=
  answer_closed (monitorKept_closed s) r o d (.refl s)

/-! ### The reads -/

theorem sectionBytes_none {n : Nat} {s : State} (h : n = 0 ∨ 10 < n) : sectionBytes n s = none := by
  rcases h with rfl | h
  · rfl
  · obtain ⟨m, rfl⟩ := Nat.exists_eq_add_of_le' h
    rfl

/-- Settles O53: each read answers from the state that the taking of its request leaves, whose records are those of before. -/
theorem readsAnswer : Obligations.ReadsAnswer := by
  intro s r u b
  have hitems : u.items = s.items := by simp [u]
  have hstations : u.stations = s.stations := by simp [u]
  have hguest : u.guest = s.guest := by simp [u]
  have hsched : u.sched = s.sched := by simp [u]
  have hsettings : u.settings = s.settings := by simp [u]
  have hmon : MonitorKept s u := takeRequest_monitorKept r s
  refine ⟨fun h hl => ⟨_, exec_eq_after _ s, by simp [onlyChanges_iff], ?_⟩, fun h hl => ⟨_, exec_eq_after _ s, by simp [onlyChanges_iff], ?_⟩,
    fun h hl => ⟨_, exec_eq_after _ s, by simp [onlyChanges_iff], ?_⟩, fun h hl => ⟨_, exec_eq_after _ s, by simp [onlyChanges_iff], ?_⟩,
    fun h hl => ⟨_, exec_eq_after _ s, by simp [onlyChanges_iff], ?_⟩, fun h => ⟨_, exec_eq_after _ s, by simp [onlyChanges_iff], ?_⟩,
    fun h hl => ⟨_, exec_eq_after _ s, by simp [onlyChanges_iff], ?_⟩⟩
  · rw [after_itemRead, h.run, readItem, withFields_enough hl]
    refine ⟨fun hv => if_neg (by simp [b, hv] at hv ⊢), fun hv hi => ?_, fun i hi => ?_⟩
    · rw [if_pos hv, show (takeRequest r s).items = s.items from hitems, hi]
    · rw [if_pos (validCode_of_lookup hi), show (takeRequest r s).items = s.items from hitems, hi]
  · rw [after_labelRead, h.run, readLabelRequest, withFields_enough hl]
    have hbytes : labelBytes (field r.fields 0 2) (takeRequest r s) = labelBytes (field r.fields 0 2) s := by
      simp [labelBytes, State.label, State.entryOf]
    refine ⟨fun hn => if_pos hn, fun hn => ?_⟩
    rw [if_neg (Nat.not_lt.2 hn), hbytes]
  · rw [after_stationRead, h.run, readStationRequest, withFields_enough hl]
    rw [show (takeRequest r s).stations = s.stations from hstations]
    refine ⟨fun hn => ?_, fun e he => ?_⟩
    · rw [hn]
    · rw [he]
      simp [stationBytes]
      rfl
  · rw [after_pendingRead, h.run, readPendingRequest, withFields_enough hl]
    rw [show (takeRequest r s).sched = s.sched from hsched]
  · rw [after_settingRead, h.run, readSettingRequest, withFields_enough hl]
    rw [show (takeRequest r s).settings = s.settings from hsettings]
    refine ⟨fun v hv => ?_, fun hn => ?_⟩
    · rw [hv]
    · rw [hn]
      rfl
  · rw [after_counterRead, h.run, readCountersRequest]
    have hbytes : (takeRequest r s).mon.counters.flatMap (fun c => sourceBytes c.source) =
        s.mon.counters.flatMap (fun c => sourceBytes c.source) := by
      have := congrArg (List.flatMap sourceBytes) hmon.sources
      simpa [List.flatMap_map] using this
    have hkept := hmon.trans (answer_monitorKept r .done (holdBytes u.mon.hold ++ u.mon.counters.flatMap (fun c => sourceBytes c.source)) u)
    refine ⟨hkept.hold, hkept.due, ?_⟩
    rw [hbytes, show (takeRequest r s).mon.hold = s.mon.hold from hmon.hold]
  · rw [after_stateRead, h.run, readStateRequest, withFields_enough hl]
    refine ⟨fun d hd => ?_, fun hn => ?_⟩
    · rw [show sectionBytes (field r.fields 0 1) (takeRequest r s) = some d from hd]
    · have hnone : sectionBytes (field r.fields 0 1) (takeRequest r s) = none := by
        have hn' : field r.fields 0 1 = 0 ∨ 10 < field r.fields 0 1 := hn
        exact sectionBytes_none hn'
      rw [hnone]
      rfl

/-! ### Notices cleared, and codes not listed -/

/-- Settles O60: the clear empties queue and marks, and a code not listed is answered. -/
theorem clearAndUnknown : Obligations.ClearAndUnknown := by
  refine fun s r => ⟨fun h => ⟨_, exec_eq_after _ s, by simp [onlyChanges_iff], ?_⟩, fun c h hc => ?_⟩
  · obtain ⟨f, k, -, -, hm⟩ := takeRequest_mgmt r s
    rw [after_noticeClear, h.run, clearRequest]
    have hlen : (takeRequest r s).mgmt.notices.length = s.mgmt.notices.length := by simp [hm]
    have hnext : (takeRequest r s).mgmt.nextNotice = s.mgmt.nextNotice := by rw [hm]
    have hfiltered : ∀ i ∈ (clearNotices (takeRequest r s)).mgmt.outbox, i.notice = none := fun i hi => by
      simpa using (List.mem_filter.1 hi).2
    obtain ⟨l, hsent⟩ := sendOut_mgmt (answerItem r .done (be 2 (takeRequest r s).mgmt.notices.length) (clearNotices (takeRequest r s)))
      (clearNotices (takeRequest r s))
    have hans : (answer r .done (be 2 (takeRequest r s).mgmt.notices.length) (clearNotices (takeRequest r s))).mgmt = _ := hsent
    refine ⟨by rw [hans]; rfl, by rw [hans]; rfl, by rw [hans]; exact hnext, ?_, by rw [hlen]⟩
    obtain ⟨-, -, ho⟩ | ⟨-, ho⟩ | ⟨-, -, -, ho⟩ | ⟨-, -, -, ho⟩ := answer_cases r .done (be 2 (takeRequest r s).mgmt.notices.length)
      (clearNotices (takeRequest r s)) <;> rw [ho]
    · intro i hi
      rcases List.mem_append.1 hi with h | h
      · exact hfiltered i h
      · rw [List.mem_singleton.1 h]
        rfl
    · exact hfiltered
    · rw [(enqueue_frame _ _ _).2.2.2.2.2.2.2.2.2.2.2.2.2.2.2.2.2.2]
      exact hfiltered
    · intro i hi
      rcases List.mem_append.1 hi with h | h
      · exact hfiltered i h
      · rw [List.mem_singleton.1 h]
        rfl
  · have hrun : after .unknownCommand s = answer r .unknownCommand [] (takeRequest r s) := by
      rw [after_unknownCommand]
      exact runHead_takes h.1 h.2.1 (by rw [isUnknown, h.2.2, hc]; rfl)
    rw [exec_eq_after, hrun]

end Sys2Proof.Machine

/-! Requests: cancels, the clock, the force hold and the counters (O57, O59). -/

namespace Sys2Proof.Machine

/-! ### What an answer leaves -/

section
variable (r : Request) (o : MgmtResult) (d : List Byte) (s : State)

theorem answer_labels : (answer r o d s).labels = s.labels := by simp

theorem answer_disp : (answer r o d s).disp = s.disp := by simp

theorem answer_exch : (answer r o d s).exch = s.exch := by simp

theorem answer_settings : (answer r o d s).settings = s.settings := by simp

theorem answer_uplink : (answer r o d s).uplink = s.uplink := by simp

theorem answer_journal : (answer r o d s).journal = s.journal := by simp

theorem answer_till : (answer r o d s).till = s.till := by simp

theorem answer_sched : (answer r o d s).sched = s.sched := by simp

theorem answer_stations : (answer r o d s).stations = s.stations := by simp

theorem answer_guest : (answer r o d s).guest = s.guest := by simp

end

/-! ### Fields -/

theorem foldl_bytes_lt (l : List Byte) (a : Nat) : l.foldl (fun acc x => acc * 256 + x.toNat) a < (a + 1) * 256 ^ l.length := by
  induction l generalizing a with
  | nil => simp
  | cons x l ih =>
    have hx : x.toNat < 256 := x.isLt
    calc _ < (a * 256 + x.toNat + 1) * 256 ^ l.length := ih _
      _ ≤ (a + 1) * 256 * 256 ^ l.length := Nat.mul_le_mul_right _ (by omega)
      _ = (a + 1) * 256 ^ (x :: l).length := by rw [List.length_cons, Nat.pow_succ, Nat.mul_assoc, Nat.mul_comm 256]

/-- A field of `w` bytes is below 256 to the `w`. -/
theorem field_lt (b : List Byte) (off w : Nat) : field b off w < 256 ^ w := by
  unfold field beVal
  refine Nat.lt_of_lt_of_le (foldl_bytes_lt _ 0) ?_
  rw [Nat.zero_add, Nat.one_mul]
  exact Nat.pow_le_pow_right (by decide) (List.length_take_le _ _)

theorem onOffOf_none {n : Nat} (h : 1 < n) : onOffOf n = none := by
  obtain ⟨m, rfl⟩ := Nat.exists_eq_add_of_le' h
  rfl

theorem onOffOf_some {n : Nat} (h : n ≤ 1) : onOffOf n = some (n == 1) := by
  rcases Nat.le_one_iff_eq_zero_or_eq_one.1 h with rfl | rfl <;> rfl

/-! ### Cancels, the clock and the force hold -/

theorem isCommitting_of {x : ExchState} : (∀ c, x ≠ .committing c) ↔ x.isCommitting = false := by
  cases x <;> simp [ExchState.isCommitting]

theorem cancelRequest_busy {r : Request} {s : State} {c : CommitCtx} (h : s.exch.state = .committing c) :
    cancelRequest r s = answer r .busy [] s := by
  simp [cancelRequest, h, ExchState.isCommitting]

theorem cancelRequest_good {r : Request} {s : State} {k : ChangeKind} (hc : ∀ c, s.exch.state ≠ .committing c) (hl : 13 ≤ r.fields.length)
    (hk : changeKindOf (field r.fields 12 1) = some k) (hv : validCode (field r.fields 0 6) = true) (ht : field r.fields 6 6 ≤ maxStoreTime) :
    cancelRequest r s = answer r (cancelPending (field r.fields 0 6) (field r.fields 6 6) k s).1 []
      (cancelPending (field r.fields 0 6) (field r.fields 6 6) k s).2 := by
  unfold cancelRequest
  rw [if_neg (by simp [isCommitting_of.1 hc]), withFields_enough hl, hk]
  exact if_pos (by simp [hv, ht])

theorem cancelRequest_bad {r : Request} {s : State} (hc : ∀ c, s.exch.state ≠ .committing c) (hl : 13 ≤ r.fields.length)
    (hbad : changeKindOf (field r.fields 12 1) = none ∨ validCode (field r.fields 0 6) = false ∨ maxStoreTime < field r.fields 6 6) :
    cancelRequest r s = answer r .badField [] s := by
  unfold cancelRequest
  rw [if_neg (by simp [isCommitting_of.1 hc]), withFields_enough hl]
  split
  · next k hk =>
    rcases hbad with hn | hv | ht
    · rw [hn] at hk
      cases hk
    · exact if_neg (by simp [hv])
    · exact if_neg (by simp [Nat.not_le.2 ht])
  · rfl

/-- A cancel takes out the entries it names, if there are any (R96). -/
theorem cancelPending_entries (code time : Nat) (k : ChangeKind) (s : State) : (cancelPending code time k s).2.sched =
    { s.sched with entries := s.sched.entries.filter (fun e => !e.named code time k) } := by
  unfold cancelPending
  split
  · rfl
  · next h =>
    have hall : s.sched.entries.filter (fun e => !e.named code time k) = s.sched.entries :=
      List.filter_eq_self.2 fun e he => by
        have := fun hn => h (List.any_eq_true.2 ⟨e, he, hn⟩)
        simpa using this
    rw [hall]

theorem cancelRequest_counter (r : Request) (s : State) : (cancelRequest r s).sched.commitCounter = s.sched.commitCounter := by
  by_cases hc : ∀ c, s.exch.state ≠ .committing c
  · by_cases hl : 13 ≤ r.fields.length
    · unfold cancelRequest
      rw [if_neg (by simp [isCommitting_of.1 hc]), withFields_enough hl]
      cases hk : changeKindOf (field r.fields 12 1) with
      | none => simp [refuse]
      | some k =>
        dsimp only
        split
        · simp [cancelPending_entries]
        · simp [refuse]
    · unfold cancelRequest
      rw [if_neg (by simp [isCommitting_of.1 hc]), withFields_short (Nat.lt_of_not_le hl)]
      simp
  · obtain ⟨c, hc⟩ := not_forall.1 hc
    rw [cancelRequest_busy (Classical.not_not.1 hc)]
    simp

/-- The clock of a day and a second within it (R86). -/
theorem clockOf_reading {day second : Nat} (hd : day < 65536) (hs : second < 86400) :
    clockOf (day * daySeconds + second) = ⟨true, day, second, 0⟩ := by
  have hle : day * 86400 + second ≤ 5662310399 := by omega
  unfold clockOf daySeconds maxStoreTime
  rw [Nat.min_eq_left hle]
  have h1 : (day * 86400 + second) / 86400 = day := by omega
  have h2 : (day * 86400 + second) % 86400 = second := by omega
  rw [h1, h2]

/-- The force hold on brings FALLBACK; off it leaves the state (R133). -/
theorem forceUplink_uplink (on : Bool) (s : State) : (on = true → (forceUplink on s).uplink.force = true ∧
    (forceUplink on s).uplink.state = .fallback) ∧ (on = false → forceUplink on s = { s with uplink := { s.uplink with force := false } }) := by
  refine ⟨fun h => ?_, fun h => by rw [h]; rfl⟩
  subst h
  have hto : forceUplink true s = changeUplink .fallback .force (setUplink { s.uplink with force := true } s) := rfl
  rw [hto]
  by_cases hf : s.uplink.state = .fallback
  · rw [changeUplink_same (s := setUplink { s.uplink with force := true } s) hf]
    exact ⟨rfl, hf⟩
  · rw [changeUplink_uplink (s := setUplink { s.uplink with force := true } s) hf]
    exact ⟨rfl, rfl⟩

theorem forceRequest_some {r : Request} {s : State} {on : Bool} (hl : 1 ≤ r.fields.length) (h : onOffOf (field r.fields 0 1) = some on) :
    forceRequest r s = answer r .done [] (forceUplink on s) := by
  unfold forceRequest
  rw [withFields_enough hl, h]

theorem forceRequest_none {r : Request} {s : State} (hl : 1 ≤ r.fields.length) (h : onOffOf (field r.fields 0 1) = none) :
    forceRequest r s = answer r .badField [] s := by
  unfold forceRequest
  rw [withFields_enough hl, h]
  rfl

/-- Settles O57: each request acts on its own figure, or is answered and no more. -/
theorem cancelClockAndForce : Obligations.CancelClockAndForce := by
  refine ⟨fun s r h => ⟨_, exec_eq_after _ s, by simp [onlyChanges_iff], ?_⟩, fun s r =>
    ⟨fun h hl => ⟨_, exec_eq_after _ s, by simp [onlyChanges_iff], ?_⟩,
      fun h hl => ⟨_, exec_eq_after _ s, by simp [onlyChanges_iff], ?_⟩⟩⟩
  · rw [after_pendingCancel, h.run]
    generalize hu : takeRequest r s = u
    have hsched : u.sched = s.sched := by rw [← hu]; simp
    have hexch : u.exch = s.exch := by rw [← hu]; simp
    refine ⟨?_, fun c hc => cancelRequest_busy (by rw [hexch, hc]), fun k hc hl hk hv ht => ?_, fun hc hl hbad =>
      cancelRequest_bad (by rwa [hexch]) hl hbad⟩
    · rw [cancelRequest_counter, hsched]
    · rw [cancelRequest_good (by rwa [hexch]) hl hk hv ht, answer_sched, cancelPending_entries, hsched]
      rfl
  · rw [after_clockSet, h.run, setClockRequest, withFields_enough hl]
    generalize hu : takeRequest r s = u
    have hset : u.settings = s.settings := by rw [← hu]; simp
    refine ⟨fun hs => ?_, fun hs => if_neg (Nat.not_lt.2 hs)⟩
    have hclock := clockOf_reading (field_lt r.fields 0 2) hs
    have hs' : field r.fields 2 4 < daySeconds := hs
    rw [if_pos hs']
    refine ⟨?_, ?_⟩
    · simp [setClock, hclock]
    · have hwin : (setClock (field r.fields 0 2 * daySeconds + field r.fields 2 4) u).windowIn =
          windowAt s.settings.openSecond s.settings.closeSecond (field r.fields 2 4) := by
        rw [setClock, recomputeWindow_windowIn]
        simp [State.windowNow, hclock, hset]
      simpa using hwin
  · rw [after_uplinkForce, h.run]
    generalize hu : takeRequest r s = u
    have huplink : u.uplink = s.uplink := by rw [← hu]; simp
    refine ⟨fun hone => ?_, fun hzero => ?_, fun hbad => forceRequest_none hl (onOffOf_none hbad)⟩
    · rw [forceRequest_some (on := true) hl (by rw [hone]; rfl)]
      simpa using (forceUplink_uplink true u).1 rfl
    · rw [forceRequest_some (on := false) hl (by rw [hzero]; rfl), (forceUplink_uplink false u).2 rfl, huplink]
      exact ⟨by simp, rfl⟩

/-! ### The counters -/

theorem answer_mon_up {r : Request} {result : MgmtResult} {data : List Byte} {s : State} (h : s.linkIsUp r.port = true) :
    (answer r result data s).mon = s.mon := by
  obtain ⟨-, -, he⟩ | ⟨hd, -⟩ | ⟨-, -, -, he⟩ | ⟨-, -, -, he⟩ := answer_cases r result data s
  · rw [he]
  · rw [h] at hd
    cases hd
  · rw [he]
    simp
  · rw [he]

theorem programRequest_good {r : Request} {s : State} {src : CounterSource} (hl : 10 ≤ r.fields.length)
    (hs : counterSourceOf r.fields = some src) (hn : field r.fields 0 1 ≤ 7) :
    programRequest r s = answer r .done [] (programCounter (field r.fields 0 1) src s) := by
  unfold programRequest
  rw [withFields_enough hl, hs]
  exact if_pos hn

theorem programRequest_bad {r : Request} {s : State} (hl : 10 ≤ r.fields.length)
    (h : counterSourceOf r.fields = none ∨ 7 < field r.fields 0 1) : programRequest r s = answer r .badField [] s := by
  unfold programRequest
  rw [withFields_enough hl]
  split
  · next src hs =>
    rw [hs] at h
    exact if_neg (Nat.not_le.2 (h.resolve_left (by simp)))
  · rfl

/-- A code outside its list makes no source (R202). -/
theorem counterSourceOf_bad {b : List Byte} (h : 3 < field b 6 1 ∨ 1 < field b 9 1) : counterSourceOf b = none := by
  unfold counterSourceOf
  by_cases hi : field b 9 1 ≤ 1
  · rw [onOffOf_some hi]
    exact if_pos (h.resolve_right (Nat.not_lt.2 hi))
  · rw [onOffOf_none (Nat.lt_of_not_le hi)]

/-- The source of no event and no occupancy takes no filter sets (R186). -/
theorem counterSourceOf_none {b : List Byte} (hs : field b 1 1 = 0) (hm : field b 6 1 ≤ 3) (hi : field b 9 1 ≤ 1) :
    counterSourceOf b = if field b 2 2 = 0 ∧ field b 4 1 = 0 ∧ field b 5 1 = 0 then some .none else none := by
  unfold counterSourceOf
  rw [onOffOf_some hi, hs]
  exact (if_neg (Nat.not_lt.2 hm)).trans (if_pos rfl)

/-- The source of an occupancy code (R184, R186). -/
theorem counterSourceOf_occupancy {b : List Byte} {o : Occupancy} (ho : occupancies[field b 1 1 - 0x41]? = some o) (hs : 0x41 ≤ field b 1 1)
    (hm : field b 6 1 ≤ 3) (hi : field b 9 1 ≤ 1) : counterSourceOf b =
      if field b 2 2 ≠ 0 ∨ field b 4 1 ≠ 0 ∨ field b 5 1 ≠ 0 then none
      else (counterModeOf (field b 6 1) (field b 7 2) (field b 9 1 == 1)).map (.occupancy o) := by
  have hlt : field b 1 1 - 0x41 < 6 := (List.getElem?_eq_some_iff.1 ho).1
  unfold counterSourceOf
  rw [onOffOf_some hi]
  dsimp only
  rw [if_neg (Nat.not_lt.2 hm), if_neg (by omega), if_pos (by omega), ho]
  split
  · rfl
  · cases counterModeOf (field b 6 1) (field b 7 2) (field b 9 1 == 1) <;> rfl

/-- The source of an event code (R183, R186). -/
theorem counterSourceOf_event {b : List Byte} (hs : field b 1 1 ≠ 0) (ho : ¬(0x41 ≤ field b 1 1 ∧ field b 1 1 ≤ 0x46))
    (hm : field b 6 1 ≤ 3) (hi : field b 9 1 ≤ 1) : counterSourceOf b = (countEvents[field b 1 1 - 1]?).bind fun e =>
      if filterSet e.quals (field b 2 2) && filterSet (if e.byPort then 5 else 0) (field b 4 1)
          && filterSet (if e.byClass then 3 else 0) (field b 5 1) && field b 6 1 == 0 then
        some (.event e (BitVec.ofNat 16 (field b 2 2)) (BitVec.ofNat 8 (field b 4 1)) (BitVec.ofNat 8 (field b 5 1))) else none := by
  unfold counterSourceOf
  rw [onOffOf_some hi]
  dsimp only
  rw [if_neg (Nat.not_lt.2 hm), if_neg hs, if_neg ho]
  cases countEvents[field b 1 1 - 1]? <;> rfl

theorem filterSet_iff (values set : Nat) : filterSet values set = true ↔ if values = 0 then set = 0 else 0 < set ∧ set < 2 ^ values := by
  unfold filterSet
  split <;> simp

/-- No source has a code between the lists or beyond them (R186). -/
theorem counterSourceOf_unlisted {b : List Byte} (h : 30 < field b 1 1 ∧ field b 1 1 < 0x41 ∨ 0x46 < field b 1 1) : counterSourceOf b = none := by
  by_cases hbad : 3 < field b 6 1 ∨ 1 < field b 9 1
  · exact counterSourceOf_bad hbad
  have hbeyond : countEvents[field b 1 1 - 1]? = none := List.getElem?_eq_none (show 30 ≤ _ by omega)
  rw [counterSourceOf_event (by omega) (by omega) (by omega) (by omega), hbeyond]
  rfl

/-- Settles O59: a counter is programmed afresh or not at all, by what its fields say; a snapshot waits for the sample instant. -/
theorem countersProgrammed : Obligations.CountersProgrammed := by
  refine fun s r => ⟨fun h hl hf hup => ⟨_, exec_eq_after _ s, by simp [onlyChanges_iff], ?_⟩, ?_,
    fun h => ⟨_, exec_eq_after _ s, by simp [onlyChanges_iff], ?_⟩⟩
  · rw [after_counterProgram, h.run]
    generalize hu : takeRequest r s = u
    rw [takeRequest_later hf] at hu
    have hmon : u.mon = s.mon := by rw [← hu]
    have hlink : u.linkIsUp r.port = true := by rw [← hu]; exact hup
    refine ⟨fun src hs hn => ?_, fun hbad => ?_⟩
    · have hkept : (answer r .done [] (programCounter (field r.fields 0 1) src u)).mon = (programCounter (field r.fields 0 1) src u).mon :=
        answer_mon_up hlink
      rw [programRequest_good hl hs hn, hkept, ← hmon]
      exact ⟨rfl, rfl⟩
    · rw [programRequest_bad hl hbad]
      exact ⟨rfl, (answer_mon_up hlink).trans hmon⟩
  · refine ⟨counterSourceOf_unlisted, counterSourceOf_bad, fun hs hm hi => ?_, fun h1 h30 hm => ?_, fun o ho hs hi => ?_,
      fun e he h1 hm hi => ?_⟩
    · rw [counterSourceOf_none hs hm hi]
      by_cases hsets : field r.fields 2 2 = 0 ∧ field r.fields 4 1 = 0 ∧ field r.fields 5 1 = 0
      · rw [if_pos hsets, if_neg (by omega)]
      · rw [if_neg hsets, if_pos (by omega)]
    · by_cases hbad : 3 < field r.fields 6 1 ∨ 1 < field r.fields 9 1
      · exact counterSourceOf_bad hbad
      rw [counterSourceOf_event (by omega) (by omega) (by omega) (by omega)]
      cases countEvents[field r.fields 1 1 - 1]? <;> simp [hm]
    · by_cases hm3 : 3 < field r.fields 6 1
      · rw [counterSourceOf_bad (.inl hm3), if_pos (.inr (.inr hm3))]
      rw [counterSourceOf_occupancy ho hs (Nat.not_lt.1 hm3) hi]
      by_cases hsets : field r.fields 2 2 ≠ 0 ∨ field r.fields 4 1 ≠ 0 ∨ field r.fields 5 1 ≠ 0
      · rw [if_pos hsets, if_pos (.inl hsets)]
      rw [if_neg hsets]
      obtain h0 | h1 | h2 | h3 : field r.fields 6 1 = 0 ∨ field r.fields 6 1 = 1 ∨ field r.fields 6 1 = 2 ∨ field r.fields 6 1 = 3 := by
        omega
      · simp [h0, counterModeOf]
      · simp [h1, hsets, counterModeOf]
      · rw [h2, if_neg (by omega)]
        by_cases ht : field r.fields 7 2 = 0 <;> simp [ht, counterModeOf]
      · rw [h3, if_neg (by omega)]
        by_cases ht : field r.fields 7 2 = 0 <;> simp [ht, counterModeOf]
    · have hlt : field r.fields 1 1 - 1 < 30 := (List.getElem?_eq_some_iff.1 he).1
      intro fits
      rw [counterSourceOf_event (by omega) (by omega) (by omega) hi, he, Option.bind_some]
      refine if_congr ?_ rfl rfl
      simp only [Bool.and_eq_true, filterSet_iff, hm, beq_self_eq_true, and_true, fits, and_assoc]
  · have hkept := takeRequest_monitorKept r s
    rw [after_counterSnapshot, h.run]
    exact ⟨rfl, by rw [markSnapshot, hkept.waiting], hkept.hold, rfl⟩

end Sys2Proof.Machine

/-! Requests: the item table and the station table (O54, O56). -/

namespace Sys2Proof.Machine

/-! ### Items -/

theorem sameOnLabels_iff (a b : ItemFields) : sameOnLabels a b = true ↔ b.mode = a.mode ∧ b.base = a.base ∧ b.promo = a.promo ∧
    b.packQuantity = a.packQuantity ∧ b.measure = a.measure ∧ b.refQuantity = a.refQuantity := by
  simp only [sameOnLabels, Bool.and_eq_true, beq_iff_eq, and_assoc]
  simp only [eq_comm (a := a.mode), eq_comm (a := a.base), eq_comm (a := a.promo), eq_comm (a := a.packQuantity),
    eq_comm (a := a.measure), eq_comm (a := a.refQuantity)]

theorem writeItemRequest_some {r : Request} {s : State} {f : ItemFields} (hl : 24 ≤ r.fields.length) (h : itemFieldsOf r.fields 6 = some f) :
    writeItemRequest r s = answer r (writeItem (field r.fields 0 6) f s).1.result []
      (dispatchOn s (writeItem (field r.fields 0 6) f s).2) := by
  unfold writeItemRequest
  rw [withFields_enough hl, h]

theorem deleteItemRequest_found {r : Request} {s : State} {slot : Nat} {old : ItemRec} (hl : 6 ≤ r.fields.length)
    (hi : findItem s.items (field r.fields 0 6) = some (slot, old)) : deleteItemRequest r s =
      answer r (deleteItem (field r.fields 0 6) s).1.result [] (dispatchOn s (deleteItem (field r.fields 0 6) s).2) := by
  unfold deleteItemRequest
  rw [withFields_enough hl]
  exact if_pos (findItem_found hi).1

/-- A delete of no item is answered, and no more (R12). -/
theorem deleteItemRequest_absent {r : Request} {s : State} (hl : 6 ≤ r.fields.length) (hi : findItem s.items (field r.fields 0 6) = none) :
    ∃ o, deleteItemRequest r s = answer r o [] s := by
  unfold deleteItemRequest
  rw [withFields_enough hl]
  split
  · dsimp only
    rw [deleteItem_absent hi, dispatchOn_of_disp rfl]
    exact ⟨_, rfl⟩
  · exact ⟨_, rfl⟩

theorem deleteItem_unlabelled {code slot : Nat} {old : ItemRec} {s : State} (hi : findItem s.items code = some (slot, old))
    (hnone : old.labels = []) : (deleteItem code s).2.labels = s.labels ∧ (deleteItem code s).2.disp = s.disp := by
  unfold deleteItem
  rw [hi]
  dsimp only
  rw [hnone]
  exact ⟨rfl, rfl⟩

section
variable {code : Nat} {f : ItemFields} {s : State}

/-- What a write does to the item it finds or makes, or that it is refused (R5, R7). -/
theorem writeItem_split : (∃ slot old, findItem s.items code = some (slot, old) ∧ f.valid = true) ∨
    (∃ w, validCode code = true ∧ findItem s.items code = none ∧ f.valid = true ∧ freeWay s.items code = some w) ∨
    (writeItem code f s).2 = s := by
  cases hv : validCode code with
  | false => exact .inr (.inr (by rw [writeItem_invalid (.inl hv)]))
  | true =>
    cases hf : f.valid with
    | false => exact .inr (.inr (by rw [writeItem_invalid (.inr hf)]))
    | true =>
      cases hi : findItem s.items code with
      | some p => exact .inl ⟨p.1, p.2, rfl, rfl⟩
      | none =>
        cases hw : freeWay s.items code with
        | none => exact .inr (.inr (by rw [writeItem_full hv hi hf hw]))
        | some w => exact .inr (.inl ⟨w, rfl, rfl, rfl, rfl⟩)

/-- A write owes its labels nothing when it moves none of the fields they show, or the item has none (R11). -/
theorem writeItem_owes_nothing (h : ∀ old, lookupItem s.items code = some old → sameOnLabels old.fields f = true ∨ old.labels = []) :
    (writeItem code f s).2.labels = s.labels ∧ (writeItem code f s).2.disp = s.disp := by
  obtain ⟨slot, old, hi, hf⟩ | ⟨w, hv, hi, hf, hw⟩ | hno := writeItem_split (code := code) (f := f) (s := s)
  · have hnone : (if sameOnLabels old.fields f then [] else old.labels) = [] := by
      rcases h old (lookupItem_of_find hi) with hs | hs <;> simp [hs]
    rw [writeItem_present hi hf, hnone]
    exact ⟨rfl, rfl⟩
  · rw [writeItem_created hv hi hf hw]
    exact ⟨rfl, rfl⟩
  · rw [hno]
    exact ⟨rfl, rfl⟩

theorem writeItem_stays (h : validCode code = false ∨ f.valid = false ∨ lookupItem s.items code = none ∧ freeWay s.items code = none) :
    (writeItem code f s).2 = s := by
  obtain ⟨slot, old, hi, hf⟩ | ⟨w, hv, hi, hf, hw⟩ | hno := writeItem_split (code := code) (f := f) (s := s)
  · obtain h | h | ⟨h, -⟩ := h
    · rw [validCode_of_lookup (lookupItem_of_find hi)] at h
      cases h
    · rw [hf] at h
      cases h
    · rw [lookupItem_of_find hi] at h
      cases h
  · simp [hv, hf, hw] at h
  · exact hno

end

/-- Settles O54: the record a write or delete leaves, and the labels it owes nothing. -/
theorem itemsWritten : Obligations.ItemsWritten := by
  intro s r code frame
  refine ⟨fun f h hl hf => ⟨_, exec_eq_after _ s, by simp [frame, onlyChanges_iff], ?_⟩,
    fun h hl => ⟨_, exec_eq_after _ s, by simp [frame, onlyChanges_iff], ?_⟩⟩
  · rw [after_itemWrite, h.run]
    generalize hu : takeRequest r s = u
    have hitems : u.items = s.items := by rw [← hu]; simp
    have hlabels : u.labels = s.labels := by rw [← hu]; simp
    have hdisp : u.disp = s.disp := by rw [← hu]; simp
    rw [writeItemRequest_some hl hf, ← hitems, ← hlabels, ← hdisp]
    refine ⟨fun hv hvalid old hold => ?_, fun hsame => ?_, fun hv hvalid hno hw => ?_, fun hbad => ?_⟩
    · obtain ⟨slot, hi⟩ := lookupItem_eq_some.1 hold
      have hwrite : (old.write f) = ⟨old.code, f, if f.mode = old.fields.mode ∧ f.base = old.fields.base ∧ f.promo = old.fields.promo ∧
          f.packQuantity = old.fields.packQuantity ∧ f.measure = old.fields.measure ∧ f.refQuantity = old.fields.refQuantity
          then old.version else min 65535 (old.version + 1), old.labels⟩ := by
        unfold ItemRec.write
        rw [if_congr (sameOnLabels_iff old.fields f) rfl rfl]
      rw [← hwrite, writeItem_present hi hvalid]
      have hput := findItem_put_same hi (q := old.write f) (findItem_found hi).2.2.2
      simpa using lookupItem_of_find hput
    · obtain ⟨hkl, hkd⟩ := writeItem_owes_nothing hsame
      rw [dispatchOn_of_disp hkd]
      exact ⟨by simpa using hkl, by simpa using hkd⟩
    · obtain ⟨w, hw⟩ := Option.ne_none_iff_exists'.1 hw
      rw [writeItem_created hv (lookupItem_eq_none.1 hno) hvalid hw]
      have hput := findItem_create (lookupItem_eq_none.1 hno) hv hw (q := ⟨code, f, 1, []⟩) rfl
      simpa using lookupItem_of_find hput
    · rw [writeItem_stays hbad]
      simp
  · rw [after_itemDelete, h.run]
    generalize hu : takeRequest r s = u
    have hitems : u.items = s.items := by rw [← hu]; simp
    have hlabels : u.labels = s.labels := by rw [← hu]; simp
    have hdisp : u.disp = s.disp := by rw [← hu]; simp
    rw [← hitems, ← hlabels, ← hdisp]
    refine ⟨fun slot old hi => ?_, fun hno => ?_⟩
    · rw [deleteItemRequest_found hl hi]
      refine ⟨by simpa using deleteItem_items hi, fun n hn => ?_, fun hnone => ?_⟩
      · have hmarks := (dispatchOn_marks u (deleteItem code u).2).bound n
        rw [deleteItem_bound hi, if_pos hn] at hmarks
        rw [label_of_labels (answer_labels _ _ _ _)]
        exact hmarks
      · obtain ⟨hkl, hkd⟩ := deleteItem_unlabelled hi hnone
        rw [dispatchOn_of_disp hkd]
        exact ⟨by simpa using hkl, by simpa using hkd⟩
    · obtain ⟨o, ho⟩ := deleteItemRequest_absent hl hno
      rw [ho]
      simp

/-! ### Stations -/

theorem segOfCode_some {c : Nat} {seg : Seg} (h : segOfCode c = some seg) : segIndex seg = c := by
  unfold segOfCode at h
  split at h <;> cases h <;> rfl

theorem loadedClassOf_some {seg : Seg} {c n : Nat} {cls : StationClass} (h : loadedClassOf seg c n = some cls) :
    cls.code = c ∧ cls.number = n ∧ (cls = .tillStation → seg = .till) ∧ (cls.isBase = true → seg = .label ∧ cls.number ≤ 7) := by
  unfold loadedClassOf at h
  split at h
  · split at h
    · next hc =>
      cases h
      exact ⟨rfl, hc.2.symm, fun _ => hc.1, fun hb => by (cases hb)⟩
    · cases h
  · split at h
    · next hc =>
      cases h
      exact ⟨rfl, rfl, fun ht => by (cases ht), fun _ => hc⟩
    · cases h
  · split at h
    · next hc =>
      cases h
      exact ⟨rfl, hc.symm, fun ht => by (cases ht), fun hb => by (cases hb)⟩
    · cases h
  · split at h
    · next hc =>
      cases h
      exact ⟨rfl, hc.symm, fun ht => by (cases ht), fun hb => by (cases hb)⟩
    · cases h
  · cases h

theorem loadedClassOf_guest (seg : Seg) (n : Nat) : loadedClassOf seg 3 n = none := rfl

theorem writeStationRequest_some {r : Request} {s : State} {e : Station} (hl : 9 ≤ r.fields.length) (h : stationOf r.fields s = some e) :
    writeStationRequest r s = answer r (writeStation e s).1 [] (writeStation e s).2 := by
  unfold writeStationRequest
  rw [withFields_enough hl, h]

theorem writeStationRequest_none {r : Request} {s : State} (hl : 9 ≤ r.fields.length) (h : stationOf r.fields s = none) :
    writeStationRequest r s = answer r .badField [] s := by
  unfold writeStationRequest
  rw [withFields_enough hl, h]
  rfl

theorem deleteStationRequest_some {r : Request} {s : State} {e : Station} (hl : 6 ≤ r.fields.length)
    (h : Tbl.get s.stations.table (field r.fields 0 6) = some e) : deleteStationRequest r s = answer r .done [] (dropStation e s) := by
  unfold deleteStationRequest
  rw [withFields_enough hl, h]

theorem deleteStationRequest_none {r : Request} {s : State} (hl : 6 ≤ r.fields.length)
    (h : Tbl.get s.stations.table (field r.fields 0 6) = none) : deleteStationRequest r s = answer r .notFound [] s := by
  unfold deleteStationRequest
  rw [withFields_enough hl, h]

/-- An entry that goes takes a guest client's record with it, and that is all of the guest unit (R145). -/
theorem dropStation_guest (e : Station) (s : State) : (dropStation e s).guest = { s.guest with
    table := if e.cls = .guestClient then Tbl.del s.guest.table e.addr.toNat else s.guest.table } ∧
    (dropStation e s).stations.table = Tbl.del s.stations.table e.addr.toNat := by
  unfold dropStation
  dsimp only
  split <;> exact ⟨rfl, rfl⟩

/-- What a STATION-WRITE leaves of the stations and the guests (R145). -/
theorem writeStation_leaves (e : Station) (s : State) :
    (∀ old, Tbl.get s.stations.table e.addr.toNat = some old → (writeStation e s).2.guest = (dropStation old s).guest ∧
      Tbl.get (writeStation e s).2.stations.table e.addr.toNat = some e) ∧
    (Tbl.get s.stations.table e.addr.toNat = none → (writeStation e s).2.guest = s.guest ∧
      (s.stations.table.length < 2048 → Tbl.get (writeStation e s).2.stations.table e.addr.toNat = some e) ∧
      (2048 ≤ s.stations.table.length → writeStation e s = (.full, s))) := by
  refine ⟨fun old hold => ?_, fun hno => ?_⟩
  · unfold writeStation
    rw [hold]
    dsimp only
    split <;> simp [putStation]
  · unfold writeStation
    rw [hno]
    dsimp only
    by_cases hfull : s.stations.table.length ≥ 2048
    · rw [if_pos hfull]
      exact ⟨rfl, fun hlt => absurd hfull (Nat.not_le.2 hlt), fun _ => rfl⟩
    · rw [if_neg hfull]
      refine ⟨?_, fun _ => ?_, fun h => absurd h hfull⟩
      · dsimp only
        split <;> simp
      · dsimp only
        split <;> simp [putStation]

/-- Settles O56: the entry a write leaves and what goes with the one it replaces; an entry deleted. -/
theorem stationsWritten : Obligations.StationsWritten := by
  intro s r k frame
  refine ⟨fun h hl => ⟨_, exec_eq_after _ s, by simp [frame, onlyChanges_iff], ?_⟩,
    fun h hl => ⟨_, exec_eq_after _ s, by simp [frame, onlyChanges_iff], ?_⟩⟩
  · rw [after_stationWrite, h.run]
    generalize hu : takeRequest r s = u
    have hstations : u.stations = s.stations := by rw [← hu]; simp
    have hguest : u.guest = s.guest := by rw [← hu]; simp
    have hset : u.settings = s.settings := by rw [← hu]; simp
    have hof : stationOf r.fields s = stationOf r.fields u := by rw [stationOf, stationOf, hset]
    rw [hof, ← hstations, ← hguest]
    refine ⟨fun e he => ?_, fun hno => writeStationRequest_none hl hno, fun hbad => ?_⟩
    · obtain ⟨hold, hnew⟩ := writeStation_leaves e u
      rw [writeStationRequest_some hl he]
      refine ⟨?_, fun old hg ha => ?_, fun hg => by simpa using (hnew hg).1, fun hroom => ?_, fun hg hfull => by rw [(hnew hg).2.2 hfull]⟩
      · obtain ⟨seg, cls, hseg, hcls, -, rfl⟩ := stationOf_eq_some.1 he
        obtain ⟨hcode, hnumber, htill, hbase⟩ := loadedClassOf_some hcls
        exact ⟨rfl, rfl, rfl, rfl, loadedClass_ne_guest hcls, segOfCode_some hseg, hcode, hnumber, htill, hbase⟩
      · rw [answer_guest, (hold old hg).1, (dropStation_guest old u).1, ha]
      · rw [answer_stations]
        cases hg : Tbl.get u.stations.table e.addr.toNat with
        | some old => exact (hold old hg).2
        | none => exact (hnew hg).2.1 (hroom.resolve_left (by simp [hg]))
    · refine Option.eq_none_iff_forall_ne_some.2 fun e he => ?_
      obtain ⟨seg, cls, -, hcls, ⟨hg, hz, hown⟩, -⟩ := stationOf_eq_some.1 he
      obtain hb | hb | hb | hb := hbad
      · rw [hg] at hb
        cases hb
      · exact hz hb
      · exact hown (hset ▸ hb)
      · rw [hb, loadedClassOf_guest] at hcls
        cases hcls
  · rw [after_stationDelete, h.run]
    generalize hu : takeRequest r s = u
    have hstations : u.stations = s.stations := by rw [← hu]; simp
    have hguest : u.guest = s.guest := by rw [← hu]; simp
    rw [← hstations, ← hguest]
    refine ⟨fun e he ha => ?_, fun hno => deleteStationRequest_none hl hno⟩
    obtain ⟨hg, hs⟩ := dropStation_guest e u
    rw [deleteStationRequest_some hl he, answer_stations,
      answer_guest, hg, hs, ha]
    refine ⟨Tbl.get_del_same _ _, fun j hj => Tbl.get_del_other _ _ _ hj, rfl, fun hc => ?_⟩
    rw [if_pos hc]
    simp

end Sys2Proof.Machine

/-! Requests: the label table (O55). -/

namespace Sys2Proof.Machine

/-! ### What a bind leaves of a label's radio -/

/-- Between two states no label's radio identity or reach differs. -/
def RadioKept (s t : State) : Prop := ∀ n, (t.label n).radio = (s.label n).radio ∧ (t.label n).reachable = (s.label n).reachable

theorem RadioKept.of_labels {s t : State} (h : t.labels = s.labels) : RadioKept s t := fun n => by
  rw [label_of_labels h]
  exact ⟨rfl, rfl⟩

theorem RadioKept.trans {s t u : State} (h : RadioKept s t) (k : RadioKept t u) : RadioKept s u := fun n =>
  ⟨(k n).1.trans (h n).1, (k n).2.trans (h n).2⟩

theorem MarksOnly.radio {s t : State} (h : MarksOnly s t) : RadioKept s t := fun n =>
  ⟨(h.keeps n).1, (h.keeps n).2.2.2.2⟩

theorem noteBound_radio (n : Nat) (b : Option Nat) (s : State) : RadioKept s (noteBound n b s) := by
  intro m
  unfold noteBound
  dsimp only
  rw [label_of_labels (mapEntry_labels _ _ _), setLabel_label]
  split
  · next h =>
    rw [h]
    exact ⟨rfl, rfl⟩
  · exact ⟨rfl, rfl⟩

theorem rebind_radio (n : Nat) (bound : Option Nat) (s : State) : RadioKept s (rebind n bound s).2 := by
  have hnote : ∀ (b : Option Nat) (t : State), t.labels = s.labels → RadioKept s (owe n (noteBound n b t)) := fun b t ht =>
    (RadioKept.of_labels ht).trans ((noteBound_radio n b t).trans (owe_marks n _).radio)
  unfold rebind
  split
  · exact .of_labels rfl
  · split
    · next code _ _ =>
      unfold bindLabel
      split
      · exact .of_labels rfl
      · split
        · exact .of_labels rfl
        · split
          · exact .of_labels rfl
          · exact hnote _ _ (by split <;> simp)
    · unfold unbindLabel
      split
      · exact hnote _ _ (by simp)
      · exact .of_labels rfl
    · exact .of_labels rfl

/-- A LABEL-WRITE's bind, where it is carried out, leaves the bound item it carries (R71). -/
theorem rebind_done {n : Nat} {bound : Option Nat} {s : State} (hs : BindingsHold s) (hd : (rebind n bound s).1 = .done) :
    ((rebind n bound s).2.label n).bound = bound := by
  have hbound := (bindingsHold_iff.1 hs).2 n
  unfold rebind at hd ⊢
  split at hd
  · next h => rw [if_pos h]; exact h
  · next hne =>
    rw [if_neg hne]
    cases bound with
    | some code =>
      dsimp only at hd ⊢
      cases hr : lookupItem s.items code with
      | none =>
        rw [bindLabel_noItem hr] at hd
        cases hd
      | some r =>
        have hn : n ∉ r.labels := fun hn => hne ((hbound code).2 ⟨r, hr, hn⟩)
        rcases Nat.lt_or_ge r.labels.length 4 with hl | hl
        · exact (bindLabel_leaves hr hn hl).2.2.1
        · rw [bindLabel_full hr hn hl] at hd
          cases hd
    | none =>
      cases hb : (s.label n).bound with
      | none => exact absurd hb hne
      | some code =>
        obtain ⟨r, hr, hn⟩ := (hbound code).1 hb
        exact (unbindLabel_leaves hr hn).2.1

/-- The outcome of a LABEL-WRITE's bind is read off the two tables. -/
theorem rebind_outcome_congr {s u : State} (hi : u.items = s.items) (hl : u.labels = s.labels) (n : Nat) (bound : Option Nat) :
    (rebind n bound u).1 = (rebind n bound s).1 := by
  have hlab := label_of_labels hl n
  unfold rebind
  rw [hlab]
  split
  · rfl
  · split
    · unfold bindLabel
      rw [hi]
      cases lookupItem s.items _ with
      | none => rfl
      | some r => dsimp only; split <;> [rfl; split <;> rfl]
    · have ho : ∀ code, unbindOutcome n code u = unbindOutcome n code s := fun code => by rw [unbindOutcome, unbindOutcome, hi]
      unfold unbindLabel
      rw [ho]
      split <;> rfl
    · rfl

theorem radioTaken_congr {s u : State} (hl : u.labels = s.labels) (n radio : Nat) : radioTaken n radio u = radioTaken n radio s := by
  unfold radioTaken
  rw [hl]

/-! ### The radio identity and the base station -/

/-- The record a new radio identity and base station make of a label's (R72). -/
def radioWritten (radio base : Nat) (l : LabelRec) : LabelRec :=
  if l.radio = radio then { l with base := base }
  else { l with radio := radio, base := base, display := .neverShown, reachable := false }

theorem radioWritten_fields (radio base : Nat) (l : LabelRec) : (radioWritten radio base l).radio = radio ∧
    (radioWritten radio base l).base = base ∧ (radioWritten radio base l).bound = l.bound ∧
    (radio ≠ l.radio → (radioWritten radio base l).display = .neverShown ∧ (radioWritten radio base l).reachable = false) ∧
    (radio = l.radio → (radioWritten radio base l).display = l.display ∧ (radioWritten radio base l).reachable = l.reachable) := by
  unfold radioWritten
  by_cases h : l.radio = radio
  · rw [if_pos h]
    exact ⟨h, rfl, rfl, fun hne => absurd h.symm hne, fun _ => ⟨rfl, rfl⟩⟩
  · rw [if_neg h]
    exact ⟨rfl, rfl, rfl, fun _ => ⟨rfl, rfl⟩, fun he => absurd he.symm h⟩

/-- An entry of a label whose push in flight is out of date (R72). -/
def supersede (e : LabelEntry) : LabelEntry := { e with flight := e.flight.map (fun f => { f with superseded := true }) }

section
variable {n radio base : Nat} {s : State}

theorem writeRadio_same (h : (s.label n).radio = radio) : writeRadio n radio base s = setLabel n { s.label n with base := base } s := if_pos h

theorem writeRadio_new (h : (s.label n).radio ≠ radio) : writeRadio n radio base s =
    if radio = 0 then mapEntry n supersede (setLabel n (radioWritten radio base (s.label n)) s)
    else owe n (mapEntry n supersede (setLabel n (radioWritten radio base (s.label n)) s)) := by
  rw [radioWritten, if_neg h]
  exact if_neg h

theorem writeRadio_marks : MarksOnly (setLabel n (radioWritten radio base (s.label n)) s) (writeRadio n radio base s) := by
  by_cases h : (s.label n).radio = radio
  · rw [writeRadio_same h, radioWritten, if_pos h]
    exact .of_labels rfl
  · rw [writeRadio_new h]
    split
    · exact .of_labels rfl
    · exact (MarksOnly.of_labels (mapEntry_labels _ _ _)).trans (owe_marks n _)

theorem mapEntry_supersede_hasWaiting (m : Nat) : (mapEntry n supersede s).hasWaiting m = s.hasWaiting m := by
  unfold State.hasWaiting mapEntry setQueue
  rw [List.any_map]
  congr 1
  funext e
  simp only [Function.comp_apply]
  split
  · simp [supersede]
  · rfl

theorem mapEntry_supersede_event : queueEvent s (mapEntry n supersede s) = false := by
  refine queueEvent_of_queue rfl ?_
  unfold State.tagsInFlight mapEntry setQueue
  rw [List.filterMap_map]
  refine List.filterMap_congr fun e _ => ?_
  simp only [Function.comp_apply]
  split
  · simp [supersede, Function.comp_def]
  · rfl

theorem hasWaiting_iff : s.hasWaiting n = true ↔ ∃ e ∈ s.disp.queue, e.label = n ∧ e.flight = none := by
  simp [State.hasWaiting]

end

/-! ### A LABEL-WRITE -/

section
variable {n radio base : Nat} {bound : Option Nat} {s : State}

theorem writeLabel_done (h : (rebind n bound s).1 = .done) : writeLabel n radio base bound s = (.done,
    if (s.label n).base ≠ base ∧ (writeRadio n radio base (rebind n bound s).2).hasWaiting n = true then
      dispatch (writeRadio n radio base (rebind n bound s).2)
    else dispatchOn s (writeRadio n radio base (rebind n bound s).2)) := if_pos h

theorem writeLabel_refused (h : (rebind n bound s).1 ≠ .done) : writeLabel n radio base bound s = ((rebind n bound s).1, s) := if_neg h

theorem rebind_same (h : bound = (s.label n).bound) : rebind n bound s = (.done, s) := if_pos h.symm

/-- The label's record a write leaves, but for its overflow mark (R71, R72). -/
theorem writeLabel_record (h : (rebind n bound s).1 = .done) : MarksOnly
    (setLabel n (radioWritten radio base ((rebind n bound s).2.label n)) (rebind n bound s).2) (writeLabel n radio base bound s).2 := by
  rw [writeLabel_done h]
  dsimp only
  split
  · exact writeRadio_marks.trans (dispatch_marks _)
  · exact writeRadio_marks.trans (dispatchOn_marks _ _)

/-- A write that keeps the binding and the radio identity, with no other base station for a WAITING entry, is the record alone (R74). -/
theorem writeLabel_base (hb : bound = (s.label n).bound) (hr : radio = (s.label n).radio)
    (hn : base = (s.label n).base ∨ ¬∃ e ∈ s.disp.queue, e.label = n ∧ e.flight = none) :
    writeLabel n radio base bound s = (.done, setLabel n { s.label n with base := base } s) := by
  have hd := rebind_same hb
  have hno : ¬((s.label n).base ≠ base ∧ (setLabel n { s.label n with base := base } s).hasWaiting n = true) := fun ⟨hne, hw⟩ =>
    hn.elim (fun h => hne h.symm) (fun h => h (hasWaiting_iff.1 hw))
  rw [writeLabel_done (by rw [hd]), hd]
  dsimp only
  rw [writeRadio_same hr.symm, if_neg hno]
  exact congrArg (Prod.mk _) (dispatchOn_of_disp rfl)

/-- With another base station for a WAITING entry there is one dispatch attempt (R74). -/
theorem writeLabel_newBase (hb : bound = (s.label n).bound) (hr : radio = (s.label n).radio) (hne : base ≠ (s.label n).base)
    (hw : ∃ e ∈ s.disp.queue, e.label = n ∧ e.flight = none) :
    writeLabel n radio base bound s = (.done, dispatch (setLabel n { s.label n with base := base } s)) := by
  have hd := rebind_same hb
  have hyes : (s.label n).base ≠ base ∧ (setLabel n { s.label n with base := base } s).hasWaiting n = true :=
    ⟨hne.symm, hasWaiting_iff.2 hw⟩
  rw [writeLabel_done (by rw [hd]), hd]
  dsimp only
  rw [writeRadio_same hr.symm, if_pos hyes]

/-- A label given identity 0 has its push in flight superseded, and no more of the queue moves (R72, R74). -/
theorem writeLabel_silenced (hb : bound = (s.label n).bound) (hr : (s.label n).radio ≠ 0)
    (hn : base = (s.label n).base ∨ ¬∃ e ∈ s.disp.queue, e.label = n ∧ e.flight = none) :
    writeLabel n 0 base bound s = (.done, mapEntry n supersede (setLabel n (radioWritten 0 base (s.label n)) s)) := by
  have hd := rebind_same hb
  have hno : ¬((s.label n).base ≠ base ∧
      (mapEntry n supersede (setLabel n (radioWritten 0 base (s.label n)) s)).hasWaiting n = true) := fun ⟨hne, hw⟩ =>
    hn.elim (fun h => hne h.symm) (fun h => h (hasWaiting_iff.1 (by rwa [mapEntry_supersede_hasWaiting] at hw)))
  have hstay : dispatchOn s (mapEntry n supersede (setLabel n (radioWritten 0 base (s.label n)) s)) =
      mapEntry n supersede (setLabel n (radioWritten 0 base (s.label n)) s) :=
    if_neg (by
      have hev := mapEntry_supersede_event (n := n) (s := setLabel n (radioWritten 0 base (s.label n)) s)
      exact Bool.eq_false_iff.1 hev)
  rw [writeLabel_done (by rw [hd]), hd]
  dsimp only
  rw [writeRadio_new hr, if_pos rfl, if_neg hno, hstay]

end

theorem writeLabelRequest_good {r : Request} {s : State} {bound : Option Nat} (hl : 13 ≤ r.fields.length) (hb : boundOf r.fields = some bound)
    (hn : field r.fields 0 2 ≤ 32767) (hbase : field r.fields 5 1 ≤ 7) (ht : radioTaken (field r.fields 0 2) (field r.fields 2 3) s = false) :
    writeLabelRequest r s = answer r (writeLabel (field r.fields 0 2) (field r.fields 2 3) (field r.fields 5 1) bound s).1.result []
      (writeLabel (field r.fields 0 2) (field r.fields 2 3) (field r.fields 5 1) bound s).2 := by
  unfold writeLabelRequest
  rw [withFields_enough hl, hb]
  exact if_neg (by simp [Nat.not_lt.2 hn, Nat.not_lt.2 hbase, ht])

/-- A LABEL-WRITE that is refused is answered, and no more (R71). -/
theorem writeLabelRequest_refused {r : Request} {s : State} {bound : Option Nat} (hl : 13 ≤ r.fields.length)
    (hb : boundOf r.fields = some bound) (hbad : 32767 < field r.fields 0 2 ∨ 7 < field r.fields 5 1 ∨
      radioTaken (field r.fields 0 2) (field r.fields 2 3) s = true ∨ (rebind (field r.fields 0 2) bound s).1 ≠ .done) :
    ∃ o, writeLabelRequest r s = answer r o [] s := by
  by_cases hg : field r.fields 0 2 ≤ 32767 ∧ field r.fields 5 1 ≤ 7 ∧ radioTaken (field r.fields 0 2) (field r.fields 2 3) s = false
  · obtain ⟨hn, hbase, ht⟩ := hg
    have hne : (rebind (field r.fields 0 2) bound s).1 ≠ .done := by
      obtain h | h | h | h := hbad
      · omega
      · omega
      · rw [ht] at h; cases h
      · exact h
    rw [writeLabelRequest_good hl hb hn hbase ht, writeLabel_refused hne]
    exact ⟨_, rfl⟩
  · refine ⟨.badField, ?_⟩
    unfold writeLabelRequest
    rw [withFields_enough hl, hb]
    refine if_pos ?_
    by_cases h1 : field r.fields 0 2 ≤ 32767
    · by_cases h2 : field r.fields 5 1 ≤ 7
      · exact .inr (.inr (by simpa [h1, h2] using hg))
      · exact .inr (.inl (Nat.lt_of_not_le h2))
    · exact .inl (Nat.lt_of_not_le h1)

/-! ### A LABEL-REPUSH -/

/-- An update owed to a label stands in the queue, or as its mark (R68). -/
theorem owe_owed (n : Nat) (s : State) : (∃ k, (owe n s).hasEntry n k) ∨ (((owe n s).label n).overflow = true ∧ (owe n s).disp = s.disp) := by
  have hmap : ∀ f : LabelEntry → LabelEntry, (∀ e, (f e).label = e.label) → ∀ e, s.entryOf n = some e →
      ∃ k, (mapEntry n f s).hasEntry n k := by
    intro f hf e he
    have hn : e.label = n := by simpa using List.find?_some he
    exact ⟨_, _, List.mem_map_of_mem (List.mem_of_find?_eq_some he), by rw [if_pos hn, hf, hn], rfl⟩
  unfold owe
  split
  · next e he =>
    split
    · exact .inl (hmap _ (fun _ => rfl) e he)
    · exact .inl (hmap _ (fun _ => rfl) e he)
  · split
    · next h => exact .inr ⟨h, rfl⟩
    · split
      · exact .inl ⟨0, _, List.mem_append_right _ (List.mem_singleton.2 rfl), rfl, rfl⟩
      · refine .inr ⟨?_, rfl⟩
        rw [label_of_labels (count_labels _ _), setLabel_label, if_pos rfl]

/-- What a repush leaves: the label REACHABLE, its display, and an update owed (R73). -/
theorem repushLabel_leaves {n : Nat} {s : State} (hr : (s.label n).radio ≠ 0) : ((repushLabel n s).label n).reachable = true ∧
    ((repushLabel n s).label n).display = (s.label n).display ∧
    (((repushLabel n s).label n).overflow = true ∨ ∃ e ∈ (repushLabel n s).disp.queue, e.label = n) := by
  unfold repushLabel
  generalize hv : setLabel n { s.label n with reachable := true } s = v
  have hlab : v.label n = { s.label n with reachable := true } := by rw [← hv, setLabel_label, if_pos rfl]
  have hdisp : v.disp = s.disp := by rw [← hv]; rfl
  obtain ⟨hradio, -, -, hdisplay, hreach⟩ := ((owe_marks n v).trans (dispatchOn_marks s (owe n v))).keeps n
  rw [hlab] at hdisplay hreach
  refine ⟨hreach, hdisplay, ?_⟩
  obtain ⟨k, hk⟩ | ⟨ho, hd⟩ := owe_owed n v
  · have hin : (dispatchOn s (owe n v)).hasEntry n k := by
      obtain h | ⟨-, h⟩ := dispatchOn_cases s (owe n v)
      · rwa [h]
      · rw [h]
        refine dispatch_hasEntry hk ?_
        rw [((owe_marks n v).keeps n).1, hlab]
        exact hr
    obtain ⟨e, he, hn, -⟩ := hin
    exact .inr ⟨e, he, hn⟩
  · rw [dispatchOn_of_disp (hd.trans hdisp)]
    exact .inl ho

theorem repushRequest_high {r : Request} {s : State} (hl : 2 ≤ r.fields.length) (hn : 32767 < field r.fields 0 2) :
    repushRequest r s = answer r .badField [] s := by
  unfold repushRequest
  rw [withFields_enough hl]
  exact if_pos hn

theorem repushRequest_unused {r : Request} {s : State} (hl : 2 ≤ r.fields.length) (hn : field r.fields 0 2 ≤ 32767)
    (hr : (s.label (field r.fields 0 2)).radio = 0) : repushRequest r s = answer r .notFound [] s := by
  unfold repushRequest
  rw [withFields_enough hl]
  exact (if_neg (Nat.not_lt.2 hn)).trans (if_pos hr)

theorem repushRequest_used {r : Request} {s : State} (hl : 2 ≤ r.fields.length) (hn : field r.fields 0 2 ≤ 32767)
    (hr : (s.label (field r.fields 0 2)).radio ≠ 0) : repushRequest r s = answer r .done [] (repushLabel (field r.fields 0 2) s) := by
  unfold repushRequest
  rw [withFields_enough hl]
  exact (if_neg (Nat.not_lt.2 hn)).trans (if_neg hr)

/-- Settles O55: what a write leaves of the label's record and of the queue, or that it is refused; a repush owes an update. -/
theorem labelsWritten : Obligations.LabelsWritten := by
  intro s r n radio
  refine ⟨fun bound hs h hl hb => ⟨_, exec_eq_after _ s, by simp [onlyChanges_iff], ?_⟩,
    fun h hl => ⟨_, exec_eq_after _ s, by simp [onlyChanges_iff], ?_⟩⟩
  · rw [after_labelWrite, h.run]
    generalize hu : takeRequest r s = u
    have hitems : u.items = s.items := by rw [← hu]; simp
    have hlabels : u.labels = s.labels := by rw [← hu]; simp
    have hdisp : u.disp = s.disp := by rw [← hu]; simp
    have hlabel : ∀ k, s.label k = u.label k := fun k => (label_of_labels hlabels k).symm
    rw [← rebind_outcome_congr hitems hlabels n bound, ← radioTaken_congr hlabels n radio, hlabel n, ← hdisp]
    refine ⟨fun hn hbase ht hd => ?_, fun hn hbase ht hbound hradio => ?_, fun hbad => ?_⟩
    · have hkept := rebind_radio n bound u n
      have hrec := (writeLabel_record (radio := radio) (base := field r.fields 5 1) hd).keeps n
      rw [setLabel_label, if_pos rfl] at hrec
      have hnow := rebind_done (BindingsHold.of_labels hs hitems hlabels) hd
      have hsame : bound = (u.label n).bound → (rebind n bound u).2 = u := fun hb => by rw [rebind_same hb]
      rw [writeLabelRequest_good hl hb hn hbase ht, label_of_labels (answer_labels _ _ _ _)]
      obtain ⟨hfr, hfb, hfbd, hnew, hold⟩ := radioWritten_fields radio (field r.fields 5 1) ((rebind n bound u).2.label n)
      obtain ⟨hr, hb, hbd, hdis, hre⟩ := hrec
      rw [hkept.1] at hnew hold
      refine ⟨hr.trans hfr, hb.trans hfb, hbd.trans (hfbd.trans hnow), fun hne => ⟨hdis.trans (hnew hne).1, hre.trans (hnew hne).2⟩,
        fun he => hre.trans ((hold he).2.trans hkept.2), fun he hbound => hdis.trans ((hold he).1.trans (by rw [hsame hbound]))⟩
    · intro waits base superseded
      rw [writeLabelRequest_good hl hb hn hbase ht]
      by_cases hr : radio = (u.label n).radio
      · have hmap : superseded = id := funext fun e => if_neg fun ⟨_, hne⟩ => hne hr
        refine ⟨fun hstay => ?_, fun hne _ hw => ?_⟩
        · rw [writeLabel_base hbound hr hstay, hmap]
          refine ⟨by simp, fun k hk => ?_⟩
          rw [label_of_labels (answer_labels _ _ _ _), setLabel_label, if_neg hk, hlabel]
        · rw [writeLabel_newBase hbound hr hne hw]
          rfl
      · have hzero : radio = 0 := hradio.resolve_right hr
        have hmap : superseded = fun e => if e.label = n then supersede e else e := funext fun e => if_congr (and_iff_left hr) rfl rfl
        have hr' : (u.label n).radio ≠ 0 := fun h => hr (hzero.trans h.symm)
        refine ⟨fun hstay => ?_, fun _ he => absurd he hr⟩
        have hto := writeLabel_silenced hbound hr' hstay
        rw [← hzero] at hto
        rw [hto, hmap]
        refine ⟨by simp [mapEntry, setQueue], fun k hk => ?_⟩
        rw [label_of_labels (answer_labels _ _ _ _), label_of_labels (mapEntry_labels _ _ _), setLabel_label, if_neg hk, hlabel]
    · obtain ⟨o, ho⟩ := writeLabelRequest_refused hl hb hbad
      rw [ho, ← hitems, ← hlabels]
      simp
  · rw [after_labelRepush, h.run]
    generalize hu : takeRequest r s = u
    have hlabels : u.labels = s.labels := by rw [← hu]; simp
    rw [← label_of_labels hlabels n]
    refine ⟨fun hn hr => ?_, repushRequest_high hl, repushRequest_unused hl⟩
    rw [repushRequest_used hl hn hr, label_of_labels (answer_labels _ _ _ _), answer_disp]
    exact repushLabel_leaves hr

end Sys2Proof.Machine

/-! Requests: the settings (O58). -/

namespace Sys2Proof.Machine

/-! ### The value of each setting -/

theorem putNumber_value_other (st : Settings) {n j : Nat} (v : Nat) (h : j ≠ n) : (st.putNumber n v).value j = st.value j := by
  unfold Settings.putNumber
  split <;> unfold Settings.value <;> split <;> first | rfl | exact absurd rfl h

/-- A numeric setting reads back what was put, within its range (R193). -/
theorem putNumber_value_same {n lo hi : Nat} (h : numericRange n = some (lo, hi)) (st : Settings) {v : Nat} (hv : v ≤ hi) :
    (st.putNumber n v).value n = some v := by
  unfold numericRange at h
  split at h <;> cases h
  case h_1 => exact congrArg some (Nat.mod_eq_of_lt (Nat.lt_succ_of_le hv))
  all_goals rfl

theorem numericRange_le {n lo hi : Nat} (h : numericRange n = some (lo, hi)) : lo ≤ hi := by
  unfold numericRange at h
  split at h <;> cases h <;> decide

theorem clampTo_cases {lo hi : Nat} (h : lo ≤ hi) (v : Nat) :
    clampTo lo hi v = (if v < lo then lo else if hi < v then hi else v) ∧ clampTo lo hi v ≤ hi := by
  unfold clampTo
  constructor
  · split
    · omega
    · split <;> omega
  · omega

theorem policyIndex_eq_some {n i : Nat} : policyIndex n = some i ↔ n = 0x31 + i ∧ i < 20 := by
  unfold policyIndex
  split
  · simp only [Option.some.injEq]
    omega
  · simp only [reduceCtorEq, false_iff]
    omega

/-- The setting of a policy cell. -/
theorem value_policy (st : Settings) {i : Nat} (hi : i < 20) : st.value (0x31 + i) = some (st.policy.getD i .deny).code := by
  interval_cases i <;> rfl

theorem policy_value_same (st : Settings) {i : Nat} (hi : i < 20) (hl : st.policy.length = 20) (c : PolicyCell) :
    ({ st with policy := st.policy.set i c } : Settings).value (0x31 + i) = some c.code := by
  rw [value_policy _ hi]
  simp [List.getD, hl, hi]

theorem policy_value_other (st : Settings) {i j : Nat} (c : PolicyCell) (h : j ≠ 0x31 + i) :
    ({ st with policy := st.policy.set i c } : Settings).value j = st.value j := by
  unfold Settings.value
  split
  case h_34 =>
    cases hp : policyIndex j with
    | none => rfl
    | some k =>
      have hne : i ≠ k := fun he => h (by rw [(policyIndex_eq_some.1 hp).1, he])
      simp [List.getD, List.getElem?_set_ne hne]
  all_goals rfl

/-! ### How a write is judged -/

section
variable {n v : Nat} {s : State}

theorem judgeWrite_numeric {lo hi : Nat} (h : numericRange n = some (lo, hi)) :
    (judgeWrite n v s).2 = some (s.settings.putNumber n (clampTo lo hi v)) := by
  unfold judgeWrite
  rw [h]

theorem judgeWrite_cell {i : Nat} (hi : i < 20) {c : PolicyCell} (hc : policyCellOf v = some c) :
    (judgeWrite (0x31 + i) v s).2 = some (judgeCell i c s.settings).2 := by
  have hp : policyIndex (0x31 + i) = some i := policyIndex_eq_some.2 ⟨rfl, hi⟩
  unfold judgeWrite
  have hno : numericRange (0x31 + i) = none := by interval_cases i <;> rfl
  rw [hno]
  dsimp only
  split
  case h_12 => rw [hp, hc]
  all_goals omega

theorem judgeWrite_noCell {i : Nat} (hi : i < 20) (hc : policyCellOf v = none) : judgeWrite (0x31 + i) v s = (.badField, none) := by
  unfold judgeWrite
  have hno : numericRange (0x31 + i) = none := by interval_cases i <;> rfl
  rw [hno]
  dsimp only
  split
  case h_12 =>
    rw [hc]
    cases policyIndex (0x31 + i) <;> rfl
  all_goals omega

theorem judgeCell_policy (i : Nat) (c : PolicyCell) (st : Settings) : ∃ d, (judgeCell i c st).2 = { st with policy := st.policy.set i d } := by
  unfold judgeCell
  split <;> exact ⟨_, rfl⟩

theorem judgeCell_shaped {i : Nat} (h : i ≠ 12) (st : Settings) : (judgeCell i .shaped st).2 = { st with policy := st.policy.set i .deny } := by
  have hb : (i == guestUplinkCell) = false := beq_eq_false_iff_ne.2 h
  unfold judgeCell
  rw [hb]

theorem judgeCell_permit {i : Nat} (h : i ≠ 12) (st : Settings) : (judgeCell i .permit st).2 = { st with policy := st.policy.set i .permit } := by
  have hb : (i == guestUplinkCell) = false := beq_eq_false_iff_ne.2 h
  unfold judgeCell
  rw [hb]

theorem judgeCell_deny (i : Nat) (st : Settings) : (judgeCell i .deny st).2 = { st with policy := st.policy.set i .deny } := by
  unfold judgeCell
  split <;> first | rfl | contradiction

theorem policyCellOf_high (h : 2 < v) : policyCellOf v = none := by
  obtain ⟨k, rfl⟩ := Nat.exists_eq_add_of_lt h
  unfold policyCellOf
  split <;> first | rfl | omega

/-- A write moves no other setting (R193). -/
theorem judgeWrite_other {st : Settings} (h : (judgeWrite n v s).2 = some st) {j : Nat} (hj : j ≠ n) : st.value j = s.settings.value j := by
  unfold judgeWrite at h
  dsimp only at h
  split at h
  · cases h
    exact putNumber_value_other _ _ hj
  · split at h
    case h_12 =>
      split at h
      · next i c hi hc =>
        obtain ⟨d, hd⟩ := judgeCell_policy i c s.settings
        cases h
        rw [hd]
        exact policy_value_other _ _ fun he => hj (he.trans (policyIndex_eq_some.1 hi).1.symm)
      · cases h
    all_goals
      obtain ⟨a, -, rfl⟩ := judgeEnum_some h
      unfold Settings.value
      split <;> first | rfl | exact absurd rfl hj

/-- A number that names no setting is refused (R193). -/
theorem judgeWrite_unnamed (h : s.settings.value n = none) : judgeWrite n v s = (.badField, none) := by
  unfold Settings.value at h
  split at h
  case h_34 =>
    have hno : numericRange n = none := by
      unfold numericRange
      split <;> first | rfl | contradiction
    have hp : policyIndex n = none := by simpa using h
    unfold judgeWrite
    rw [hno, hp]
    dsimp only
    split <;> first | rfl | contradiction
  all_goals cases h

end

/-! ### Enumerated settings and addresses -/

/-- The values a parser takes, and how one is read back (R193). -/
def Parses {α : Type} (parse : Nat → Option α) (code : α → Nat) (l : List Nat) : Prop :=
  ∀ v, (v ∈ l → ∃ a, parse v = some a ∧ code a = v) ∧ (v ∉ l → parse v = none)

theorem onOffOf_parses : Parses onOffOf bit [0, 1] := fun v =>
  ⟨fun h => by fin_cases h <;> exact ⟨_, rfl, rfl⟩, fun h => by unfold onOffOf; split <;> simp_all⟩

theorem alertModeOf_parses : Parses alertModeOf AlertMode.code [1, 2] := fun v =>
  ⟨fun h => by fin_cases h <;> exact ⟨_, rfl, rfl⟩, fun h => by unfold alertModeOf; split <;> simp_all⟩

theorem pulseWidthOf_parses : Parses pulseWidthOf id [1, 2, 4, 8] := fun v =>
  ⟨fun h => ⟨v, if_pos (by simpa using h), rfl⟩, fun h => if_neg (by simpa using h)⟩

theorem lampSourceOf_parses : Parses lampSourceOf LampSource.code [1, 2, 3, 4, 5, 6, 7, 8, 9, 10, 11, 12] := fun v =>
  ⟨fun h => by fin_cases h <;> exact ⟨_, rfl, rfl⟩, fun h => by unfold lampSourceOf; split <;> simp_all⟩

/-- The values listed for an enumerated setting (R193). -/
def listedFor (n : Nat) : List Nat :=
  if n = 0x05 ∨ n = 0x22 then [0, 1] else if n = 0x06 then [1, 2] else if n = 0x07 then [1, 2, 4, 8]
  else if 0x08 ≤ n ∧ n ≤ 0x0B then [1, 2, 3, 4, 5, 6, 7, 8, 9, 10, 11, 12] else []

/-- How an enumerated setting is judged: what is listed is written, what is not is refused (R193). -/
def EnumJudged (n v : Nat) (s : State) (l : List Nat) : Prop :=
  (v ∈ l → ∃ st, (judgeWrite n v s).2 = some st ∧ st.value n = some v) ∧ (v ∉ l → judgeWrite n v s = (.badField, none))

theorem Parses.judged {α : Type} {parse : Nat → Option α} {code : α → Nat} {l : List Nat} (hp : Parses parse code l) {n v : Nat} {s : State}
    {w : α → Settings} (hj : judgeWrite n v s = judgeEnum (parse v) w) (hw : ∀ a, (w a).value n = some (code a)) : EnumJudged n v s l := by
  refine ⟨fun hv => ?_, fun hv => ?_⟩
  · obtain ⟨a, ha, hc⟩ := (hp v).1 hv
    rw [hj, ha]
    exact ⟨w a, rfl, by rw [hw, hc]⟩
  · rw [hj, (hp v).2 hv]
    rfl

theorem judgeWrite_enum {n : Nat} (h : listedFor n ≠ []) (v : Nat) (s : State) : EnumJudged n v s (listedFor n) := by
  have hn : n = 0x05 ∨ n = 0x22 ∨ n = 0x06 ∨ n = 0x07 ∨ n = 0x08 ∨ n = 0x09 ∨ n = 0x0A ∨ n = 0x0B := by
    unfold listedFor at h
    by_contra hno
    apply h
    (repeat' split) <;> first | rfl | omega
  rcases hn with rfl | rfl | rfl | rfl | rfl | rfl | rfl | rfl
  · exact onOffOf_parses.judged rfl fun _ => rfl
  · exact onOffOf_parses.judged rfl fun _ => rfl
  · exact alertModeOf_parses.judged rfl fun _ => rfl
  · exact pulseWidthOf_parses.judged rfl fun _ => rfl
  · exact lampSourceOf_parses.judged rfl fun _ => rfl
  · exact lampSourceOf_parses.judged rfl fun _ => rfl
  · exact lampSourceOf_parses.judged rfl fun _ => rfl
  · exact lampSourceOf_parses.judged rfl fun _ => rfl

section
variable {v : Nat} {s : State}

theorem addressOf_individual (h : isGroup (BitVec.ofNat 48 v) = false) : addressOf v = some (BitVec.ofNat 48 v) := if_neg (by simp [h])

theorem addressOf_group (h : isGroup (BitVec.ofNat 48 v) = true) : addressOf v = none := if_pos h

theorem ownAddressOf_free (hv : v < 2 ^ 48) (hg : isGroup (BitVec.ofNat 48 v) = false) (h0 : v ≠ 0)
    (hl : (Tbl.get s.stations.table v).any (·.loaded) = false) : ownAddressOf s v = some (BitVec.ofNat 48 v) := by
  have hz : BitVec.ofNat 48 v ≠ 0 := fun h => h0 (by
    have := congrArg BitVec.toNat h
    rwa [BitVec.toNat_ofNat, Nat.mod_eq_of_lt hv] at this)
  unfold ownAddressOf
  rw [addressOf_individual hg]
  refine if_neg ?_
  rw [BitVec.toNat_ofNat, Nat.mod_eq_of_lt hv, hl]
  exact fun h => h.elim hz (by simp)

theorem ownAddressOf_taken (hv : v < 2 ^ 48) (h : v = 0 ∨ (Tbl.get s.stations.table v).any (·.loaded) = true) : ownAddressOf s v = none := by
  unfold ownAddressOf
  cases hg : isGroup (BitVec.ofNat 48 v) with
  | true => rw [addressOf_group hg]
  | false =>
    rw [addressOf_individual hg]
    refine if_pos ?_
    rw [BitVec.toNat_ofNat, Nat.mod_eq_of_lt hv]
    exact h.imp (fun h => by rw [h]; rfl) id

end

section
variable (v : Nat) (s : State)

theorem judgeWrite_own : judgeWrite 0x01 v s = judgeEnum (ownAddressOf s v) (fun a => { s.settings with stationAddr := a }) := rfl

theorem judgeWrite_headOffice : judgeWrite 0x03 v s = judgeEnum (addressOf v) (fun a => { s.settings with headOffice := a }) := rfl

theorem judgeWrite_notice : judgeWrite 0x04 v s = judgeEnum (addressOf v) (fun a => { s.settings with noticeAddr := a }) := rfl

/-- A group address is refused (R194). -/
theorem judgeWrite_group {n : Nat} (hn : n = 1 ∨ n = 3 ∨ n = 4) (hg : isGroup (BitVec.ofNat 48 v) = true) :
    judgeWrite n v s = (.badField, none) := by
  rcases hn with rfl | rfl | rfl
  · rw [judgeWrite_own, ownAddressOf, addressOf_group hg]
    rfl
  · rw [judgeWrite_headOffice, addressOf_group hg]
    rfl
  · rw [judgeWrite_notice, addressOf_group hg]
    rfl

end

/-! ### What a write leaves -/

section
variable {n v : Nat} {s : State}

theorem applySetting_settings (n : Nat) (st : Settings) (s : State) : (applySetting n st s).settings = st := by
  unfold applySetting
  split
  · next h => exact h.symm
  · simp

theorem writeSetting_settings {st : Settings} (h : (judgeWrite n v s).2 = some st) : (writeSetting n v s).2.settings = st := by
  unfold writeSetting
  split
  · next r st' hj =>
    rw [hj] at h
    cases h
    exact applySetting_settings n st s
  · next r hj =>
    rw [hj] at h
    cases h

theorem writeSetting_refused (h : judgeWrite n v s = (.badField, none)) : writeSetting n v s = (.badField, s) := by
  unfold writeSetting
  rw [h]

theorem writeSetting_taken {o : MgmtResult} {st : Settings} (h : judgeWrite n v s = (o, some st)) :
    writeSetting n v s = (o, applySetting n st s) := by
  unfold writeSetting
  rw [h]

theorem writeSettingRequest_enough {r : Request} (hl : 7 ≤ r.fields.length) : writeSettingRequest r s =
    answer r (writeSetting (field r.fields 0 1) (field r.fields 1 6) s).1
      (inForce (field r.fields 0 1) (writeSetting (field r.fields 0 1) (field r.fields 1 6) s).1
        (writeSetting (field r.fields 0 1) (field r.fields 1 6) s).2)
      (writeSetting (field r.fields 0 1) (field r.fields 1 6) s).2 := by
  unfold writeSettingRequest
  rw [withFields_enough hl]

theorem writeSettingRequest_refused {r : Request} (hl : 7 ≤ r.fields.length)
    (h : judgeWrite (field r.fields 0 1) (field r.fields 1 6) s = (.badField, none)) : writeSettingRequest r s = answer r .badField [] s := by
  rw [writeSettingRequest_enough hl, writeSetting_refused h]
  rfl

end

/-- The entry of an address about to become the part's own goes (R194). -/
theorem clearOwnAddress_gone {a : Addr} {s : State} (h : ∀ e, Tbl.get s.stations.table a.toNat = some e → e.addr = a) :
    Tbl.get (clearOwnAddress a s).stations.table a.toNat = none := by
  unfold clearOwnAddress
  split
  · next e he =>
    rw [(dropStation_guest e s).2, h e he]
    exact Tbl.get_del_same _ _
  · next hno => exact hno

theorem applySetting_address {st : Settings} {s : State} (h : st.stationAddr ≠ s.settings.stationAddr) :
    applySetting 0x01 st s = { clearOwnAddress st.stationAddr s with settings := st } := by
  unfold applySetting
  rw [if_neg fun he => h (by rw [he])]
  dsimp only
  rw [if_neg h]
  rfl

theorem applySetting_headOffice {st : Settings} {s : State} (h : st.headOffice ≠ s.settings.headOffice)
    (ha : st.stationAddr = s.settings.stationAddr) : applySetting 0x03 st s = headOfficeChanged { s with settings := st } := by
  unfold applySetting
  rw [if_neg fun he => h (by rw [he])]
  dsimp only
  rw [if_pos ha]
  rfl

/-! ### The head-office address cleared -/

theorem changeUplink_journal {s : State} (h : s.uplink.state ≠ .fallback) (c : UplinkCause) :
    (changeUplink .fallback c s).journal = (journalFallback (c == .address && Config.clearedKeepsSent) s).journal := by
  unfold changeUplink
  dsimp only
  rw [if_neg h, if_pos rfl]
  simp [enterFallback_journal, journalFallback_journal, setUplink]

theorem flushAsks_asks (l : SMap LiveAsk) (s : State) :
    (l.foldl flushAsk s).till.asks = s.till.asks.filter (fun p => l.all (fun q => p.1 != q.1)) := by
  induction l generalizing s with
  | nil => simp
  | cons q l ih =>
    obtain ⟨_, he⟩ := endAsk_till q.1 q.2 (emptyQuote .unknown true) s
    rw [List.foldl_cons, ih, show (flushAsk s q).till.asks = Tbl.del s.till.asks q.1 by rw [flushAsk, he], Tbl.del, List.filter_filter]
    refine List.filter_congr fun p _ => ?_
    simp [bne, Bool.and_comm]

theorem tillFallback_asks (keep : Bool) (s : State) : (tillFallback keep s).till.asks = if keep then s.till.asks else [] := by
  cases keep with
  | true => exact tillFallback_asks_kept s
  | false =>
    have hto : (tillFallback false s).till.asks = (s.till.asks.foldl flushAsk s).till.asks := by simp [tillFallback, setTill]
    rw [hto, flushAsks_asks, if_neg (by simp)]
    exact List.filter_eq_nil_iff.2 fun p hp => by simpa using ⟨p.2, hp⟩

theorem sendLinkState_asks (s : State) : (sendLinkState s).till.asks = s.till.asks := by
  unfold sendLinkState
  split
  · rfl
  · obtain ⟨l, hl⟩ := sendTill_till (build s .till broadcast .linkState (be 1 s.uplink.state.code)) s
    rw [hl]

theorem changeUplink_asks {s : State} (h : s.uplink.state ≠ .fallback) (c : UplinkCause) : (changeUplink .fallback c s).till.asks =
    if (c == .address && Config.clearedKeepsAsks) = true then s.till.asks else [] := by
  have henter : ∀ u, (enterFallback c u).till = (tillFallback (c == .address && Config.clearedKeepsAsks) u).till := fun u => by
    simp [enterFallback]
  unfold changeUplink
  dsimp only
  rw [if_neg h, if_pos rfl]
  simp only [raiseNotice_frame, poolFallback_frame, formRate_frame, henter, tillFallback_asks, sendLinkState_asks]
  rfl

/-- What the clearing of the head-office address leaves (R134; log 36). -/
theorem headOfficeCleared {s : State} (h : s.settings.headOffice = 0) : let t := headOfficeChanged s
    t.uplink.state = .fallback ∧ t.uplink.probe = none ∧ t.uplink.held = none ∧ t.uplink.timer = none ∧
    (s.uplink.state = .fallback → t.journal = s.journal ∧ t.till = s.till) ∧
    (s.uplink.state ≠ .fallback → t.journal = { s.journal with
        held := none
        next := if Config.clearedKeepsSent then s.journal.next else s.journal.release
        ackTimer := if Config.clearedKeepsSent then s.journal.ackTimer else none } ∧
      t.till.asks = if Config.clearedKeepsAsks then s.till.asks else []) := by
  have hto : headOfficeChanged s = changeUplink .fallback .address (dropProbe s) := if_pos h
  dsimp only
  rw [hto]
  by_cases hf : s.uplink.state = .fallback
  · rw [changeUplink_same (s := dropProbe s) hf]
    exact ⟨hf, rfl, rfl, rfl, fun _ => ⟨rfl, rfl⟩, fun hne => absurd hf hne⟩
  · have hf' : (dropProbe s).uplink.state ≠ .fallback := hf
    rw [changeUplink_uplink hf', changeUplink_journal hf', changeUplink_asks hf', journalFallback_journal]
    exact ⟨rfl, rfl, rfl, rfl, fun he => absurd he hf, fun _ => ⟨rfl, rfl⟩⟩

/-- Settles O58: each kind of setting is judged by its own list or range, and what is refused moves nothing. -/
theorem settingWritten : Obligations.SettingWritten := by
  unfold Obligations.SettingWritten
  intro s r h hl n v
  refine ⟨_, exec_eq_after _ s, by simp [onlyChanges_iff], ?_⟩
  rw [after_settingWrite, h.run]
  generalize hu : takeRequest r s = u
  have hset : u.settings = s.settings := by rw [← hu]; simp
  have hstations : u.stations = s.stations := by rw [← hu]; simp
  have huplink : u.uplink = s.uplink := by rw [← hu]; simp
  have hjournal : u.journal = s.journal := by rw [← hu]; simp
  have htill : u.till = s.till := by rw [← hu]; simp
  rw [← hset, ← hstations, ← huplink, ← hjournal, ← htill]
  have hv : v < 2 ^ 48 := field_lt r.fields 1 6
  have hread : (BitVec.ofNat 48 v).toNat = v := by rw [BitVec.toNat_ofNat, Nat.mod_eq_of_lt hv]
  have hsettings : (writeSettingRequest r u).settings = (writeSetting n v u).2.settings := by
    rw [writeSettingRequest_enough hl, answer_settings]
  have hwritten : ∀ {st}, (judgeWrite n v u).2 = some st → (writeSettingRequest r u).settings = st := fun hj =>
    hsettings.trans (writeSetting_settings hj)
  have hrefused : judgeWrite n v u = (.badField, none) → writeSettingRequest r u = answer r .badField [] u := writeSettingRequest_refused hl
  have hcell : ∀ {i} (c : PolicyCell), i < 20 → n = 0x31 + i → policyCellOf v = some c → u.settings.policy.length = 20 →
      (writeSettingRequest r u).settings.value n = (judgeCell i c u.settings).2.value (0x31 + i) := fun {i} c hi hn hc hlen => by
    have hj := judgeWrite_cell (s := u) hi hc
    rw [← hn] at hj
    rw [hwritten hj, hn]
  refine ⟨fun lo hi hr => ?_, fun j hj hlen => ?_, fun hn hg => ?_, fun hn h0 hoff => ?_, fun hn hg => ?_, fun hn h1 hlen => ?_,
    fun i hi hn h12 h2 hlen => ?_, fun i hi hn h0 hlen => ?_, fun i hi hn h12 h1 hlen => ?_, fun hn h2 hlen => ?_, fun i hi hn h2 => ?_, ?_,
    fun hn hg h0 hld => ?_, fun hn hbad => ?_, fun hnone => hrefused (judgeWrite_unnamed hnone)⟩
  · obtain ⟨hclamp, hle⟩ := clampTo_cases (numericRange_le hr) v
    rw [hwritten (judgeWrite_numeric hr), putNumber_value_same hr _ hle, hclamp]
  · cases hj' : (judgeWrite n v u).2 with
    | some st => rw [hwritten hj', judgeWrite_other hj' hj]
    | none =>
      have hsame : (writeSetting n v u).2 = u := by
        unfold writeSetting
        split
        · next hs => rw [hs] at hj'; cases hj'
        · rfl
      rw [hsettings, hsame]
  · rcases hn with hn | hn
    · have hj : (judgeWrite n v u).2 = some { u.settings with headOffice := BitVec.ofNat 48 v } := by
        rw [hn, judgeWrite_headOffice, addressOf_individual hg]
        rfl
      rw [hwritten hj, hn]
      exact congrArg some hread
    · have hj : (judgeWrite n v u).2 = some { u.settings with noticeAddr := BitVec.ofNat 48 v } := by
        rw [hn, judgeWrite_notice, addressOf_individual hg]
        rfl
      rw [hwritten hj, hn]
      exact congrArg some hread
  · have hj : judgeWrite n v u = (.done, some { u.settings with headOffice := 0 }) := by
      rw [hn, h0]
      rfl
    have hto : (writeSetting n v u).2 = headOfficeChanged { u with settings := { u.settings with headOffice := 0 } } := by
      rw [writeSetting_taken hj, hn]
      exact applySetting_headOffice hoff.symm rfl
    obtain ⟨hstate, hprobe, hheld, htimer, hin, hout⟩ :=
      headOfficeCleared (s := { u with settings := { u.settings with headOffice := 0 } }) rfl
    rw [← hto] at hstate hprobe hheld htimer hin hout
    rw [writeSettingRequest_enough hl, answer_uplink, answer_journal, answer_till]
    refine ⟨hstate, hprobe, hheld, htimer, hin, fun hne => ?_⟩
    obtain ⟨hjournal, hasks⟩ := hout hne
    rw [hjournal, hasks]
    exact ⟨rfl, rfl, rfl, fun hc => by simp [hc], fun hc => by simp [hc], fun hc => if_pos hc, fun hc => if_neg (by simp [hc])⟩
  · exact hrefused (judgeWrite_group v u hn hg)
  · rw [hcell .permit (i := 12) (by decide) hn (by rw [h1]; rfl) hlen]
    exact policy_value_same _ (by decide) hlen .shaped
  · rw [hcell .shaped hi hn (by rw [h2]; rfl) hlen, judgeCell_shaped h12]
    exact policy_value_same _ hi hlen .deny
  · rw [hcell .deny hi hn (by rw [h0]; rfl) hlen, judgeCell_deny]
    exact policy_value_same _ hi hlen .deny
  · rw [hcell .permit hi hn (by rw [h1]; rfl) hlen, judgeCell_permit h12]
    exact policy_value_same _ hi hlen .permit
  · rw [hcell .shaped (i := 12) (by decide) hn (by rw [h2]; rfl) hlen]
    exact policy_value_same _ (by decide) hlen .shaped
  · have hj := judgeWrite_noCell (s := u) hi (policyCellOf_high h2)
    rw [← hn] at hj
    exact hrefused hj
  · intro listed hne
    obtain ⟨hin, hout⟩ := judgeWrite_enum (n := n) hne v u
    refine ⟨fun hv => ?_, fun hv => hrefused (hout hv)⟩
    obtain ⟨st, hj, hst⟩ := hin hv
    rw [hwritten hj, hst]
  · have hj : judgeWrite n v u = (.done, some { u.settings with stationAddr := BitVec.ofNat 48 v }) := by
      rw [hn, judgeWrite_own, ownAddressOf_free hv hg h0 hld]
      rfl
    refine ⟨by rw [hwritten (by rw [hj])]; exact congrArg some hread, fun hne hkeyed => ?_⟩
    have hto : (writeSetting n v u).2 =
        { clearOwnAddress (BitVec.ofNat 48 v) u with settings := { u.settings with stationAddr := BitVec.ofNat 48 v } } := by
      rw [writeSetting_taken hj, hn]
      exact applySetting_address fun he => hne (by rw [← he]; exact hread.symm)
    have hgone := clearOwnAddress_gone (a := BitVec.ofNat 48 v) (s := u)
    rw [hread] at hgone
    rw [writeSettingRequest_enough hl, answer_stations, hto]
    exact hgone fun e he => BitVec.eq_of_toNat_eq ((hkeyed e he).trans hread.symm)
  · refine hrefused ?_
    rw [hn, judgeWrite_own, ownAddressOf_taken hv hbad]
    rfl

end Sys2Proof.Machine

/-! A link lost (O19). -/

namespace Sys2Proof.Machine

/-! ### The links, and a port with nothing to send -/

section
variable (p q : Port) (s : State)

theorem setActivity_port (a : Option Nat) : ((setPort p { s.port p with activity := a } s).port q).link = (s.port q).link ∧
    ((setPort p { s.port p with activity := a } s).port q).frames = (s.port q).frames := by
  by_cases hq : q = p
  · rw [hq, setPort_port_same]
    exact ⟨rfl, rfl⟩
  · rw [setPort_port_other _ _ _ _ hq]
    exact ⟨rfl, rfl⟩

theorem transmitEndStep_link : ((transmitEndStep p s).port q).link = (s.port q).link := by
  cases h : (s.port p).tx with
  | none => rw [show transmitEndStep p s = s by unfold transmitEndStep; rw [h]]
  | some f =>
    obtain ⟨-, hlink, hother, -⟩ := transmitEndStep_spec h
    by_cases hq : q = p
    · rw [hq, hlink]
    · rw [hother q hq]

theorem removeFrames_link (sel : QFrame → Bool) (why : QFrame → List Occ) : ((removeFrames p sel why s).port q).link = (s.port q).link := by
  obtain ⟨-, hlink, hother, -⟩ := removeFrames_spec p sel why s
  by_cases hq : q = p
  · rw [hq, hlink]
  · rw [hother q hq]

theorem removeFrames_none (sel : QFrame → Bool) (why : QFrame → List Occ) (h : (s.port q).frames = []) :
    ((removeFrames p sel why s).port q).frames = [] := by
  obtain ⟨hframes, -, hother, -⟩ := removeFrames_spec p sel why s
  by_cases hq : q = p
  · subst hq
    rw [hframes, h]
    rfl
  · rw [hother q hq, h]

theorem transmitEndStep_none (h : (s.port q).frames = []) : ((transmitEndStep p s).port q).frames = [] := by
  cases ht : (s.port p).tx with
  | none => rwa [show transmitEndStep p s = s by unfold transmitEndStep; rw [ht]]
  | some f =>
    obtain ⟨hframes, -, hother, -⟩ := transmitEndStep_spec ht
    by_cases hq : q = p
    · subst hq
      rw [h] at hframes
      cases hframes
    · rw [hother q hq, h]

end

theorem enqueue_other {p q : Port} {s : State} {f : QFrame} (h : p ≠ q) : (enqueue q f s).port p = s.port p :=
  (enqueue_spec q f s).2.2.1 p h

/-- The links of the ports stand. -/
def LinksStand (s t : State) : Prop := ∀ q : Port, (t.port q).link = (s.port q).link

theorem linksStand_closed (s : State) : Closed (LinksStand s) where
  write hpool _ _ _ hs q := by rw [port_of_pool hpool, hs q]
  reoffer _ hs := hs
  count _ hs := hs
  activity p a hs q := (setActivity_port p q _ a).1.trans (hs q)
  enqueue p f _ _ hs q := (enqueue_link p q f _).trans (hs q)
  removeFrames p sel why hs q := (removeFrames_link p q _ sel why).trans (hs q)
  transmitEnd p hs q := (transmitEndStep_link p q _).trans (hs q)
  emptyPorts hs q := by
    rw [poolResetTraffic_port]
    exact hs q

/-- A port whose link is down, without frames and with no message held for it (R161, R164). -/
def Quiet (p : Port) (s : State) : Prop := s.linkIsUp p = false ∧ (s.port p).frames = [] ∧ ∀ m ∈ s.heldMessages, m.port ≠ p

/-- A quiet port stays so while its ports, counters and messages move by the basic operations. -/
theorem Quiet.of_port {p : Port} {s t : State} (hs : Quiet p s) (hl : (t.port p).link = (s.port p).link) (hf : (t.port p).frames = [])
    (hm : t.heldMessages = s.heldMessages) : Quiet p t := by
  obtain ⟨hlink, -, hheld⟩ := hs
  exact ⟨by rw [State.linkIsUp, hl]; exact hlink, hf, hm ▸ hheld⟩

theorem quiet_closed (p : Port) : Closed (Quiet p) where
  write hpool _ hheld _ hs := by
    obtain ⟨hlink, hframes, hnone⟩ := hs
    have hport := port_of_pool hpool p
    refine ⟨by rw [State.linkIsUp, hport]; exact hlink, by rw [hport, hframes], fun m hm he => ?_⟩
    obtain h | ⟨x, hx, hp⟩ := hheld m hm
    · rw [he, hlink] at h
      cases h
    · exact hnone x hx (hp.trans he)
  reoffer _ hs := hs
  count _ hs := hs
  activity q a hs := hs.of_port (setActivity_port q p _ a).1 ((setActivity_port q p _ a).2.trans hs.2.1) rfl
  enqueue q f hl _ hs := by
    have hne : p ≠ q := fun h => by
      rw [← h, hs.1] at hl
      cases hl
    exact hs.of_port (by rw [enqueue_other hne]) (by rw [enqueue_other hne, hs.2.1]) (by simp [State.heldMessages])
  removeFrames q sel why hs :=
    hs.of_port (removeFrames_link q p _ sel why) (removeFrames_none q p _ sel why hs.2.1) (by simp [State.heldMessages])
  transmitEnd q hs := hs.of_port (transmitEndStep_link q p _) (transmitEndStep_none q p _ hs.2.1) (by simp [State.heldMessages])
  emptyPorts hs := hs.of_port (by rw [poolResetTraffic_port]; rfl) (by rw [poolResetTraffic_port]; rfl) (by simp [State.heldMessages])

/-! ### A link lost -/

/-- The state once a port's link is down and its frames have left (R164). -/
def linkCut (p : Port) (receiving : Bool) (s : State) : State :=
  let t := if receiving then count (occDiscard .fcs p none) s else s
  markReoffer (removeFrames p (fun _ => true) (fun f => [occDiscard .linkDown p (some f.cls)]) (setPort p { t.port p with link := none } t))

theorem linkDownStep_up {p : Port} {receiving : Bool} {s : State} (h : s.linkIsUp p = true) : linkDownStep p receiving s =
    if p = .uplink then uplinkLinkDown (discardHeld p (linkCut p receiving s)) else discardHeld p (linkCut p receiving s) := if_pos h

/-- What the loss of a link takes at once: the port's frames, whose cells return. -/
theorem linkCut_leaves (p : Port) (receiving : Bool) (s : State) : OnlyChanges [.pool, .monitor] s (linkCut p receiving s) ∧
    (linkCut p receiving s).linkIsUp p = false ∧ ((linkCut p receiving s).port p).frames = [] ∧
    (linkCut p receiving s).pool.free = s.pool.free + cellsOf (s.port p).frames ∧
    ∀ q : Port, q ≠ p → (linkCut p receiving s).port q = s.port q := by
  unfold linkCut
  dsimp only
  generalize ht : (if receiving then count (occDiscard .fcs p none) s else s) = t
  have hframe : OnlyChanges [.pool, .monitor] s t := by
    rw [← ht]
    split <;> simp [onlyChanges_iff]
  have hpool : t.pool = s.pool := by
    rw [← ht]
    split <;> rfl
  obtain ⟨hframes, hlink, hother, hfree⟩ := removeFrames_spec p (fun _ => true)
    (fun f => [occDiscard .linkDown p (some f.cls)]) (setPort p { t.port p with link := none } t)
  rw [setPort_port_same] at hframes hfree hlink
  refine ⟨hframe.trans (by simp [onlyChanges_iff, markReoffer]), ?_, ?_, ?_, fun q hq => ?_⟩
  · rw [State.linkIsUp]
    exact congrArg Option.isSome hlink
  · exact hframes.trans (List.filter_eq_nil_iff.2 (by simp))
  · refine hfree.trans ?_
    rw [List.filter_eq_self.2 (fun _ _ => rfl), ← hpool, ← port_of_pool hpool]
    rfl
  · exact (hother q hq).trans ((setPort_port_other _ _ _ _ hq).trans (port_of_pool hpool q))

theorem discardHeld_quiet {p : Port} {s : State} (hl : s.linkIsUp p = false) (hf : (s.port p).frames = []) : Quiet p (discardHeld p s) :=
  discardHeld_closed (quiet_closed p) ⟨hl, hf, fun m hm => by
    rw [forgetHeld_heldMessages, List.mem_filter] at hm
    simpa using hm.2⟩

theorem offer_down {g : Generator} {m : Msg} {s : State} (h : s.linkIsUp m.port = false) :
    offer g m s = (true, count (occDiscard .admission m.port (some .urgent)) s) := by
  obtain ⟨-, ho⟩ | ⟨hu, -⟩ | ⟨hu, -⟩ := offer_spec g m s
  · exact ho
  · rw [h] at hu
    cases hu
  · rw [h] at hu
    cases hu

/-- With the LABEL link down a push is done with at once, and no cell moves (R161). -/
theorem push_pool {s : State} (hl : s.linkIsUp .label = false) (e : LabelEntry) (a : Addr) : (push e a s).pool = s.pool := by
  unfold push offerOr
  dsimp only
  rw [offer_down (by exact hl), if_pos rfl]
  rfl

theorem dispatchLoop_pool (fuel : Nat) {s : State} (hl : s.linkIsUp .label = false) : (dispatchLoop fuel s).pool = s.pool := by
  induction fuel generalizing s with
  | zero => rfl
  | succ fuel ih =>
    unfold dispatchLoop
    split
    · rfl
    · split
      · rfl
      · next e _ =>
        have hp : (removeEntry e.label s).pool = s.pool := by simp
        exact (ih (by rw [linkIsUp_of_pool hp, hl])).trans hp
      · next e a _ =>
        have hp := push_pool hl e a
        exact (ih (by rw [linkIsUp_of_pool hp, hl])).trans hp

/-- What a generator keeps of its messages when a port's link is lost (R161; log 38). -/
theorem discardHeld_leaves (p : Port) (s : State) :
    (discardHeld p s).till = { s.till with backlog := s.till.backlog.filter (fun m => m.port != p) } ∧
    (discardHeld p s).journal = { s.journal with held := s.journal.held.filter (fun m => m.port != p) } ∧
    (discardHeld p s).exch = { s.exch with outbox := s.exch.outbox.filter (fun m => m.port != p) } ∧
    (discardHeld p s).uplink = { s.uplink with held := s.uplink.held.filter (fun m => m.port != p) } ∧
    (discardHeld p s).mgmt = { s.mgmt with outbox := s.mgmt.outbox.filter (fun i => i.msg.port != p) } := by
  unfold discardHeld
  dsimp only
  split
  · simp only [dispatch_frame, countMany_frame]
    exact ⟨rfl, rfl, rfl, rfl, rfl⟩
  · simp only [countMany_frame]
    exact ⟨rfl, rfl, rfl, rfl, rfl⟩

/-- A dispatcher that holds no push for the port stands (R161). -/
theorem discardHeld_disp {p : Port} {s : State} (h : ∀ x, s.disp.held = some x → x.2.port ≠ p) :
    (discardHeld p s).disp = s.disp ∧ (discardHeld p s).labels = s.labels ∧ (discardHeld p s).pool = s.pool := by
  have hno : s.disp.held.any (fun h => h.2.port == p) = false := by
    cases hd : s.disp.held with
    | none => rfl
    | some x => simpa using h x hd
  have hkeep : s.disp.held.filter (fun h => h.2.port != p) = s.disp.held := by
    cases hd : s.disp.held with
    | none => rfl
    | some x => simpa [Option.filter] using h x hd
  unfold discardHeld
  dsimp only
  rw [if_neg (by simp [hno])]
  simp only [countMany_frame, forgetHeld, hkeep]
  exact ⟨trivial, trivial, trivial⟩

/-- With the LABEL link down, or no push held for the port, the discard moves no cell (R161). -/
theorem discardHeld_pool {p : Port} {s : State} (h : (∀ x, s.disp.held = some x → x.2.port ≠ p) ∨ s.linkIsUp .label = false) :
    (discardHeld p s).pool = s.pool := by
  obtain h | hl := h
  · exact (discardHeld_disp h).2.2
  · unfold discardHeld
    dsimp only
    split
    · exact (dispatchLoop_pool _ (by rw [linkIsUp_of_pool (s := s) (by simp [forgetHeld]), hl])).trans (by simp [forgetHeld])
    · simp [forgetHeld]

/-- The uplink monitor on the loss of P0: FALLBACK, no probe and no timer (R132). -/
theorem uplinkLinkDown_uplink (s : State) : (uplinkLinkDown s).uplink.state = .fallback ∧ (uplinkLinkDown s).uplink.probe = none ∧
    (uplinkLinkDown s).uplink.timer = none := by
  unfold uplinkLinkDown
  by_cases hf : s.uplink.state = .fallback
  · rw [changeUplink_same (s := dropProbe s) hf]
    exact ⟨hf, rfl, rfl⟩
  · rw [changeUplink_uplink (s := dropProbe s) hf]
    exact ⟨rfl, rfl, rfl⟩

/-- Settles O19: the frames leave, the messages held for the port are forgotten, and a port so quiet stays so. -/
theorem linkDown : Obligations.LinkDown := by
  intro p receiving s hup
  refine ⟨_, exec_eq_after _ s, ?_⟩
  rw [after_linkDown, linkDownStep_up hup]
  obtain ⟨hframe, hlink, hframes, hfree, hother⟩ := linkCut_leaves p receiving s
  have hquiet := discardHeld_quiet hlink hframes
  have hwhole : Quiet p (if p = .uplink then uplinkLinkDown (discardHeld p (linkCut p receiving s)) else discardHeld p (linkCut p receiving s)) := by
    split
    · exact uplinkLinkDown_closed (quiet_closed p) hquiet
    · exact hquiet
  obtain ⟨hl, hf, hm⟩ := hwhole
  refine ⟨hl, hf, hm, fun hp => ?_, fun hp => ?_⟩
  · rw [if_neg hp]
    obtain ⟨-, -, hkept⟩ := id hframe
    have hdisp : (linkCut p receiving s).disp = s.disp := hkept .dispatcher (by decide)
    have hlabels : (linkCut p receiving s).labels = s.labels := hkept .labels (by decide)
    obtain ⟨htill, hjournal, hexch, huplink, hmgmt⟩ := discardHeld_leaves p (linkCut p receiving s)
    rw [show (linkCut p receiving s).till = s.till from hkept .till (by decide)] at htill
    rw [show (linkCut p receiving s).journal = s.journal from hkept .journal (by decide)] at hjournal
    rw [show (linkCut p receiving s).exch = s.exch from hkept .exchange (by decide)] at hexch
    rw [show (linkCut p receiving s).uplink = s.uplink from hkept .uplink (by decide)] at huplink
    rw [show (linkCut p receiving s).mgmt = s.mgmt from hkept .management (by decide)] at hmgmt
    rw [← hdisp, ← hlabels]
    refine ⟨(hframe.mono (by simp)).trans (by simp [onlyChanges_iff]), htill, hjournal, hexch, huplink, hmgmt, fun hno => ?_, fun hno => ?_⟩
    · obtain ⟨hd, hlab, -⟩ := discardHeld_disp hno
      exact ⟨hd, hlab⟩
    · have hpool := discardHeld_pool (hno.imp_right fun hp => by (subst hp; exact hlink))
      rw [hpool]
      exact ⟨hfree, fun q hq => (port_of_pool hpool q).trans (hother q hq)⟩
  · rw [if_pos hp]
    obtain ⟨hstate, hprobe, htimer⟩ := uplinkLinkDown_uplink (discardHeld p (linkCut p receiving s))
    exact ⟨hstate, hprobe, htimer, (hframe.mono (by simp)).trans (by simp [onlyChanges_iff])⟩

end Sys2Proof.Machine

/-! The FULL reset (O16). -/

namespace Sys2Proof.Machine

/-! ### A message on an idle port -/

/-- A port with nothing to send starts what joins its urgent queue (R162). -/
theorem enqueue_starts {p : Port} {f : QFrame} {s : State} (hl : s.linkIsUp p = true) (hf : (s.port p).frames = []) (hc : f.cls = .urgent) :
    ((enqueue p f s).port p).tx = some f := by
  obtain ⟨htx, hurgent, -, -⟩ : (s.port p).tx = none ∧ (s.port p).urgent = [] ∧ (s.port p).store = [] ∧ (s.port p).guest = [] := by
    simpa [PortUnit.frames] using hf
  have happ : (s.port p).append f = { s.port p with urgent := [f] } := by
    unfold PortUnit.append
    rw [hc, hurgent]
    rfl
  unfold enqueue
  rw [happ]
  generalize hv : setPort p { s.port p with urgent := [f] } { s with pool := { s.pool with free := s.pool.free - f.cells } } = v
  have hport : v.port p = { s.port p with urgent := [f] } := by rw [← hv, setPort_port_same]
  have hgo : (v.port p).link.isSome ∧ (v.port p).tx = none := by
    rw [hport]
    exact ⟨hl, htx⟩
  unfold startTx
  dsimp only
  rw [if_pos hgo, hport]
  exact congrArg PortUnit.tx (setPort_port_same _ _ _)

theorem length_be (w v : Nat) : (be w v).length = w := by
  induction w generalizing v with
  | zero => rfl
  | succ w ih => rw [be, List.length_append, ih]; rfl

/-- An answer without data takes one cell (R155, R191). -/
theorem answerItem_cells (r : Request) (o : MgmtResult) (s : State) : cellsFor (frameLength (answerItem r o [] s).msg.frame) = 1 := by
  have hlen : frameLength (answerItem r o [] s).msg.frame = 64 := by
    simp [frameLength, Msg.frame, answerItem, length_be]
  rw [hlen]
  rfl

/-- An answer without data from a part with its cells free and nothing waiting (R191). -/
theorem answer_from_empty {r : Request} {o : MgmtResult} {s : State} (hout : s.mgmt.outbox = []) (hfree : s.pool.free = 8192)
    (hports : ∀ p : Port, (s.port p).frames = []) : (answer r o [] s).mgmt = s.mgmt ∧
    (s.linkIsUp r.port = true → (answer r o [] s).pool.free = 8191 ∧
      ((answer r o [] s).port r.port).tx.map (·.frame) = some (answerItem r o [] s).msg.frame) ∧
    (s.linkIsUp r.port = false → (answer r o [] s).pool.free = 8192) := by
  have hcells := answerItem_cells r o s
  obtain ⟨hne, -⟩ | ⟨hdown, h⟩ | ⟨-, hup, -, h⟩ | ⟨-, -, hlt, -⟩ := answer_cases r o [] s
  · exact absurd hout hne
  · rw [h]
    refine ⟨rfl, fun hup => ?_, fun _ => hfree⟩
    rw [hup] at hdown
    cases hdown
  · rw [h]
    refine ⟨by simp, fun _ => ⟨?_, ?_⟩, fun hdown => ?_⟩
    · rw [(enqueue_spec _ _ _).2.2.2.1, hfree, QFrame.cells, hcells]
    · rw [enqueue_starts hup (hports _) rfl]
      rfl
    · rw [hup] at hdown
      cases hdown
  · omega

/-! ### The FULL reset -/

theorem takeRequest_links (r : Request) (s : State) : LinksStand s (takeRequest r s) :=
  takeRequest_closed (linksStand_closed s) r fun _ => rfl

theorem answer_links (r : Request) (o : MgmtResult) (d : List Byte) (s : State) : LinksStand s (answer r o d s) :=
  answer_closed (linksStand_closed s) r o d fun _ => rfl

/-- The FULL reset does not see whether its request has been taken (R199). -/
theorem fullReset_takeRequest (r : Request) (s : State) : fullReset (takeRequest r s) = fullReset s := by
  have hlinks : linksKept (takeRequest r s).pool.ports = linksKept s.pool.ports := by
    have hl := takeRequest_links r s
    unfold linksKept
    rw [show (takeRequest r s).pool.ports.uplink.link = s.pool.ports.uplink.link from hl .uplink,
      show (takeRequest r s).pool.ports.till.link = s.pool.ports.till.link from hl .till,
      show (takeRequest r s).pool.ports.label.link = s.pool.ports.label.link from hl .label,
      show (takeRequest r s).pool.ports.guest.link = s.pool.ports.guest.link from hl .guest,
      show (takeRequest r s).pool.ports.office.link = s.pool.ports.office.link from hl .office]
  unfold fullReset resetWith
  rw [hlinks]
  simp only [takeRequest_frame]

theorem fullReset_port (s : State) (p : Port) : (fullReset s).port p = idlePort (s.port p).link := by
  cases p <;> rfl

theorem fullReset_linkIsUp (s : State) (p : Port) : (fullReset s).linkIsUp p = s.linkIsUp p := by
  rw [State.linkIsUp, fullReset_port]
  rfl

theorem resetFullRequest_kind {r : Request} {s : State} (h : field r.fields 0 1 = 1) (hne : r.fields ≠ []) :
    resetFullRequest r s = answer r .done [] (fullReset s) := by
  unfold resetFullRequest
  rw [withFields_enough (List.length_pos_iff.2 hne)]
  exact if_pos h

theorem resetFullRequest_other {r : Request} {s : State} (h : r.fields = [] ∨ field r.fields 0 1 ≠ 1) :
    resetFullRequest r s = answer r .badField [] s := by
  unfold resetFullRequest
  by_cases hne : r.fields = []
  · rw [withFields_short (by simp [hne])]
  · rw [withFields_enough (List.length_pos_iff.2 hne)]
    exact if_neg (h.resolve_left hne)

/-- A RESET not of kind TRAFFIC is RESET_FULL's (log 16). -/
theorem Takes.full {s : State} {r : Request} (h : Takes s r 0x62) (hk : r.fields = [] ∨ field r.fields 0 1 ≠ 2)
    (run : Request → State → State) :
    runHead isOtherReset run s = run r (takeRequest r s) := by
  obtain ⟨hw, hr, hc⟩ := h
  refine runHead_takes hw hr ?_
  obtain hk | hk := hk <;> simp [isOtherReset, isTrafficReset, hc, hk]

end Sys2Proof.Machine

namespace Sys2Proof.Machine.Resets

/-- Settles O16: the part as power-on leaves it, but for straps, station address and links, answers DONE from there. -/
theorem fullReset : Obligations.FullReset := by
  intro s r h
  refine ⟨fun hk hne => ⟨resetWith s.straps s, after .resetFull s, exec_eq_after _ s, exec_eq_after _ s, ?_⟩, fun hbad => ?_⟩
  · have hto : after .resetFull s = answer r .done [] (Machine.fullReset s) := by
      rw [after_resetFull, h.full (.inr (by rw [hk]; decide)), resetFullRequest_kind hk hne, fullReset_takeRequest]
    obtain ⟨hmgmt, hup, hdown⟩ := answer_from_empty (r := r) (o := .done) (s := Machine.fullReset s) rfl rfl
      (fun p => by rw [fullReset_port]; rfl)
    rw [fullReset_linkIsUp] at hup hdown
    have hlinks := answer_links r .done [] (Machine.fullReset s)
    rw [hto, hmgmt]
    refine ⟨rfl, by simp, by simp, answer_settings _ _ _ _, fun p => ?_, ?_⟩
    · rw [hlinks p, fullReset_port]
      rfl
    · simp only [answer_frame]
      refine ⟨rfl, rfl, rfl, rfl, rfl, rfl, rfl, rfl, rfl, rfl, rfl, rfl, rfl, rfl, rfl, rfl, fun hl => ?_, hdown⟩
      obtain ⟨hfree, htx⟩ := hup hl
      refine ⟨hfree, htx.trans ?_⟩
      rw [answerItem, List.append_nil]
      rfl
  · rw [exec_eq_after, after_resetFull, h.full (hbad.imp_right And.right), resetFullRequest_other (hbad.imp_right And.left)]

end Sys2Proof.Machine.Resets

/-! The TRAFFIC reset (O17). -/

namespace Sys2Proof.Machine

/-! ### The IN-FLIGHT entries put back -/

/-- The entry of a push that has been put back, the `i`-th of those put back together (R84). -/
def requeuedEntry (s : State) (i : Nat) (p : LabelEntry × Flight) : LabelEntry :=
  ⟨p.1.label, wantsPrice s p.1.label, wantsHigh s p.1.label, p.1.attempts, s.disp.nextStamp + i, none⟩

/-- Pushes of different labels put back one after another (R66, R84). -/
theorem foldl_backToWaiting (l : List (LabelEntry × Flight)) (s : State) (hl : (l.map (fun p => p.1.label)).Nodup) :
    l.foldl (fun t p => backToWaiting p.1.label p.1.attempts t) s = { s with disp := { s.disp with
      queue := s.disp.queue.filter (fun e => !(l.map (fun p => p.1.label)).contains e.label) ++ l.mapIdx (requeuedEntry s)
      nextStamp := s.disp.nextStamp + l.length } } := by
  induction l generalizing s with
  | nil => simp
  | cons p l ih =>
    obtain ⟨hp, hl⟩ := List.nodup_cons.1 hl
    rw [List.foldl_cons, ih _ hl]
    have hq : (backToWaiting p.1.label p.1.attempts s).disp.queue =
        s.disp.queue.filter (fun e => !(e.label == p.1.label)) ++ [requeuedEntry s 0 p] := rfl
    have hfilter : (backToWaiting p.1.label p.1.attempts s).disp.queue.filter (fun e => !(l.map (fun p => p.1.label)).contains e.label) =
        s.disp.queue.filter (fun e => !((p :: l).map (fun p => p.1.label)).contains e.label) ++ [requeuedEntry s 0 p] := by
      rw [hq, List.filter_append, List.filter_filter]
      congr 1
      · refine List.filter_congr fun e _ => ?_
        simp [Bool.and_comm]
      · simpa [requeuedEntry] using hp
    have hidx : l.mapIdx (requeuedEntry (backToWaiting p.1.label p.1.attempts s)) = l.mapIdx (fun i => requeuedEntry s (i + 1)) := by
      congr 1
      funext i q
      have hstamp : (backToWaiting p.1.label p.1.attempts s).disp.nextStamp = s.disp.nextStamp + 1 := rfl
      unfold requeuedEntry
      rw [hstamp, Nat.add_assoc, Nat.add_comm 1 i]
      rfl
    rw [hfilter, hidx, List.mapIdx_cons, List.append_assoc, List.length_cons,
      show (backToWaiting p.1.label p.1.attempts s).disp.nextStamp + l.length = s.disp.nextStamp + (l.length + 1) by
        rw [Nat.add_comm l.length 1, ← Nat.add_assoc]
        rfl]
    rfl

theorem flightsInOrder_perm (s : State) : s.flightsInOrder.Perm (s.disp.queue.filterMap (fun e => e.flight.map (fun f => (e, f)))) :=
  List.perm_insertionSort _ _

/-- With one entry a label at most, no label has two pushes in flight. -/
theorem flightsInOrder_nodup {s : State} (h : (s.disp.queue.map (·.label)).Nodup) : (s.flightsInOrder.map (fun p => p.1.label)).Nodup := by
  refine ((flightsInOrder_perm s).map _).nodup_iff.2 (h.sublist ?_)
  rw [List.map_filterMap]
  generalize s.disp.queue = l
  induction l with
  | nil => exact .slnil
  | cons e l ih =>
    cases hf : e.flight with
    | none => simpa [hf] using ih.cons e.label
    | some f => simpa [hf] using ih.cons_cons e.label

/-- With one entry a label at most, an entry waits exactly when its label has no push in flight. -/
theorem flightsInOrder_contains {s : State} (h : (s.disp.queue.map (·.label)).Nodup) {e : LabelEntry} (he : e ∈ s.disp.queue) :
    (!(s.flightsInOrder.map (fun p => p.1.label)).contains e.label) = e.flight.isNone := by
  cases hf : e.flight with
  | some f =>
    have hm : (e, f) ∈ s.flightsInOrder := (flightsInOrder_perm s).mem_iff.2 (List.mem_filterMap.2 ⟨e, he, by simp [hf]⟩)
    have hc : e.label ∈ s.flightsInOrder.map (fun p => p.1.label) := List.mem_map.2 ⟨_, hm, rfl⟩
    simpa using hc
  | none =>
    have hno : e.label ∉ s.flightsInOrder.map (fun p => p.1.label) := fun hc => by
      obtain ⟨⟨d, f⟩, hm, hd⟩ := List.mem_map.1 hc
      obtain ⟨hd', hdf⟩ := mem_flightsInOrder hm
      have := List.inj_on_of_nodup_map h hd' he hd
      rw [this, hf] at hdf
      cases hdf
    simpa using hno

/-- RESET TRAFFIC on the dispatcher, with one entry a label at most (R84). -/
theorem labelsResetTraffic_eq {s : State} (h : (s.disp.queue.map (·.label)).Nodup) : labelsResetTraffic s = { s with disp := { s.disp with
    queue := s.disp.queue.filter (fun e => e.flight.isNone) ++ s.flightsInOrder.mapIdx (requeuedEntry s)
    nextStamp := s.disp.nextStamp + (s.flightsInOrder.mapIdx (requeuedEntry s)).length
    held := none } } := by
  unfold labelsResetTraffic
  dsimp only
  rw [foldl_backToWaiting _ _ (flightsInOrder_nodup h), List.filter_congr fun e he => flightsInOrder_contains h he, List.length_mapIdx]

/-! ### A dispatch attempt that removes nothing -/

/-- A push leaves who is queued with what attempts (R75). -/
theorem push_attempts (e : LabelEntry) (a : Addr) (s : State) :
    (push e a s).disp.queue.map (fun e => (e.label, e.attempts)) = s.disp.queue.map (fun e => (e.label, e.attempts)) := by
  rw [(push_queue e a s).1]
  simp only [fly, mapEntry, setQueue, List.map_map]
  refine List.map_congr_left fun d _ => ?_
  simp only [Function.comp_apply]
  split <;> rfl

/-- Where every queued label has a radio identity, a dispatch attempt leaves the labels and who is queued with what attempts (R74). -/
theorem dispatchLoop_queue (fuel : Nat) {s : State} (h : ∀ x ∈ s.disp.queue.map (fun e => (e.label, e.attempts)), (s.label x.1).radio ≠ 0) :
    (dispatchLoop fuel s).labels = s.labels ∧
      (dispatchLoop fuel s).disp.queue.map (fun e => (e.label, e.attempts)) = s.disp.queue.map (fun e => (e.label, e.attempts)) := by
  induction fuel generalizing s with
  | zero => exact ⟨rfl, rfl⟩
  | succ fuel ih =>
    unfold dispatchLoop
    split
    · exact ⟨rfl, rfl⟩
    · split
      · exact ⟨rfl, rfl⟩
      · next e hp =>
        have hq := (mem_waitingInOrder.1 (pickEntry_some hp).1).1
        exact absurd (pickEntry_removed hp) (h _ (List.mem_map_of_mem hq))
      · next e a _ =>
        have hlab := push_labels e a s
        obtain ⟨hl, hq⟩ := ih (s := push e a s) (by
          rw [push_attempts]
          exact fun x hx => by rw [label_of_labels hlab]; exact h x hx)
        exact ⟨hl.trans hlab, hq.trans (push_attempts e a s)⟩

/-! ### What the blocks leave of the management unit's requests -/

/-- The requests that wait and the overflow figure stand (R190). -/
def RequestsStand (s t : State) : Prop := t.mgmt.requests = s.mgmt.requests ∧ t.mgmt.overflow = s.mgmt.overflow

theorem RequestsStand.of_mgmt {s t : State} (h : t.mgmt = s.mgmt) : RequestsStand s t := by
  rw [RequestsStand, h]
  exact ⟨rfl, rfl⟩

theorem RequestsStand.trans {s t u : State} (h : RequestsStand s t) (k : RequestsStand t u) : RequestsStand s u :=
  ⟨k.1.trans h.1, k.2.trans h.2⟩

theorem raiseNotice_requests (b : NoticeBody) (s : State) : RequestsStand s (raiseNotice b s) := by
  have hq : RequestsStand s (startPulse (queueNotice b s)) := by
    unfold startPulse
    split <;> exact ⟨rfl, rfl⟩
  obtain ⟨l, hl⟩ := sendNotice_mgmt (s.noticeOf b false) (startPulse (queueNotice b s))
  refine hq.trans ?_
  rw [show raiseNotice b s = sendNotice (s.noticeOf b false) (startPulse (queueNotice b s)) from rfl, RequestsStand, hl]
  exact ⟨rfl, rfl⟩

theorem sendUnsent_requests (s : State) : RequestsStand s (sendUnsent s) := by
  obtain ⟨f, k, -, -, h⟩ := sendUnsent_mgmt s
  rw [RequestsStand, h]
  exact ⟨rfl, rfl⟩

theorem discardBatch_requests (r : DiscardReason) (s : State) : RequestsStand s (discardBatch r s) := by
  unfold discardBatch
  split
  · refine .trans (.of_mgmt ?_) (raiseNotice_requests _ _)
    split <;> simp [setExchState]
  · exact .of_mgmt rfl

theorem testLevels_requests (s : State) : RequestsStand s (testLevels s) := by
  have hhigh : RequestsStand s (testHighWater s) := by
    unfold testHighWater
    split
    · split
      · exact raiseNotice_requests _ _
      · exact .of_mgmt rfl
    · exact .of_mgmt rfl
  have hfull : ∀ t, RequestsStand t (testFull t) := fun t => by
    unfold testFull
    split
    · split
      · exact raiseNotice_requests _ _
      · exact .of_mgmt rfl
    · exact .of_mgmt rfl
  exact hhigh.trans (hfull _)

theorem changeUplink_requests (new : UplinkState) (c : UplinkCause) (s : State) : RequestsStand s (changeUplink new c s) := by
  have hsend : ∀ u, RequestsStand s (sendLinkState (setUplink u s)) := fun u => .of_mgmt (by simp [setUplink])
  have henter : ∀ u, RequestsStand u (enterFallback c u) := fun u => by
    have hbefore : RequestsStand u (journalFallback (c == .address && Config.clearedKeepsSent)
        (paymentFallback (tillFallback (c == .address && Config.clearedKeepsAsks) u))) := .of_mgmt (by simp)
    exact hbefore.trans (discardBatch_requests .link _)
  have hrate : ∀ u, RequestsStand u (formRate u) := fun u => .of_mgmt rfl
  have hpool : ∀ u, RequestsStand u (poolFallback (formRate u)) := fun u => .of_mgmt (by simp)
  unfold changeUplink
  split
  · exact .of_mgmt rfl
  · refine .trans ?_ (raiseNotice_requests _ _)
    split
    · exact (hsend _).trans ((henter _).trans (hpool _))
    · exact (hsend _).trans (hrate _)

theorem uplinkResetTraffic_requests (s : State) : RequestsStand s (uplinkResetTraffic s) := by
  have hset : ∀ u, RequestsStand s (setUplink u s) := fun _ => .of_mgmt rfl
  have hprobe : ∀ u, RequestsStand u (startProbing u) := fun u => .of_mgmt (by simp)
  exact (hset _).trans ((changeUplink_requests .fallback .reset _).trans (hprobe _))

theorem answer_requests (r : Request) (o : MgmtResult) (d : List Byte) (s : State) : RequestsStand s (answer r o d s) := by
  obtain ⟨-, -, h⟩ | ⟨-, h⟩ | ⟨-, -, -, h⟩ | ⟨-, -, -, h⟩ := answer_cases r o d s <;> rw [h]
  · exact ⟨rfl, rfl⟩
  · exact ⟨rfl, rfl⟩
  · exact .of_mgmt (by simp)
  · exact ⟨rfl, rfl⟩

end Sys2Proof.Machine

/-! The TRAFFIC reset, assembled (O17). -/

namespace Sys2Proof.Machine

/-! ### What the entry into FALLBACK leaves of the tills and the guests -/

/-- The intake queue, the register and the generations of the till service stand. -/
def TillStands (s t : State) : Prop :=
  t.till.intake = s.till.intake ∧ t.till.register = s.till.register ∧ t.till.generations = s.till.generations

theorem TillStands.of_till {s t : State} (h : t.till = s.till) : TillStands s t := by
  rw [TillStands, h]
  exact ⟨rfl, rfl, rfl⟩

theorem TillStands.trans {s t u : State} (h : TillStands s t) (k : TillStands t u) : TillStands s u :=
  ⟨k.1.trans h.1, k.2.1.trans h.2.1, k.2.2.trans h.2.2⟩

theorem sendLinkState_tillStands (s : State) : TillStands s (sendLinkState s) := by
  unfold sendLinkState
  split
  · exact ⟨rfl, rfl, rfl⟩
  · obtain ⟨l, hl⟩ := sendTill_till (build s .till broadcast .linkState (be 1 s.uplink.state.code)) s
    rw [TillStands, hl]
    exact ⟨rfl, rfl, rfl⟩

theorem flushAsks_tillStands (l : SMap LiveAsk) (s : State) : TillStands s (l.foldl flushAsk s) :=
  foldl_keeps (P := TillStands s) (fun t p ht => ht.trans (by
    obtain ⟨k, hk⟩ := endAsk_till p.1 p.2 (emptyQuote .unknown true) t
    rw [TillStands, flushAsk, hk]
    exact ⟨rfl, rfl, rfl⟩)) l s ⟨rfl, rfl, rfl⟩

theorem tillFallback_tillStands (keep : Bool) (s : State) : TillStands s (tillFallback keep s) := by
  have hflush : TillStands s (if keep then s else s.till.asks.foldl flushAsk s) := by
    split
    · exact .of_till rfl
    · exact flushAsks_tillStands _ _
  unfold tillFallback
  dsimp only
  generalize (if keep then s else s.till.asks.foldl flushAsk s) = t at hflush
  refine hflush.trans ?_
  simp [TillStands, setTill]

theorem changeUplink_tillStands (c : UplinkCause) (s : State) : TillStands s (changeUplink .fallback c s) := by
  have hsend : ∀ u, TillStands s (sendLinkState (setUplink u s)) := fun u =>
    .trans (t := setUplink u s) (.of_till rfl) (sendLinkState_tillStands _)
  have henter : ∀ u, TillStands u (enterFallback c u) := fun u =>
    (tillFallback_tillStands (c == .address && Config.clearedKeepsAsks) u).trans (.of_till (by simp [enterFallback]))
  have hpool : ∀ u, TillStands u (poolFallback (formRate u)) := fun u => .of_till (by simp)
  have hraise : ∀ b u, TillStands u (raiseNotice b u) := fun b u => .of_till (by simp)
  by_cases h : s.uplink.state = .fallback
  · rw [changeUplink_same h]
    exact .of_till rfl
  · unfold changeUplink
    dsimp only
    rw [if_neg h, if_pos rfl]
    exact (hsend _).trans ((henter _).trans ((hpool _).trans (hraise _ _)))

theorem changeUplink_guest (c : UplinkCause) (s : State) : ∃ a, (changeUplink .fallback c s).guest = { s.guest with rate := a } := by
  by_cases h : s.uplink.state = .fallback
  · rw [changeUplink_same h]
    exact ⟨_, rfl⟩
  · unfold changeUplink
    dsimp only
    rw [if_neg h, if_pos rfl]
    simp only [raiseNotice_frame, poolFallback_frame]
    have hrate : ∀ u, (formRate u).guest = { u.guest with rate := u.aggregateRate } := fun _ => rfl
    have hkept : ∀ u, (enterFallback c (sendLinkState (setUplink u s))).guest = s.guest := fun u => by simp [setUplink]
    rw [hrate, hkept]
    exact ⟨_, rfl⟩

/-- The entry into FALLBACK, for any cause but a cleared address, rewinds the upload (R59). -/
theorem changeUplink_rewinds {c : UplinkCause} (hc : (c == .address) = false) (s : State) :
    (s.uplink.state = .fallback ∧ (changeUplink .fallback c s).journal = s.journal) ∨
      (changeUplink .fallback c s).journal = { s.journal with held := none, next := s.journal.release, ackTimer := none } := by
  by_cases h : s.uplink.state = .fallback
  · rw [changeUplink_same h]
    exact .inl ⟨h, rfl⟩
  · rw [changeUplink_journal h, journalFallback_journal, hc]
    exact .inr rfl

theorem changeUplink_noAsks {s : State} (h : s.till.asks = []) (c : UplinkCause) : (changeUplink .fallback c s).till.asks = [] := by
  by_cases hf : s.uplink.state = .fallback
  · rw [changeUplink_same hf, h]
  · rw [changeUplink_asks hf, h, ite_self]

theorem startProbing_state (s : State) : (startProbing s).uplink.state = s.uplink.state ∧ (startProbing s).uplink.lostRun = s.uplink.lostRun := by
  obtain ⟨hyes, hno⟩ := startProbing_spec s
  cases hp : s.probing with
  | true =>
    obtain ⟨h, hb⟩ := buildProbe_uplink (dropProbe s)
    rw [hyes hp, hb]
    exact ⟨rfl, rfl⟩
  | false =>
    rw [hno hp]
    exact ⟨rfl, rfl⟩

/-! ### The uplink monitor's share -/

/-- The uplink monitor at a TRAFFIC reset is in FALLBACK with no probe lost (R137). -/
theorem uplinkResetTraffic_uplink (s : State) : (uplinkResetTraffic s).uplink.state = .fallback ∧ (uplinkResetTraffic s).uplink.lostRun = 0 := by
  unfold uplinkResetTraffic
  rw [(startProbing_state _).1, (startProbing_state _).2]
  generalize hv : setUplink { (dropProbe s).uplink with slowRun := 0, goodRun := 0, lostRun := 0 } s = v
  have hlost : v.uplink.lostRun = 0 := by rw [← hv]; rfl
  by_cases hf : v.uplink.state = .fallback
  · rw [changeUplink_same hf]
    exact ⟨hf, hlost⟩
  · rw [changeUplink_uplink hf]
    exact ⟨rfl, rfl⟩

/-- What the neighbours keep when the uplink monitor enters FALLBACK at a TRAFFIC reset, the upload standing rewound (R135, R137). -/
theorem uplinkResetTraffic_neighbours (s : State) : TillStands s (uplinkResetTraffic s) ∧
    (s.till.asks = [] → (uplinkResetTraffic s).till.asks = []) ∧
    (s.journal.next = s.journal.release → s.journal.ackTimer = none → ∃ h, (uplinkResetTraffic s).journal = { s.journal with held := h }) ∧
    ∃ a, (uplinkResetTraffic s).guest = { s.guest with rate := a } := by
  unfold uplinkResetTraffic
  generalize hv : setUplink { (dropProbe s).uplink with slowRun := 0, goodRun := 0, lostRun := 0 } s = v
  have htill : v.till = s.till := by rw [← hv]; rfl
  have hjournal : v.journal = s.journal := by rw [← hv]; rfl
  have hguest : v.guest = s.guest := by rw [← hv]; rfl
  have hprobe : ∀ u, TillStands u (startProbing u) := fun u => .of_till (by simp)
  refine ⟨.trans (.of_till htill) ((changeUplink_tillStands .reset v).trans (hprobe _)), fun ha => ?_, fun hn ht => ?_, ?_⟩
  · rw [← htill] at ha
    simpa using changeUplink_noAsks ha .reset
  · rw [← hjournal] at hn ht ⊢
    simp only [startProbing_frame]
    obtain ⟨-, h⟩ | h := changeUplink_rewinds (c := .reset) rfl v
    · exact ⟨_, h⟩
    · exact ⟨none, by rw [h]; simp [hn, ht]⟩
  · simp only [startProbing_frame, ← hguest]
    exact changeUplink_guest .reset v

/-! ### The part emptied, and what it does then -/

/-- The part with every block's own share of the TRAFFIC reset done, and nothing begun again (R199). -/
def trafficEmptied (s : State) : State :=
  mgmtResetTraffic (stationsResetTraffic (exchResetTraffic (labelsResetTraffic (journalResetTraffic (tillResetTraffic (poolResetTraffic s))))))

/-- From the part emptied: dispatch, the unsent notices, the open batch, the journal's levels (R84, R200, R122, R62). -/
def trafficResumed (s : State) : State := testLevels (discardBatch .reset (sendUnsent (dispatch s)))

theorem trafficReset_eq (s : State) : trafficReset s = formRate (uplinkResetTraffic (trafficResumed (trafficEmptied s))) := rfl

/-- What the emptied part holds, block by block (R48, R62, R154, R180, R200). -/
theorem trafficEmptied_blocks (s : State) :
    (trafficEmptied s).till = { s.till with intake := [], asks := [], backlog := [] } ∧
    (trafficEmptied s).journal = { s.journal with
      next := s.journal.release, credit := 0, ackTimer := none, held := none, highArmed := true, fullArmed := true } ∧
    (trafficEmptied s).stations = ⟨s.stations.table.filter (fun p => p.2.loaded), 0⟩ ∧
    (trafficEmptied s).guest = ⟨[], [], s.settings.aggDepth, 0, 0, 0⟩ ∧
    (trafficEmptied s).mgmt.requests = [] ∧ (trafficEmptied s).mgmt.overflow = s.mgmt.overflow := by
  refine ⟨?_, ?_, ?_, ?_, rfl, ?_⟩
  · simp [trafficEmptied, exchResetTraffic, setExch, tillResetTraffic, setTill]
  · simp [trafficEmptied, exchResetTraffic, setExch, journalResetTraffic, setJournal]
  · simp [trafficEmptied, exchResetTraffic, setExch, stationsResetTraffic, setGuest]
  · simp [trafficEmptied, exchResetTraffic, setExch, stationsResetTraffic, setGuest]
  · have hm : (labelsResetTraffic (journalResetTraffic (tillResetTraffic (poolResetTraffic s)))).mgmt = s.mgmt := by simp
    exact congrArg (·.overflow) hm

/-- What the part keeps while it goes on. -/
theorem trafficResumed_keeps (s : State) : (trafficResumed s).till = s.till ∧
    (∃ b c, (trafficResumed s).journal = { s.journal with highArmed := b, fullArmed := c }) ∧
    (trafficResumed s).stations = s.stations ∧ (trafficResumed s).guest = s.guest ∧ RequestsStand s (trafficResumed s) := by
  have hdispatch : RequestsStand s (dispatch s) := .of_mgmt (by simp)
  obtain ⟨b, c, hj⟩ := testLevels_journal (discardBatch .reset (sendUnsent (dispatch s)))
  refine ⟨by simp [trafficResumed], ⟨b, c, by rw [trafficResumed, hj]; simp⟩, by simp [trafficResumed], by simp [trafficResumed],
    hdispatch.trans ((sendUnsent_requests _).trans ((discardBatch_requests .reset _).trans (testLevels_requests _)))⟩

/-- In FALLBACK the aggregate rate is 0 (R174). -/
theorem aggregateRate_fallback {s : State} (h : s.uplink.state = .fallback) : s.aggregateRate = 0 := by
  simp [State.aggregateRate, h, stateShare]

/-- What the TRAFFIC reset leaves of the blocks that hold tables, marks and figures (R199). -/
theorem trafficReset_leaves (s : State) : let t := trafficReset s
    (t.till.intake = [] ∧ t.till.asks = [] ∧ t.till.register = s.till.register ∧ t.till.generations = s.till.generations) ∧
    (t.journal.records = s.journal.records ∧ t.journal.release = s.journal.release ∧ t.journal.free = s.journal.free ∧
      t.journal.next = s.journal.release ∧ t.journal.fresh = s.journal.fresh ∧ t.journal.credit = 0 ∧ t.journal.ackTimer = none) ∧
    (t.uplink.state = .fallback ∧ t.uplink.lostRun = 0) ∧
    t.stations.table = s.stations.table.filter (fun p => p.2.loaded) ∧
    (t.guest.table = [] ∧ t.guest.coolOff = [] ∧ t.guest.level = s.settings.aggDepth ∧ t.guest.rate = 0) ∧
    t.mgmt.requests = [] ∧ t.mgmt.overflow = s.mgmt.overflow := by
  obtain ⟨htill, hjournal, hstations, hguest, hrequests, hoverflow⟩ := trafficEmptied_blocks s
  obtain ⟨ktill, ⟨b, c, kjournal⟩, kstations, kguest, krequests, koverflow⟩ := trafficResumed_keeps (trafficEmptied s)
  rw [htill] at ktill
  rw [hjournal] at kjournal
  rw [hstations] at kstations
  rw [hguest] at kguest
  rw [trafficReset_eq]
  generalize trafficResumed (trafficEmptied s) = v at ktill kjournal kstations kguest krequests koverflow
  obtain ⟨hfallback, hlost⟩ := uplinkResetTraffic_uplink v
  obtain ⟨⟨hintake, hregister, hgens⟩, hasks, hrewound, a, hg⟩ := uplinkResetTraffic_neighbours v
  obtain ⟨hr, ho⟩ := uplinkResetTraffic_requests v
  obtain ⟨x, hj⟩ := hrewound (by rw [kjournal]) (by rw [kjournal])
  have hrate : (formRate (uplinkResetTraffic v)).guest.rate = 0 := aggregateRate_fallback hfallback
  rw [ktill] at hintake hregister hgens hasks
  rw [kjournal] at hj
  rw [kguest] at hg
  have hguest' : (formRate (uplinkResetTraffic v)).guest = { (uplinkResetTraffic v).guest with rate := (uplinkResetTraffic v).aggregateRate } := rfl
  simp only [formRate_frame]
  rw [hj]
  refine ⟨⟨hintake, hasks rfl, hregister, hgens⟩, ⟨rfl, rfl, rfl, rfl, rfl, rfl, rfl⟩, ⟨hfallback, hlost⟩, ?_, ⟨?_, ?_, ?_, hrate⟩,
    hr.trans (krequests.trans hrequests), ho.trans (koverflow.trans hoverflow)⟩
  · rw [show (uplinkResetTraffic v).stations = v.stations by simp, kstations]
  · rw [hguest', hg]
  · rw [hguest', hg]
  · rw [hguest', hg]

theorem flightsInOrder_of_disp {s v : State} (h : v.disp = s.disp) : v.flightsInOrder = s.flightsInOrder := by
  rw [State.flightsInOrder, State.flightsInOrder, h]

theorem requeuedEntry_congr {s v : State} (hd : v.disp = s.disp) (hl : v.labels = s.labels) (hi : v.items = s.items) :
    requeuedEntry v = requeuedEntry s := by
  funext i p
  simp only [requeuedEntry, wantsPrice, wantsHigh, State.contentOf, label_of_labels hl, hi, hd]

/-- The part emptied by a request that has been taken, in one piece: `P`, `M` and `G` are the pool, the monitor and the management unit
that the taking left (R84, R154, R166, R199, R200). -/
theorem trafficEmptied_eq {s : State} (h : (s.disp.queue.map (·.label)).Nodup) (P : Pool) (M : Monitor) (G : Mgmt) :
    trafficEmptied { s with pool := P, mon := M, mgmt := G } = { s with
      disp := { s.disp with
        queue := s.disp.queue.filter (fun e => e.flight.isNone) ++ s.flightsInOrder.mapIdx (requeuedEntry s)
        nextStamp := s.disp.nextStamp + (s.flightsInOrder.mapIdx (requeuedEntry s)).length
        held := none }
      till := { s.till with intake := [], asks := [], backlog := [] }
      journal := { s.journal with
        next := s.journal.release, credit := 0, ackTimer := none, held := none, highArmed := true, fullArmed := true }
      exch := { s.exch with outbox := [] }
      pool := ⟨⟨P.ports.uplink.emptied, P.ports.till.emptied, P.ports.label.emptied, P.ports.guest.emptied, P.ports.office.emptied⟩,
        8192, false⟩
      stations := ⟨s.stations.table.filter (fun p => p.2.loaded), 0⟩
      guest := ⟨[], [], s.settings.aggDepth, 0, 0, 0⟩
      mon := M
      mgmt := { G with
        requests := []
        outbox := []
        notices := G.notices.map (fun n => if (G.outbox.filterMap (·.notice)).contains n.number then { n with sent := false } else n) } } := by
  generalize hv : journalResetTraffic (tillResetTraffic (poolResetTraffic { s with pool := P, mon := M, mgmt := G })) = v
  have hdisp : v.disp = s.disp := by rw [← hv]; rfl
  have hnodup : (v.disp.queue.map (·.label)).Nodup := by rwa [hdisp]
  have hflights := flightsInOrder_of_disp hdisp
  have hentry := requeuedEntry_congr hdisp (show v.labels = s.labels by rw [← hv]; rfl) (show v.items = s.items by rw [← hv]; rfl)
  unfold trafficEmptied
  rw [hv, labelsResetTraffic_eq hnodup, hflights, hentry, hdisp]
  rw [show v = { s with
    till := { s.till with intake := [], asks := [], backlog := [] }
    journal := { s.journal with
      next := s.journal.release, credit := 0, ackTimer := none, held := none, highArmed := true, fullArmed := true }
    pool := ⟨⟨P.ports.uplink.emptied, P.ports.till.emptied, P.ports.label.emptied, P.ports.guest.emptied, P.ports.office.emptied⟩,
        8192, false⟩
    mon := M
    mgmt := G } from hv.symm]
  dsimp only [mgmtResetTraffic, stationsResetTraffic, exchResetTraffic, setExch, setGuest]

/-- A number waits in the outbox when one of its messages carries it. -/
theorem outbox_waits (l : List OutItem) (n : Nat) : (l.filterMap (·.notice)).contains n = l.any (fun i => i.notice == some n) := by
  rw [Bool.eq_iff_iff]
  simp

theorem takeRequest_blocks (r : Request) (s : State) : takeRequest r s =
    { s with pool := (takeRequest r s).pool, mon := (takeRequest r s).mon, mgmt := (takeRequest r s).mgmt } := by
  have hframe := takeRequest_frame r s
  generalize takeRequest r s = u at hframe
  cases u
  simp_all

/-- A RESET of kind TRAFFIC is RESET_TRAFFIC's (R199). -/
theorem Takes.traffic {s : State} {r : Request} (h : Takes s r 0x62) (hk : field r.fields 0 1 = 2) (hne : r.fields ≠ [])
    (run : Request → State → State) : runHead isTrafficReset run s = run r (takeRequest r s) := by
  obtain ⟨hw, hr, hc⟩ := h
  exact runHead_takes hw hr (by simp [isTrafficReset, hc, hk, hne])

/-- Where every queued label has a radio identity, the reset leaves the labels and who is queued with what attempts (R84). -/
theorem trafficResumed_queue {s : State} (h : ∀ x ∈ s.disp.queue.map (fun e => (e.label, e.attempts)), (s.label x.1).radio ≠ 0) :
    (trafficResumed s).labels = s.labels ∧
      (trafficResumed s).disp.queue.map (fun e => (e.label, e.attempts)) = s.disp.queue.map (fun e => (e.label, e.attempts)) := by
  obtain ⟨hl, hq⟩ := dispatchLoop_queue (s.waitingInOrder.length + s.overflowed.length) h
  simp only [trafficResumed, testLevels_frame, discardBatch_frame, sendUnsent_frame]
  exact ⟨hl, hq⟩

/-- Who is queued once the pushes are put back was queued before (R84). -/
theorem requeued_label {s : State} {e : LabelEntry}
    (h : e ∈ s.disp.queue.filter (fun e => e.flight.isNone) ++ s.flightsInOrder.mapIdx (requeuedEntry s)) :
    ∃ d ∈ s.disp.queue, d.label = e.label := by
  obtain h | h := List.mem_append.1 h
  · exact ⟨e, (List.mem_filter.1 h).1, rfl⟩
  · obtain ⟨i, hi, rfl⟩ := List.mem_mapIdx.1 h
    exact ⟨_, (mem_flightsInOrder (List.getElem_mem hi)).1, rfl⟩

end Sys2Proof.Machine

namespace Sys2Proof.Machine.Resets

/-- Settles O17: each block's share of the reset, and the part emptied from which it goes on. -/
theorem trafficReset : Obligations.TrafficReset := by
  intro s r h hk hne
  refine ⟨_, exec_eq_after _ s, by simp [onlyChanges_iff], ?_⟩
  rw [after_resetTraffic, h.traffic hk hne, resetTrafficRequest]
  have hlinks : LinksStand s (answer r .done [] (Machine.trafficReset (takeRequest r s))) :=
    answer_closed (linksStand_closed s) r .done [] (trafficReset_closed (linksStand_closed s) (takeRequest_links r s))
  have hmon : MonitorKept s (answer r .done [] (Machine.trafficReset (takeRequest r s))) :=
    answer_closed (monitorKept_closed s) r .done [] (trafficReset_closed (monitorKept_closed s) (takeRequest_monitorKept r s))
  have hoverflow : (takeRequest r s).mgmt.overflow = s.mgmt.overflow := by
    obtain ⟨f, k, -, -, hm⟩ := takeRequest_mgmt r s
    rw [hm]
  have hblocks := takeRequest_blocks r s
  have htaken := takeRequest_links r s
  obtain ⟨-, -, -, -, hsettings, -, -, -, htill, hjournal, -, -, -, hexch, -, hstations, -⟩ := takeRequest_frame r s
  generalize takeRequest r s = u at *
  obtain ⟨⟨hintake, hasks, hregister, hgens⟩, ⟨hrec, hrel, hfree, hnext, hfresh, hcredit, hack⟩, ⟨hstate, hlost⟩, hstat,
    ⟨hguests, hcool, hlevel, hrate⟩, hrequests, hover⟩ := trafficReset_leaves u
  have hexch' := trafficReset_exch u
  obtain ⟨hreq', hover'⟩ := answer_requests r .done [] (Machine.trafficReset u)
  rw [htill] at hregister hgens
  rw [hjournal] at hrec hrel hfree hnext hfresh
  rw [hstations] at hstat
  rw [hsettings] at hlevel
  rw [hexch] at hexch'
  rw [← answer_till r .done [] (Machine.trafficReset u)] at hintake hasks hregister hgens
  rw [← answer_journal r .done [] (Machine.trafficReset u)] at hrec hrel hfree hnext hfresh hcredit hack
  rw [← answer_uplink r .done [] (Machine.trafficReset u)] at hstate hlost
  rw [← answer_stations r .done [] (Machine.trafficReset u)] at hstat
  rw [← answer_guest r .done [] (Machine.trafficReset u)] at hguests hcool hlevel hrate
  rw [← answer_exch r .done [] (Machine.trafficReset u)] at hexch'
  refine ⟨hlinks, hintake, hasks, hregister, hgens, hrec, hrel, hfree, hnext, hfresh, hcredit, hack, ?_, fun c => ?_, fun k hcommit => ?_,
    hstate, hlost, hstat, hguests, hcool, hlevel, hrate, hmon.hold, hmon.due, hmon.sources, hreq'.trans hrequests,
    hover'.trans (hover.trans hoverflow), fun hnodup => ?_⟩
  · exact (congrArg (·.lastBatch) hexch').trans s.exch.dropOpen_lastBatch
  · exact fun hc => s.exch.dropOpen_not_staging c ((congrArg (·.state) hexch').symm.trans hc)
  · have hstays : s.exch.dropOpen.state = .committing k := by rw [Exchange.dropOpen_of_committing hcommit, hcommit]
    exact (congrArg (·.state) hexch').trans hstays
  · intro taken port requeued emptied
    have hports : ∀ p : Port, (u.pool.ports.get p).emptied = port p := fun p => by
      rw [show port p = ⟨(s.port p).link, [], [], [], none, (u.port p).activity⟩ from rfl, ← htaken p]
      rfl
    have hemptied : trafficEmptied u = emptied := by
      rw [hblocks, trafficEmptied_eq hnodup u.pool u.mon u.mgmt, show u.pool.ports.uplink.emptied = port .uplink from hports .uplink,
        show u.pool.ports.till.emptied = port .till from hports .till, show u.pool.ports.label.emptied = port .label from hports .label,
        show u.pool.ports.guest.emptied = port .guest from hports .guest, show u.pool.ports.office.emptied = port .office from hports .office]
      simp only [outbox_waits]
      rfl
    refine ⟨?_, fun hradio => ?_⟩
    · rw [trafficReset_eq, hemptied, trafficResumed]
    · obtain ⟨hl, hq⟩ := trafficResumed_queue (s := emptied) fun x hx => by
        obtain ⟨e, he, rfl⟩ := List.mem_map.1 hx
        obtain ⟨d, hd, hde⟩ := requeued_label he
        exact hde ▸ hradio d hd
      rw [answer_labels, answer_disp, trafficReset_eq, hemptied]
      simp only [formRate_frame, uplinkResetTraffic_frame]
      exact ⟨hl, hq⟩

end Sys2Proof.Machine.Resets
